-- ==== Sys2Proof/Word.lean ====
section
/-!
DEFINITION. Sys2Proof/Word.lean: the part's two word types. A byte of a frame, a record or the identity page, and a part
time, the free-running 32-bit count of microseconds of R1. Every other quantity of the manual is a count and is a Nat.
-/
namespace Sys2Proof

/-- A byte on the wire. -/
abbrev Byte := BitVec 8

/-- A part time, in microseconds, modulo 2 to the power 32 (R1). -/
abbrev Time := BitVec 32

end Sys2Proof
end

