-- ==== Sys2Proof/Syntax.lean ====
section
/-!
DEFINITION. Sys2Proof/Syntax.lean: the commands of the MKN-6412, one constructor of `Instr` for each row of
spec/opcode_table.json, with the operands each row takes: the frame that arrives, or the fields that a mailbox request
carries. Every command but RESET carries first the microseconds that have passed since the command before it, because the
part time runs on between events (R1) and the table has no row for its passing.

A field of a request that the manual gives as a choice among names is an `Option` of those names: `none` is a code outside
the ones the manual lists, which the request's range check refuses.
-/
namespace Sys2Proof

/-! ### Names of states, kinds and modes (upper-case words of the manual) -/

/-- The two ports of the part: U toward the tool controller, D toward the node chain (Table 1). -/
inductive Port | u | d
  deriving DecidableEq, Repr

/-- Direction of a point (Table 2-1). -/
inductive Direction | set | sample
  deriving DecidableEq, Repr

/-- Field width and form of a point (Table 2-1). -/
inductive Encoding | u8 | u16 | bit
  deriving DecidableEq, Repr

/-- The quantities of Table 5. -/
inductive Quantity | flow | pressure | position | power | signal | digital
  deriving DecidableEq, Repr

/-- Owner of a point or a node: a context by number, or SHARED. -/
inductive Owner | ctx (c : Nat) | shared
  deriving DecidableEq, Repr

/-- Edges that raise a request (Table 2-1). -/
inductive EdgeSelect | none | rise | fall | both
  deriving DecidableEq, Repr

/-- The request a DIGITAL SAMPLE point's edge raises (Table 2-1). -/
inductive EdgeSource | none | emergencyInput | digitalInput
  deriving DecidableEq, Repr

/-- Kind of a context (Table 5-1). -/
inductive CtxKind | process | loadlock | transfer
  deriving DecidableEq, Repr

/-- Level of a PARK. -/
inductive ParkLevel | light | deep
  deriving DecidableEq, Repr

/-- Priority of a job (R81). -/
inductive Priority | normal | high
  deriving DecidableEq, Repr

/-- Levels of requests, and NONE, from lowest to highest (chapter 9). -/
inductive Level | none | low | high | emergency
  deriving DecidableEq, Repr

/-! ### Frames -/

/-- An Ethernet frame as it arrives or leaves: the twelve bytes of the two addresses, the EtherType, the bytes that follow it
up to the frame check (vendor header, payload, and whatever stands after the payload), and the frame check, whose four bytes
stand least significant first (R192, section 1.2). -/
structure Frame where
  addresses : List Byte
  etherType : BitVec 16
  data : List Byte
  check : BitVec 32
  deriving DecidableEq, Repr

/-- A MAILBOX frame that carries a request. `complete` says that its body holds the fields the request carries, and as many
entries as its count field asks for (R178 stage 4), where the manual does not itself say how long that body is (log 2). The manual
does not give the places of a request's fields in its body, so the fields themselves are operands of the command. -/
structure Mailbox where
  frame : Frame
  complete : Bool
  deriving DecidableEq, Repr

/-! ### Fields that requests carry -/

/-- The fields of Table 2-1 as WRITE_POINTS carries them. -/
structure PointFields where
  direction : Option Direction
  image : Nat
  offset : Nat
  encoding : Option Encoding
  bit : Nat
  quantity : Option Quantity
  owner : Owner
  node : Nat
  engFull : Nat
  rawFull : Nat
  g : Nat
  line : Option Nat
  shift : Nat
  edge : Option EdgeSelect
  source : Option EdgeSource
  deriving DecidableEq, Repr

/-- One entry of WRITE_POINTS: an index and EMPTY (`none`) or the fields (R21). -/
structure PointWrite where
  index : Nat
  content : Option PointFields
  deriving DecidableEq, Repr

/-- The configured fields of Table 3-1. -/
structure NodeFields where
  ring : Nat
  image : Nat
  touch : Nat
  owner : Owner
  required : Bool
  staleAfter : Nat
  deriving DecidableEq, Repr

/-- One entry of WRITE_NODES: an index and UNDEFINED (`none`) or the configured fields (R40). -/
structure NodeWrite where
  index : Nat
  content : Option NodeFields
  deriving DecidableEq, Repr

/-- One entry of WRITE_SUPPLY (R120). -/
structure SupplyWrite where
  line : Nat
  budget : Bool
  capacity : Nat
  deriving DecidableEq, Repr

/-- One entry of WRITE_ROUGHING: a group and the contexts of its member set (R123). -/
structure RoughingWrite where
  group : Nat
  members : List Nat
  deriving DecidableEq, Repr

/-- The configured fields of Table 8-1. -/
structure GateFields where
  owner : Nat
  partner : Nat
  openOut : Nat
  openSw : Nat
  closedSw : Nat
  openDelta : Nat
  tripDelta : Nat
  motionTimeout : Nat
  deriving DecidableEq, Repr

/-- One entry of WRITE_GATES: an index and UNDEFINED (`none`) or the configured fields (R153). -/
structure GateWrite where
  index : Nat
  content : Option GateFields
  deriving DecidableEq, Repr

/-- The configuration that WRITE_CONTEXT carries (Table 5-1). Bit n of `masks` is the mask of source n, and entry n of
`levels` the level given for source 4 + n. DESIGN CHOICE (log 2): the body's coding of a mask is open, and is taken to be one bit for
each source, set for masked, so that no code stands outside masked and unmasked. -/
structure CtxFields where
  kind : Option CtxKind
  pressure : Option Nat
  plasma : Option Nat
  strike : Nat
  lost : Nat
  idleStep : Nat
  parkLight : Nat
  parkDeep : Nat
  handlerLow : Nat
  handlerHigh : Nat
  handlerEmergency : Nat
  wakeLight : Nat
  wakeDeep : Nat
  autoPark : Nat
  wakeOnJob : Bool
  masks : BitVec 16
  levels : List Level
  deriving DecidableEq, Repr, Inhabited

/-- The five identity page fields that STORE_CONFIG carries (Table 10-4). -/
structure PageFields where
  address : Nat
  period : Nat
  nGap : Nat
  offset : Nat
  override : Nat
  deriving DecidableEq, Repr, Inhabited

/-- Every field that a request of some code carries, and whether the body is as long as its request needs (R178 stage 4). -/
structure Fields where
  complete : Bool
  start : Nat
  count : Nat
  /-- Index of a point, a gate or a context. -/
  index : Nat
  value : Nat
  points : List PointWrite
  nodes : List NodeWrite
  supplies : List SupplyWrite
  groups : List RoughingWrite
  gates : List GateWrite
  records : List (List Byte)
  cfg : CtxFields
  enable : Bool
  closing : Bool
  directionListed : Bool
  masks : BitVec 16
  levels : List Level
  sources : BitVec 16
  tag : BitVec 32
  priority : Option Priority
  reportAll : Bool
  parkLevel : Option ParkLevel
  clear : Bool
  page : PageFields
  deriving DecidableEq, Repr, Inhabited

/-! ### The commands -/

/-- The commands, one constructor per row of spec/opcode_table.json. -/
inductive Instr
  | reset
  | loadCompletion (dt : Nat) (page : Option (List Byte))
  | storeCompletion (dt : Nat) (answered : Bool)
  | processFrameOutbound (dt : Nat) (f : Frame)
  | processFrameReturn (dt : Nat) (f : Frame)
  | mailboxFrameReturn (dt : Nat) (f : Frame)
  | mailboxHolderFull (dt : Nat) (f : Frame)
  | otherFrame (dt : Nat) (port : Port) (f : Frame)
  | badCheckArrival (dt : Nat) (port : Port) (f : Frame)
  | gapTimerExpiry (dt : Nat)
  | holderTimerExpiry (dt : Nat)
  | rampEnd (dt : Nat) (point : Nat)
  | autoParkExpiry (dt : Nat) (c : Nat)
  | wakeDelayExpiry (dt : Nat) (c : Nat)
  | timeExpiry (dt : Nat) (c : Nat) (condition : Nat)
  | rampCompletion (dt : Nat) (c : Nat)
  | maxTimeExpiry (dt : Nat) (c : Nat)
  | strikeWindowExpiry (dt : Nat) (c : Nat)
  | settleExpiry (dt : Nat) (c : Nat)
  | measureExpiry (dt : Nat) (c : Nat)
  | admitTimeoutExpiry (dt : Nat) (c : Nat)
  | motionTimerExpiry (dt : Nat) (gate : Nat)
  | identify (dt : Nat) (m : Mailbox)
  | readStatus (dt : Nat) (m : Mailbox)
  | writePoints (dt : Nat) (m : Mailbox) (entries : List PointWrite)
  | readPoints (dt : Nat) (m : Mailbox) (start count : Nat)
  | readSamples (dt : Nat) (m : Mailbox) (start count : Nat)
  | forcePoint (dt : Nat) (m : Mailbox) (index value : Nat)
  | releasePoint (dt : Nat) (m : Mailbox) (index : Nat)
  | writeNodes (dt : Nat) (m : Mailbox) (entries : List NodeWrite)
  | readNodes (dt : Nat) (m : Mailbox) (start count : Nat)
  | writeSupply (dt : Nat) (m : Mailbox) (entries : List SupplyWrite)
  | readSupply (dt : Nat) (m : Mailbox) (start count : Nat)
  | writeRoughing (dt : Nat) (m : Mailbox) (entries : List RoughingWrite)
  | readRoughing (dt : Nat) (m : Mailbox) (start count : Nat)
  | writeGates (dt : Nat) (m : Mailbox) (entries : List GateWrite)
  | readGates (dt : Nat) (m : Mailbox) (start count : Nat)
  /-- `listed` is false for a direction that is neither OPEN nor CLOSE (R152). -/
  | gateRequestOpen (dt : Nat) (m : Mailbox) (gate : Nat) (listed : Bool)
  /-- `listed` is false for a direction that is neither OPEN nor CLOSE (R152). -/
  | gateRequestClose (dt : Nat) (m : Mailbox) (gate : Nat) (listed : Bool)
  /-- Each record is the 208 bytes of R194. -/
  | writeRecords (dt : Nat) (m : Mailbox) (start : Nat) (records : List (List Byte))
  | readRecords (dt : Nat) (m : Mailbox) (start count : Nat)
  | writeContextEnable (dt : Nat) (m : Mailbox) (c : Nat) (cfg : CtxFields)
  | writeContextDisable (dt : Nat) (m : Mailbox) (c : Nat) (cfg : CtxFields)
  | readContext (dt : Nat) (m : Mailbox) (c : Nat)
  /-- Bit n of `masks` is the mask given for source n, one bit each (log 2), entry n of `levels` the level given for source n. -/
  | setMask (dt : Nat) (m : Mailbox) (c : Nat) (masks : BitVec 16) (levels : List Level)
  | clearRequest (dt : Nat) (m : Mailbox) (c : Nat) (sources : BitVec 16)
  | submitJob (dt : Nat) (m : Mailbox) (c : Nat) (tag : BitVec 32) (start : Nat) (priority : Option Priority)
      (reportAll : Bool)
  | cancelJob (dt : Nat) (m : Mailbox) (c : Nat) (tag : BitVec 32)
  | abort (dt : Nat) (m : Mailbox) (c : Nat)
  | clear (dt : Nat) (m : Mailbox) (c : Nat)
  | park (dt : Nat) (m : Mailbox) (c : Nat) (level : Option ParkLevel)
  | wake (dt : Nat) (m : Mailbox) (c : Nat)
  | readReports (dt : Nat) (m : Mailbox) (count : Nat)
  | readCounters (dt : Nat) (m : Mailbox) (start count : Nat) (clear : Bool)
  | storeConfig (dt : Nat) (m : Mailbox) (page : PageFields)
  | softReset (dt : Nat) (m : Mailbox)
  | unknownRequestCode (dt : Nat) (m : Mailbox)
  deriving DecidableEq, Repr

end Sys2Proof
end

