-- ==== Sys2Proof/Decode.lean ====
section
/-!
DEFINITION. Sys2Proof/Decode.lean: the command that a word spells. No row of spec/opcode_table.json gives bits, so no word spells a
command: the part's commands are frames at its ports and the expiry of its own timers.
-/
namespace Sys2Proof

/-- The command that a word of so many bits spells by the table: none. -/
def decodeTableWord (_nbits _w : Nat) : Option Instr := none

end Sys2Proof
end

