-- ==== Sys2Proof/Machine/Blocks.lean ====
section
/-!
DEFINITION. Sys2Proof/Machine/Blocks.lean: the state each block of the part holds (Table 2 of the Introduction), as plain data:
points, nodes, records, contexts, request units, supply lines, roughing groups, the wait list, gates, the loader, reports and
counters. `State` (Machine/State.lean) puts them together.
-/
namespace Sys2Proof.Machine

/-! ### Timers -/

/-- A running timer: the part time it started and its length in microseconds. It is due `dur` microseconds after `start`;
the interval is measured as a difference of part times modulo 2 to the power 32 (R1). A stopped timer is `none`. -/
structure Timer where
  start : Time
  dur : Nat
  deriving DecidableEq, Repr

/-! ### Points and samples (chapter 2) -/

/-- The stored fields of a DEFINED point entry (Table 2-1), less the direction, which is the constructor of `Point`. -/
structure PointCfg where
  image : Nat
  offset : Nat
  encoding : Encoding
  bit : Nat
  quantity : Quantity
  owner : Owner
  node : Nat
  engFull : Nat
  rawFull : Nat
  g : Nat
  line : Option Nat
  shift : Nat
  edge : EdgeSelect
  source : EdgeSource
  deriving DecidableEq, Repr

/-- The setpoint record of a SET point (R24): start value, target, ramp start time, ramp duration in microseconds, the
forced value while forced, the SATURATED flag and the last raw value stamped, or none. DESIGN CHOICE (log 33): the forced flag and the
forced value are one field, so a record holds no forced value while its flag is clear, and READ_SAMPLES returns none then (R34, R36). -/
structure SetRec where
  s : Nat
  t : Nat
  r : Time
  d : Nat
  forced : Option Nat
  saturated : Bool
  lastRaw : Option Nat
  deriving DecidableEq, Repr

/-- The sample state of a SAMPLE point (Table 2-2); the edge baseline is `none` when there is none. -/
structure Sample where
  x : Nat
  eng : Nat
  f : Nat
  stale : Bool
  overRange : Bool
  lastFresh : Time
  baseline : Option Bool
  deriving DecidableEq, Repr

/-- A point entry with its setpoint record or sample state (R20). -/
inductive Point
  | empty
  | set (cfg : PointCfg) (rec : SetRec)
  | sample (cfg : PointCfg) (st : Sample)
  deriving DecidableEq, Repr

/-! ### Nodes (chapter 3) -/

/-- Presence state of a node (Table 3-2). -/
inductive NodeState | unseen | fresh | stale
  deriving DecidableEq, Repr

/-- A defined node entry: configured fields (Table 3-1) and learned fields (Table 3-2). -/
structure Node where
  cfg : NodeFields
  age : Nat
  state : NodeState
  conflict : Bool
  lastSeen : Option Time
  deriving DecidableEq, Repr

/-! ### Step records (chapter 4) -/

/-- Step kinds (Table 4-1). -/
inductive StepKind
  | process | pump | ror | gateOpen | gateClose | loopBegin | loopEnd | jobEnd | ret | halt | abandon
  deriving DecidableEq, Repr

/-- The next field: SEQUENTIAL or a record index (R57). -/
inductive Next | sequential | index (n : Nat)
  deriving DecidableEq, Repr

/-- Mode of a BAND item (Table 4-3). -/
inductive BandMode | absolute | relative
  deriving DecidableEq, Repr

/-- Source of a BAND item (Table 4-3). -/
inductive BandSource | pressure | flow | rf
  deriving DecidableEq, Repr

/-- An END item (Table 4-4). -/
inductive EndItem
  | time (t : Nat)
  | below (point value hold : Nat)
  | above (point value hold : Nat)
  | input (point : Nat) (value : Bool)
  deriving DecidableEq, Repr

/-- A BAND item (Table 4-3). -/
structure BandItem where
  point : Nat
  mode : BandMode
  low : Int
  high : Int
  reference : Nat
  settle : Nat
  persist : Nat
  source : BandSource
  deriving DecidableEq, Repr

/-- A SET item (Table 4-2). -/
structure SetItem where
  point : Nat
  target : Nat
  ramp : Nat
  deriving DecidableEq, Repr

/-- The content of an item slot (section 4.2). -/
inductive Item
  | empty
  | set (i : SetItem)
  | band (i : BandItem)
  | cond (i : EndItem)
  deriving DecidableEq, Repr

/-- The fields of a HEAD record (Table 4-1), less MORE. -/
structure Head where
  kind : StepKind
  report : Bool
  zeroOthers : Bool
  creditTime : Bool
  next : Next
  admitTimeout : Nat
  maxTime : Nat
  endAll : Bool
  group : Option Nat
  gate : Option Nat
  loopCount : Nat
  strikeWindow : Nat
  rorSettle : Nat
  rorMeasure : Nat
  rorLimit : Nat
  deriving DecidableEq, Repr

/-- A record of the recipe store (R50): EMPTY, HEAD with six slots, or CONT with ten, the last two with their MORE flag. -/
inductive Record
  | empty
  | head (h : Head) (items : List Item) (more : Bool)
  | cont (items : List Item) (more : Bool)
  deriving DecidableEq, Repr

/-- A step gathered from its records: its HEAD fields, its items in slot order, and the index after its last record. -/
structure Step where
  head : Head
  items : List Item
  after : Nat
  deriving DecidableEq, Repr

/-- Path purposes (Table 4-6), in the table's order. -/
inductive Purpose | job | idle | parkLight | parkDeep | handlerLow | handlerHigh | handlerEmergency
  deriving DecidableEq, Repr

/-- Refusal reasons of the validation walk (Table 4-7), in the table's order. -/
inductive WalkReason
  | notHead | chain | tooLong | revisit | loopDepth | loopUnbalanced | jobPathEnd | handlerPathEnd | kindField | itemLimit
  | targetRange | setPoint | samplePoint | gateNotOwned | groupNotMember | emergencyRules | idleParkRules | useLimit
  deriving DecidableEq, Repr

/-- A walk's refusal: the reason, the record index at which the fault was found, and the slot of an item fault (R61). -/
structure WalkFault where
  reason : WalkReason
  record : Nat
  slot : Option Nat
  deriving DecidableEq, Repr

/-! ### Contexts (chapters 5 and 6) -/

/-- The sixteen request sources, in the order of Table 9-1. -/
inductive Source
  | emergencyInput | gatePressure | ringGap | operatorAbort | sampleStale | pressureBand | flowBand | rfBand
  | strikeFail | plasmaLost | leakRate | admitTimeout | stepTimeout | gateMotion | digitalInput | saturation
  deriving DecidableEq, Repr

/-- A context's stored configuration (Table 5-1). Bit n of `masks` is set when source n (4 to 15) is masked, bit n of `highs`
when its level is HIGH and clear when it is LOW; bits 0 to 3 are clear in both. -/
structure CtxCfg where
  kind : CtxKind
  pressure : Option Nat
  plasma : Option Nat
  strike : Nat
  lost : Nat
  idleStep : Nat
  parkLight : Nat
  parkDeep : Nat
  handlerLow : Nat
  handlerHigh : Nat
  handlerEmergency : Nat
  wakeLight : Nat
  wakeDeep : Nat
  autoPark : Nat
  wakeOnJob : Bool
  masks : BitVec 16
  highs : BitVec 16
  deriving DecidableEq, Repr

/-- Context states (Table 5-0), PARKED with its level. -/
inductive CtxState | offline | idle | parked (level : ParkLevel) | waking | running | diverted | halted
  deriving DecidableEq, Repr

/-- Phases of a step (Table 6-2); `waiting` is the phase ADMIT. -/
inductive Phase | waiting | ramp | hold | settle | measure | motion
  deriving DecidableEq, Repr

/-- An open loop level (R112). -/
structure LoopLevel where
  begin : Nat
  count : Nat
  iteration : Nat
  deriving DecidableEq, Repr

/-- A job (R81), with the set of record indices of the path it was validated with (R69). -/
structure Job where
  tag : BitVec 32
  start : Nat
  priority : Priority
  reportAll : Bool
  path : List Nat
  deriving DecidableEq, Repr

/-- A running job with its start time and its run time, a count that saturates (R1, R86). -/
structure RunningJob where
  job : Job
  startTime : Time
  runTime : Nat
  deriving DecidableEq, Repr

/-- One END condition of the standing step: the item, its met flag, the hold start of BELOW and ABOVE, and the timer of
TIME (Table 6-2). -/
structure Cond where
  item : EndItem
  met : Bool
  holdStart : Option Time
  timer : Option Timer
  deriving DecidableEq, Repr

/-- One BAND of the standing step: the item, its limits as fixed at admission (R104), the out-of-band start and the fired
flag (Table 6-2). -/
structure Band where
  item : BandItem
  low : Int
  high : Int
  outStart : Option Time
  fired : Bool
  deriving DecidableEq, Repr

/-- Strike state (Table 6-2). -/
inductive Strike | notPlasma | unstruck | struck | failed
  deriving DecidableEq, Repr

/-- The step state a context sequencer holds for the step at which it stands (Table 6-2). `admitWait` and `elapsed` are the
saturating counts of R1. `step` is the content of the step, which cannot change while its path is held (R69). `targets` are
the prospective targets as point and target, `demand` the demand on lines 0 to 11 (R95). -/
structure StepState where
  step : Step
  phase : Phase
  admitEntry : Time
  admitWait : Nat
  admission : Option Time
  elapsed : Nat
  targets : List (Nat × Nat)
  demand : List Nat
  rampEnd : Option Timer
  conds : List Cond
  bands : List Band
  maxTimer : Option Timer
  strikeTimer : Option Timer
  rorTimer : Option Timer
  strike : Strike
  lostRaised : Bool
  timeoutRaised : Bool
  pressure : Option (Nat × Nat)
  p0 : Nat
  t0 : Time
  valid0 : Bool
  settleAt : Time
  credit : Nat
  deriving DecidableEq, Repr

/-- A return record (R166). -/
structure ReturnRecord where
  head : Nat
  loops : List LoopLevel
  runTime : Nat
  level : Level
  deriving DecidableEq, Repr

/-- A context sequencer with its request unit (chapters 5, 6 and 9) and the saturation marker that the point table keeps for
it. `lastRest` is the idle or park step it last applied (R13, R172), `paths` the six configured paths it holds while enabled
(R69). `loops` has the innermost level last, `stack` the latest record last. -/
structure Ctx where
  cfg : CtxCfg
  state : CtxState
  cur : Option Nat
  lastRest : Option Nat
  loops : List LoopLevel
  job : Option RunningJob
  queue : List Job
  autoPark : Option Timer
  wakeDelay : Option Timer
  step : Option StepState
  paths : List (List Nat)
  flags : BitVec 16
  masks : BitVec 16
  highs : BitVec 16
  isl : Level
  stack : List ReturnRecord
  marker : Bool
  deriving DecidableEq, Repr

/-! ### The arbiter (chapter 7) -/

/-- A supply line: budget flag, capacity and the reservations of contexts 0 to 5 (R119). -/
structure Supply where
  budget : Bool
  capacity : Nat
  reservations : List Nat
  deriving DecidableEq, Repr

/-- A roughing group: member set and holder (R122). -/
structure Roughing where
  members : List Nat
  holder : Option Nat
  deriving DecidableEq, Repr

/-- Class of a presented step (R124). -/
inductive Class | handler | job
  deriving DecidableEq, Repr

/-- A wait-list entry (R134). Its head index and its needs are those of the step at which the context stands in ADMIT, and
are read there. `waited` is the saturating count of R1. -/
structure WaitEntry where
  ctx : Nat
  cls : Class
  priority : Priority
  entryTime : Time
  waited : Nat
  timer : Option Timer
  raised : Bool
  deriving DecidableEq, Repr

/-! ### Gates (chapter 8) -/

/-- Gate states (R143). -/
inductive GateState | closed | opening | open | closing | fault
  deriving DecidableEq, Repr

/-- Switch readings (R144). -/
inductive Reading | closedSw | openSw | mid | both
  deriving DecidableEq, Repr

/-- Cause of a gate's change of state (R151). -/
inductive GateCause | step | request | reading | timeout
  deriving DecidableEq, Repr

/-- A defined gate entry (Tables 8-1 and 8-2). -/
structure Gate where
  cfg : GateFields
  state : GateState
  timer : Option Timer
  last : Option Reading
  tripRaised : Bool
  deriving DecidableEq, Repr

/-! ### The loader and the frame engine (chapters 1 and 10) -/

/-- Ring state (section 1.4). -/
inductive Ring | down | up | gap
  deriving DecidableEq, Repr

/-- Loader state (chapter 10). -/
inductive LoaderState | loading | ready | storing
  deriving DecidableEq, Repr

/-- Last store outcome (chapter 10). -/
inductive StoreOutcome | none | done | failed
  deriving DecidableEq, Repr

/-- The config memory loader: state, page image, defaulted set in the order of Table 10-4, CONFIG_FAULT, last store outcome,
and the bytes that a store in progress writes (R187). -/
structure Loader where
  state : LoaderState
  page : List Byte
  defaulted : List Bool
  fault : Bool
  last : StoreOutcome
  writing : List Byte
  deriving DecidableEq, Repr

/-- The values in use (R184, R185): node address and whether its source is STORED, P in microseconds, N_gap, status offset and
strap-override flag. -/
structure InUse where
  address : Nat
  stored : Bool
  period : Nat
  nGap : Nat
  offset : Nat
  override : Bool
  deriving DecidableEq, Repr

/-! ### Reports and counters (chapter 11) -/

/-- Outcome of a job (Table 5-4). -/
inductive JobOutcome | completed | aborted | halted | cancelled | discarded
  deriving DecidableEq, Repr

/-- End reason of a step (Table 6-3). -/
inductive EndReason | condition (i : Nat) | none | aborted
  deriving DecidableEq, Repr

/-- Event of a NODE report (R46). -/
inductive NodeEvent | stale | recovered | conflict
  deriving DecidableEq, Repr

/-- Result of a rate-of-rise step (R109). -/
inductive RorResult | pass | fail | invalid
  deriving DecidableEq, Repr

/-- The fields of a report after the common ones (Table 10-13). -/
inductive ReportBody
  | stepEnd (reason : EndReason) (strike : Strike) (fired : List Bool) (duration admitWait : Nat)
      (pressure : Option (Nat × Nat))
  | jobEnd (outcome : JobOutcome) (priority : Priority) (start runTime : Nat)
  | request (source : Source) (level : Level) (masked alreadySet : Bool)
  | faultTaken (source : Source) (level : Level) (state : CtxState) (isl : Level) (phase : Option Phase) (depth : Nat)
      (handler : Nat) (runTime : Option Nat)
  | gate (gate : Nat) (before after : GateState) (cause : GateCause) (reading : Option Reading)
      (ownerF partnerF : Option Nat)
  | node (node : Nat) (event : NodeEvent) (touch : Byte) (age : Nat) (lastSeen : Option Time)
  | rorResult (result : RorResult) (p0 p1 span rate : Nat)
  deriving DecidableEq, Repr

/-- A report record (R195). -/
structure Report where
  ctx : Option Nat
  step : Option Nat
  time : Time
  tag : Option (BitVec 32)
  body : ReportBody
  deriving DecidableEq, Repr

/-- A counter: value and overflow flag (R199). -/
structure Counter where
  value : Nat
  overflow : Bool
  deriving DecidableEq, Repr

end Sys2Proof.Machine
end

