-- ==== Sys2Proof/Machine/Reply.lean ====
section
/-!
DEFINITION. Sys2Proof/Machine/Reply.lean: the responses that the mailbox unit forms (R178 to R183 and the rule of each
request), as the fields the manual gives them. Their byte layouts stand in Machine/Wire.lean where the manual gives them.
-/
namespace Sys2Proof.Machine

/-- Response codes (Table 10-3), in the order of Table 10-8. -/
inductive Code
  | ok | busy | badRequest | outOfRange | inUse | notAllowedInState | queueFull | duplicateTag | invalidRecipe | notFound
  | requestPending | kindNotForceable
  deriving DecidableEq, Repr

/-- The refusal body (R180). -/
structure RefusalBody where
  subject : Option Nat
  slot : Option Nat
  check : Option Nat
  purpose : Option Purpose
  reason : Option WalkReason
  deriving DecidableEq, Repr

/-- What READ_SAMPLES returns of one entry (R36). The state of a SET point's node is `none` for UNDEFINED, and the forced value is `none`
while the forced flag is clear (log 33). -/
inductive SampleView
  | empty
  | set (current ramp target left : Nat) (forced : Option Nat) (saturated : Bool) (lastRaw : Option Nat)
      (node : Option NodeState)
  | sample (st : Sample)
  deriving DecidableEq, Repr

/-- What READ_SUPPLY returns of one line (R121). -/
structure SupplyView where
  budget : Bool
  capacity : Nat
  reservations : List Nat
  sum : Nat
  free : Nat
  deriving DecidableEq, Repr

/-- What READ_GATES returns of one defined gate (R153); a pressure is `none` where the context names no pressure point. -/
structure GateView where
  cfg : GateFields
  state : GateState
  left : Option Nat
  last : Option Reading
  tripRaised : Bool
  output : Nat
  ownerPressure : Option (Nat × Bool)
  partnerPressure : Option (Nat × Bool)
  deriving DecidableEq, Repr

/-- The context fields of the status area (Table 1-3). -/
structure CtxStatus where
  state : CtxState
  phase : Option Phase
  step : Option Nat
  isl : Level
  highestPending : Level
  queueDepth : Nat
  iteration : Nat
  deriving DecidableEq, Repr

/-- A wait-list entry as READ_STATUS returns it (R139). -/
structure WaitView where
  ctx : Nat
  head : Option Nat
  cls : Class
  priority : Priority
  entryTime : Time
  waited : Nat
  raised : Bool
  unmetLines : List Nat
  unmetGroup : Option Nat
  unmetGate : Bool
  deriving DecidableEq, Repr

/-- The body of READ_STATUS (R183). -/
structure StatusView where
  ring : Ring
  degraded : Bool
  loader : LoaderState
  configFault : Bool
  queueDepth : Nat
  lost : Nat
  waits : List WaitView
  contexts : List CtxStatus
  deriving DecidableEq, Repr

/-- A job as READ_CONTEXT returns it (R91); the start time is given of a running job. -/
structure JobView where
  tag : BitVec 32
  start : Nat
  priority : Priority
  reportAll : Bool
  startTime : Option Time
  deriving DecidableEq, Repr

/-- The body of READ_CONTEXT (R91). -/
structure CtxView where
  cfg : CtxCfg
  enabled : Bool
  state : CtxState
  phase : Option Phase
  step : Option Nat
  running : Option JobView
  queue : List JobView
  autoParkLeft : Option Nat
  wakeLeft : Option Nat
  loops : List LoopLevel
  flags : BitVec 16
  masks : BitVec 16
  highs : BitVec 16
  isl : Level
  stackDepth : Nat
  deriving DecidableEq, Repr

/-- The body of IDENTIFY (R182). -/
structure IdentifyView where
  vendor : Nat
  part : Nat
  revision : Nat
  capacities : List Nat
  inUse : InUse
  straps : Byte
  loader : LoaderState
  configFault : Bool
  defaulted : List Bool
  lastStore : StoreOutcome
  page : PageFields
  time : Time
  deriving DecidableEq, Repr

/-- A response body. The reports of READ_REPORTS stand in the 32-byte form of R195, the values of READ_COUNTERS in the
4-byte form of R201. -/
inductive Body
  | empty
  | refusal (r : RefusalBody)
  | identify (v : IdentifyView)
  | status (v : StatusView)
  | points (v : List (Option (Direction × PointCfg)))
  | samples (v : List SampleView)
  | nodes (v : List (Option Node))
  | supply (v : List SupplyView)
  | roughing (v : List Roughing)
  | gates (v : List (Option GateView))
  | records (v : List (Record × Nat))
  | context (v : CtxView)
  | masks (masks highs : BitVec 16)
  | flags (before after : BitVec 16)
  | submitted (depth : Nat) (started : Bool)
  | cancelled (running : Bool)
  | reports (depth lost : Nat) (records : List (List Byte))
  | counters (start count : Nat) (values : List (BitVec 32))
  deriving DecidableEq, Repr

/-- A formed response: its code and body. -/
structure Response where
  code : Code
  body : Body
  deriving DecidableEq, Repr

end Sys2Proof.Machine
end

