-- ==== Sys2Proof/Config.lean ====
section
/-!
DEFINITION. Sys2Proof/Config.lean: what is fixed for the part: the capacities of R182, the wire's constants, and the values
that the manual leaves open, as constants without a body, so that no proof can use what they are.
-/
namespace Sys2Proof

/-- Entries of the point table (R20). -/
def Config.points : Nat := 512
/-- Entries of the node table (R39). -/
def Config.nodes : Nat := 64
/-- Records of the recipe store (R50). -/
def Config.records : Nat := 2048
/-- Contexts C0 to C5. -/
def Config.contexts : Nat := 6
/-- Supply lines L0 to L11 (R119). -/
def Config.lines : Nat := 12
/-- Roughing groups G0 to G2 (R122). -/
def Config.groups : Nat := 3
/-- Gates GV0 to GV7 (R142). -/
def Config.gates : Nat := 8
/-- Jobs a queue holds (R81). -/
def Config.queue : Nat := 4
/-- Entries the wait list holds (R134). -/
def Config.waits : Nat := 6
/-- Records the report queue holds (R196). -/
def Config.reports : Nat := 64
/-- Counters of the bank (R200). -/
def Config.counters : Nat := 117
/-- The vendor EtherType (Table 10-6). -/
def Config.vendorEtherType : BitVec 16 := 0x9B2C
/-- The part code that IDENTIFY returns (R182). -/
def Config.partCode : Nat := 6412
/-- The largest value of a saturating interval count (R1). -/
def Config.countMax : Nat := 4294967295

/-- The vendor code that IDENTIFY returns: the manual gives no value (log 3). -/
opaque Config.vendorCode : Nat

/-- The design revision that IDENTIFY returns: the manual gives no value (log 3). -/
opaque Config.designRevision : Nat

/-- The last fresh time of a sample state that has seen no fresh collection: R23 gives it no value (log 4). The argument is the
count of free values drawn so far. -/
opaque Config.noFreshTime : Nat → Time

/-- What a rate-of-rise step reads as the pressure in a context without a pressure point: R108 to R110 report the reading and give it no
value (log 11). The argument is the count of free values drawn so far. -/
opaque Config.noPressure : Nat → BitVec 32

/-- The bytes of an accepted response's body in the frame, where the manual gives its fields and not their places (log 5). -/
opaque Config.bodyBytes : Machine.Body → List Byte

/-- The fields that a mailbox frame's body spells, where the command does not give them: the manual gives most request fields no place in
the body (log 2). -/
opaque Config.fields : Frame → Fields

end Sys2Proof
end

