-- ==== Sys2Proof/Machine/State.lean ====
section
/-!
DEFINITION. Sys2Proof/Machine/State.lean: the whole state of the part, the reasons a command can be refused, the steps of work
that one event can leave to be done (`Task`), and the state right after reset.
-/
namespace Sys2Proof.Machine

/-- The part reports every error in a response, a flag or a report, and goes on; the manual describes nothing that stops it. So
no command faults, and the type has no constructor. -/
inductive Fault
  deriving DecidableEq, Repr

/-- Why a command has no meaning: every command of the table has one, so no command is refused. -/
inductive Refusal
  /-- Raised by `exec`'s arm of a command that has no meaning yet; safe, since the machine stops. -/
  | notModelled (mnemonic : String)
  deriving DecidableEq, Repr

/-- A piece of work of the event in progress. One event is told by the manual as blocks that hand on to one another
(a step's end takes up the next step, which the arbiter admits, which releases a group, which runs a scan ...). Each task is one
such hand-over; Machine/Cascade.lean takes them one at a time, first in the list first. -/
inductive Task
  /-- A context takes up the step at a head index, with a time credit (R94, R171). -/
  | takeUp (c head credit : Nat)
  /-- Stage 5 of idle entry, and R89's like: start the oldest job, or the auto-park timer. -/
  | restStart (c : Nat)
  /-- The request unit of a context attempts taking (R160, R161). -/
  | attempt (c : Nat)
  /-- A source is raised in a context (R157). -/
  | raise (c : Nat) (src : Source)
  /-- A scan trigger (R136). -/
  | trigger
  /-- The rest of a run of the scan, which has left the entries of these contexts waiting (R135). -/
  | scan (left : List Nat)
  /-- What a step's admission itself may bring about: its end at admission (R98, R101). -/
  | admitEnd (c : Nat)
  /-- The normal end of the step at which a context stands (R115). -/
  | stepEnd (c : Nat) (reason : EndReason)
  /-- The admission of a gate step, handed to the gate controller (R111). -/
  | gateStart (c gate : Nat) (opening : Bool)
  /-- Stage 2 of handing on a gate's new state: the owner's sequencer is told (R151). -/
  | tellSequencer (gate : Nat)
  /-- Stage 3: the owner's request unit is told; whether its hold stood before the change (R151, R162). -/
  | tellUnit (gate : Nat) (held : Bool)
  /-- Evaluation of a node's touch byte (R44). -/
  | evalNode (node : Nat) (touch : Byte)
  /-- Collection of a SAMPLE point's raw count (R29). -/
  | collect (point x : Nat)
  /-- A context is notified that an image of so many payload bytes was collected (R102). -/
  | notifyCtx (c image len : Nat)
  /-- The gate controller forms a gate's switch reading at a collection notification (R144). -/
  | readGate (gate image len : Nat)
  /-- The gate controller compares the two pressures of an OPEN gate (R150). -/
  | compareGate (gate image len : Nat)
  /-- The arbiter is notified of a collection (R136). -/
  | notifyArbiter (image len : Nat)
  /-- Stages 4 and 5 of R7 on the frame that returns. -/
  | finishReturn (image : Nat) (f : Frame)
  deriving DecidableEq, Repr

/-- The mailbox holder while FULL (section 1.6): the request tag, the formed response, the holder timer, and whether the
response is the OK of a SOFT_RESET, whose emptying resets the part (R16, R190). -/
structure Held where
  tag : BitVec 16
  response : Response
  timer : Timer
  softReset : Bool
  deriving DecidableEq, Repr

/-- The state of the part. -/
structure State where
  /-- The commands that wait, the first to be taken first (the model's own). -/
  pending : List Instr
  /-- The work left to do of the event in progress; empty between events (the model's own). -/
  agenda : List Task
  /-- How many free values have been drawn (the model's own). -/
  free : Nat
  /-- The part time (R1). -/
  now : Time
  /-- The value on the address straps. -/
  straps : Byte
  /-- The frame that left last at port U, and at port D. -/
  sentU : Option Frame
  sentD : Option Frame
  /-- Ring state, gap timer, bad-check run count, DEGRADED and mailbox holder (chapter 1). -/
  ring : Ring
  gapTimer : Option Timer
  badRun : Nat
  degraded : Bool
  holder : Option Held
  /-- The config memory loader and the values in use (chapter 10). -/
  loader : Loader
  inUse : InUse
  /-- The point table and sample store (chapter 2). -/
  points : List Point
  /-- The node table; `none` is undefined (chapter 3). -/
  nodes : List (Option Node)
  /-- The recipe store and its use counts (chapter 4). -/
  records : List Record
  useCounts : List Nat
  /-- The contexts (chapters 5, 6 and 9). -/
  ctxs : List Ctx
  /-- Supply lines, roughing groups and wait list (chapter 7). -/
  lines : List Supply
  groups : List Roughing
  waits : List WaitEntry
  /-- A scan is in progress, and it has met a trigger since it began (R135; set only inside an event). -/
  scanning : Bool
  scanAgain : Bool
  /-- The gate entries; `none` is undefined (chapter 8). -/
  gates : List (Option Gate)
  /-- Report queue, oldest first, reports-lost count and counter bank (chapter 11). -/
  reports : List Report
  lost : Nat
  counters : List Counter
  deriving DecidableEq, Repr

/-- The default configuration of Table 5-6, with the reset masks and levels of Table 9-1: sources 14 and 15 masked; sources 4,
7, 9 and 13 at level HIGH. -/
def CtxCfg.default : CtxCfg :=
  { kind := .process, pressure := none, plasma := none, strike := 1, lost := 0, idleStep := 0, parkLight := 0, parkDeep := 0,
    handlerLow := 0, handlerHigh := 0, handlerEmergency := 0, wakeLight := 0, wakeDeep := 0, autoPark := 0, wakeOnJob := true,
    masks := 0xC000, highs := 0x2290 }

/-- A context right after reset (R92, R118, R176, R37). -/
def Ctx.reset : Ctx :=
  { cfg := CtxCfg.default, state := .offline, cur := none, lastRest := none, loops := [], job := none, queue := [],
    autoPark := none, wakeDelay := none, step := none, paths := [], flags := 0, masks := CtxCfg.default.masks,
    highs := CtxCfg.default.highs, isl := .none, stack := [], marker := false }

/-- A supply line right after reset (R140). -/
def Supply.reset : Supply := { budget := false, capacity := 0, reservations := List.replicate Config.contexts 0 }

/-- The loader right after reset (R184, R189). What the page image, the defaulted set and CONFIG_FAULT read before the load
completes the manual does not say (log 6). -/
def Loader.reset : Loader :=
  { state := .loading, page := List.replicate 32 0xFF, defaulted := List.replicate 5 false, fault := false, last := .none,
    writing := [] }

/-- The strapped address (R185): a strap value of 0 or 255 gives 1. -/
def strappedAddress (straps : Byte) : Nat := if straps = 0 ∨ straps = 0xFF then 1 else straps.toNat

/-- The values in use while the load runs: the strapped address (R17); P, N_gap and the status offset are not yet known, and
hold their defaults here (log 6). -/
def InUse.loading (straps : Byte) : InUse :=
  { address := strappedAddress straps, stored := false, period := 1000, nGap := 4, offset := 0, override := false }

/-- The part right after reset, with a given value on the address straps. -/
def State.resetWith (straps : Byte) : State :=
  { pending := [], agenda := [], free := 0, now := 0, straps := straps, sentU := none, sentD := none,
    ring := .down, gapTimer := none, badRun := 0, degraded := false, holder := none,
    loader := Loader.reset, inUse := InUse.loading straps,
    points := List.replicate Config.points .empty, nodes := List.replicate Config.nodes none,
    records := List.replicate Config.records .empty, useCounts := List.replicate Config.records 0,
    ctxs := List.replicate Config.contexts Ctx.reset,
    lines := List.replicate Config.lines Supply.reset,
    groups := List.replicate Config.groups { members := [], holder := none },
    waits := [], scanning := false, scanAgain := false,
    gates := List.replicate Config.gates none,
    reports := [], lost := 0, counters := List.replicate Config.counters { value := 0, overflow := false } }

/-- The machine right after reset. The straps are pins, whose value reset does not give; it is 1 here (log 7). -/
def State.reset : State := State.resetWith 1

end Sys2Proof.Machine
end

