-- ==== Sys2Proof/Machine/Ops.lean ====
section
/-!
DEFINITION. Sys2Proof/Machine/Ops.lean: the named operations that the blocks share: reading and writing table entries, part time
and timers (R1), setpoint records and their retarget (R24, R25), forces (R34), reports (R196, R197), counters (R199), and bytes
of a payload.
-/
namespace Sys2Proof.Machine

/-! ### Table entries. An index outside a table reads as its reset entry and is not written. -/

/-- Point entry p. -/
def State.point (s : State) (p : Nat) : Point := s.points.getD p .empty
/-- Write point entry p. -/
def State.setPoint (s : State) (p : Nat) (x : Point) : State := { s with points := s.points.set p x }
/-- Node entry n; `none` is undefined. -/
def State.node (s : State) (n : Nat) : Option Node := s.nodes.getD n none
/-- Write node entry n. -/
def State.setNode (s : State) (n : Nat) (x : Option Node) : State := { s with nodes := s.nodes.set n x }
/-- Record i of the recipe store. -/
def State.record (s : State) (i : Nat) : Record := s.records.getD i .empty
/-- Use count of record i. -/
def State.useCount (s : State) (i : Nat) : Nat := s.useCounts.getD i 0
/-- Context c. -/
def State.ctx (s : State) (c : Nat) : Ctx := s.ctxs.getD c Ctx.reset
/-- Write context c. -/
def State.setCtx (s : State) (c : Nat) (x : Ctx) : State := { s with ctxs := s.ctxs.set c x }
/-- Supply line l. -/
def State.line (s : State) (l : Nat) : Supply := s.lines.getD l Supply.reset
/-- Roughing group g. -/
def State.group (s : State) (g : Nat) : Roughing := s.groups.getD g { members := [], holder := none }
/-- Gate entry g; `none` is undefined. -/
def State.gate (s : State) (g : Nat) : Option Gate := s.gates.getD g none
/-- Write gate entry g. -/
def State.setGate (s : State) (g : Nat) (x : Option Gate) : State := { s with gates := s.gates.set g x }
/-- Put work in front of what is left to do of the event. -/
def State.push (s : State) (ts : List Task) : State := { s with agenda := ts ++ s.agenda }
/-- Put a scan trigger in front when one came (R136). -/
def State.triggerIf (s : State) (b : Bool) : State := if b then s.push [.trigger] else s

/-- Apply f to every entry of a list, with the entry's index, counted from n. -/
def mapFrom {α β : Type} (f : Nat → α → β) : Nat → List α → List β
  | _, [] => []
  | n, a :: as => f n a :: mapFrom f (n + 1) as

/-- The entries of a list that f keeps, with their indices, counted from n. -/
def pickFrom {α β : Type} (f : Nat → α → Option β) : Nat → List α → List β
  | _, [] => []
  | n, a :: as => (f n a).toList ++ pickFrom f (n + 1) as

/-- The context numbers 0 to 5, ascending. -/
def contexts : List Nat := List.range Config.contexts

/-! ### Part time and timers -/

/-- A saturating interval count rises by dt microseconds (R1). -/
def satAdd (n dt : Nat) : Nat := min (n + dt) Config.countMax

/-- The timer's interval has passed at part time now. -/
def Timer.reached (t : Timer) (now : Time) : Bool := t.dur ≤ (now - t.start).toNat

/-- Microseconds left on the timer. -/
def Timer.left (t : Timer) (now : Time) : Nat := t.dur - (now - t.start).toNat

/-- A timer is running and its interval has passed. -/
def timerDue (t : Option Timer) (now : Time) : Bool :=
  match t with
  | some t => t.reached now
  | none => false

/-- The counts of a standing step rise: its admit wait in ADMIT, its elapsed time afterwards (R1, Table 6-2). -/
def StepState.advance (dt : Nat) (st : StepState) : StepState :=
  match st.phase with
  | .waiting => { st with admitWait := satAdd st.admitWait dt }
  | _ => { st with elapsed := satAdd st.elapsed dt }

/-- The counts of a context rise. -/
def Ctx.advance (dt : Nat) (x : Ctx) : Ctx :=
  { x with step := x.step.map (StepState.advance dt),
           job := x.job.map fun j => { j with runTime := satAdd j.runTime dt } }

/-- dt microseconds of part time pass: the part time runs on modulo 2 to the power 32, and every interval that no programmed
time bounds is counted on (R1). -/
def State.advance (s : State) (dt : Nat) : State :=
  { s with now := s.now + BitVec.ofNat 32 dt,
           ctxs := s.ctxs.map (Ctx.advance dt),
           waits := s.waits.map fun e => { e with waited := satAdd e.waited dt } }

/-! ### Reports and counters -/

/-- Offer a report to the queue: appended while it holds fewer than 64, otherwise discarded and counted as lost (R196, R197). -/
def State.report (s : State) (ctx step : Option Nat) (tag : Option (BitVec 32)) (body : ReportBody) : State :=
  if s.reports.length < Config.reports then
    { s with reports := s.reports ++ [{ ctx := ctx, step := step, time := s.now, tag := tag, body := body }] }
  else { s with lost := min (s.lost + 1) 65535 }

/-- One count: the value rises by 1, or at its maximum the overflow flag is set (R199). -/
def Counter.count (k : Counter) : Counter :=
  if k.value < 2147483647 then { k with value := k.value + 1 } else { k with overflow := true }

/-- Counter n of the bank. -/
def State.counter (s : State) (n : Nat) : Counter := s.counters.getD n { value := 0, overflow := false }

/-- Count once in counter n (Table 11-2). -/
def State.count (s : State) (n : Nat) : State := { s with counters := s.counters.set n (s.counter n).count }

/-- Tag of the context's running job, or NONE. -/
def Ctx.jobTag (x : Ctx) : Option (BitVec 32) := x.job.map (·.job.tag)

/-! ### Setpoint records -/

/-- The ramp value at a part time (R24). -/
def SetRec.rampValue (r : SetRec) (now : Time) : Nat :=
  let e := (now - r.r).toNat
  if r.d = 0 ∨ r.d ≤ e then r.t
  else ((r.s : Int) + Int.tdiv (((r.t : Int) - r.s) * e) r.d).toNat

/-- The current value: the forced value if the record is forced, the ramp value otherwise (R24). -/
def SetRec.currentValue (r : SetRec) (now : Time) : Nat := r.forced.getD (r.rampValue now)

/-- The retarget: the new ramp starts from the value reached; the force and SATURATED are untouched (R25). -/
def SetRec.retarget (r : SetRec) (now : Time) (target duration : Nat) : SetRec :=
  { r with s := r.rampValue now, t := target, r := now, d := duration }

/-- A new setpoint record at part time now (R23, R38). -/
def SetRec.fresh (now : Time) : SetRec :=
  { s := 0, t := 0, r := now, d := 0, forced := none, saturated := false, lastRaw := none }

/-- Retarget the record of SET point p (R25). -/
def State.retarget (s : State) (p target duration : Nat) : State :=
  match s.point p with
  | .set cfg r => s.setPoint p (.set cfg (r.retarget s.now target duration))
  | _ => s

/-- A budgeted FLOW SET point or a POWER SET point (chapter 7): the points that R127 and R128 ask about. -/
def PointCfg.hot (cfg : PointCfg) : Bool :=
  match cfg.quantity with
  | .flow => cfg.line.isSome
  | .power => true
  | _ => false

/-- A FLOW or POWER point: the points that ZERO_OTHERS and idle entry zero (R79, R96). -/
def PointCfg.flowOrPower (cfg : PointCfg) : Bool :=
  match cfg.quantity with
  | .flow | .power => true
  | _ => false

/-- The point is at zero: its current value and its record's target are both 0 (R128). -/
def SetRec.atZero (r : SetRec) (now : Time) : Bool := r.currentValue now == 0 && r.t == 0

/-- Every budgeted FLOW and POWER SET point of context c is at zero (R128). -/
def State.ctxAtZero (s : State) (c : Nat) : Bool :=
  s.points.all fun p =>
    match p with
    | .set cfg r => !(cfg.hot && cfg.owner == .ctx c) || r.atZero s.now
    | _ => true

/-- The point has come to zero: it is at zero, and no ramp end is still to bring it there (R136). A ramp from above 0 to 0 that has
run its time, and whose ramp end has not been taken, has not. DESIGN CHOICE (log 12): a ramp to 0 from a value of 0 has, so a retarget
to 0 with duration 0 that follows it brings nothing to zero. -/
def SetRec.cameToRest (r : SetRec) (now : Time) : Bool := r.atZero now && !(decide (0 < r.d) && decide (0 < r.s))

/-- Every budgeted FLOW and POWER SET point of context c has come to zero (R136). -/
def State.ctxAtRest (s : State) (c : Nat) : Bool :=
  s.points.all fun p =>
    match p with
    | .set cfg r => !(cfg.hot && cfg.owner == .ctx c) || r.cameToRest s.now
    | _ => true

/-- The budgeted FLOW and POWER SET points of context c come to be all at zero between two states that retargets of duration 0 lead
from one to the other (R136). -/
def State.cameToZero (s s' : State) (c : Nat) : Bool := !s.ctxAtRest c && s'.ctxAtRest c

/-- Retarget every budgeted FLOW and POWER SET point of context c to 0 with duration 0 (R146, R164, R172). -/
def State.zeroHot (s : State) (c : Nat) : State :=
  { s with points := s.points.map fun p =>
      match p with
      | .set cfg r => if cfg.hot && cfg.owner == .ctx c then .set cfg (r.retarget s.now 0 0) else p
      | _ => p }

/-- Release every force of context c's SET points (R34). -/
def State.releaseForces (s : State) (c : Nat) : State :=
  { s with points := s.points.map fun p =>
      match p with
      | .set cfg r => if cfg.owner == .ctx c then .set cfg { r with forced := none } else p
      | _ => p }

/-- Release the force of point p (R34). -/
def State.releaseForce (s : State) (p : Nat) : State :=
  match s.point p with
  | .set cfg r => s.setPoint p (.set cfg { r with forced := none })
  | _ => s

/-- Retarget each SET item's point in slot order with the item's target and ramp (R79 stage 1, R96 stage 2). -/
def State.applyItems (s : State) : List SetItem → State
  | [] => s
  | i :: is => (s.retarget i.point i.target (i.ramp * 1000)).applyItems is

/-- Retarget to 0 each FLOW and POWER SET point of context c that no item names (R79 stage 2, ZERO_OTHERS). -/
def State.zeroOthers (s : State) (c : Nat) (items : List SetItem) : State :=
  { s with points := mapFrom (fun n p =>
      match p with
      | .set cfg r =>
        if cfg.flowOrPower && cfg.owner == .ctx c && !(items.any fun i => i.point == n) then
          .set cfg (r.retarget s.now 0 0)
        else p
      | _ => p) 0 s.points }

/-- One of the retargets that SET items make in turn has duration 0 and brings the points of context c to be all at zero (R136). A
retarget to 0 with a ramp is no such event, even of a point whose value is still 0: its ramp end is one. -/
def State.itemsBringZero (s : State) (c : Nat) : List SetItem → Bool
  | [] => false
  | i :: is =>
    let s' := s.retarget i.point i.target (i.ramp * 1000)
    (i.ramp == 0 && s.cameToZero s' c) || s'.itemsBringZero c is

/-- The items' retargets, or those to 0 of the points that no item names, where these are made, bring the points of context c to be
all at zero (R136). -/
def State.bringsZero (s : State) (c : Nat) (items : List SetItem) (others : Bool) : Bool :=
  let s' := s.applyItems items
  s.itemsBringZero c items || (others && s'.cameToZero (s'.zeroOthers c items) c)

/-! ### Samples -/

/-- Set a sample's stale flag, which removes its edge baseline (R28). -/
def Sample.makeStale (st : Sample) : Sample := { st with stale := true, baseline := none }

/-- Set the stale flag of every SAMPLE point that names node n (R41, R46). -/
def State.staleNode (s : State) (n : Nat) : State :=
  { s with points := s.points.map fun p =>
      match p with
      | .sample cfg st => if cfg.node = n then .sample cfg st.makeStale else p
      | _ => p }

/-- The node is FRESH (R39). -/
def State.nodeFresh (s : State) (n : Nat) : Bool :=
  match s.node n with
  | some x => x.state == .fresh
  | none => false

/-- A pressure point's f and whether it is stale; `none` where the index names no SAMPLE point. -/
def State.sampleAt (s : State) (p : Option Nat) : Option (Nat × Bool) :=
  match p with
  | none => none
  | some p =>
    match s.point p with
    | .sample _ st => some (st.f, st.stale)
    | _ => none

/-- The f of a sample that is not stale (R32). -/
def State.freshF (s : State) (p : Option Nat) : Option Nat :=
  match s.sampleAt p with
  | some (f, false) => some f
  | _ => none

/-! ### Contexts -/

/-- The context is RUNNING or DIVERTED: it stands at a step. -/
def Ctx.active (x : Ctx) : Bool := x.state == .running || x.state == .diverted

/-- The context is RUNNING, DIVERTED or WAKING, the states in which its points and nodes are not rewritten (R22, R40). -/
def Ctx.busy (x : Ctx) : Bool := x.active || x.state == .waking

/-- A point or node with this owner may not be rewritten for its owner's state (R22, R40). -/
def State.ownerBusy (s : State) (o : Owner) : Bool :=
  match o with
  | .ctx c => (s.ctx c).busy
  | .shared => s.ctxs.any Ctx.busy

/-- Change the standing step of a context. -/
def State.modStep (s : State) (c : Nat) (f : StepState → StepState) : State :=
  s.setCtx c { s.ctx c with step := (s.ctx c).step.map f }

/-! ### Bytes of a payload -/

/-- Byte k, 0 past the end. -/
def byteAt (bs : List Byte) (k : Nat) : Nat := (bs.getD k 0).toNat

/-- The little-endian value of n bytes from byte k (section 10.6). -/
def leAt (bs : List Byte) (k : Nat) : Nat → Nat
  | 0 => 0
  | n + 1 => byteAt bs k + 256 * leAt bs (k + 1) n

/-- The n little-endian bytes of a value. -/
def leBytes (v : Nat) : Nat → List Byte
  | 0 => []
  | n + 1 => BitVec.ofNat 8 v :: leBytes (v / 256) n

/-- Replace the bytes from position k on by new ones, as far as there are bytes to replace: nothing is lengthened (R3). -/
def overlay : List Byte → Nat → List Byte → List Byte
  | [], _, _ => []
  | b :: bs, 0, [] => b :: bs
  | _ :: bs, 0, n :: ns => n :: overlay bs 0 ns
  | b :: bs, k + 1, ns => b :: overlay bs k ns

end Sys2Proof.Machine
end

