-- ==== Sys2Proof/Machine/Flags.lean ====
section
/-!
DEFINITION. Sys2Proof/Machine/Flags.lean: the request flags of a context: the sixteen sources with their numbers, levels and
masks (R156), the hold (R162), and which set flag an attempt takes (R160).
-/
namespace Sys2Proof.Machine

/-- Number of a source (Table 9-1). -/
def Source.num : Source → Nat
  | .emergencyInput => 0
  | .gatePressure => 1
  | .ringGap => 2
  | .operatorAbort => 3
  | .sampleStale => 4
  | .pressureBand => 5
  | .flowBand => 6
  | .rfBand => 7
  | .strikeFail => 8
  | .plasmaLost => 9
  | .leakRate => 10
  | .admitTimeout => 11
  | .stepTimeout => 12
  | .gateMotion => 13
  | .digitalInput => 14
  | .saturation => 15

/-- The sources in ascending number. -/
def Source.all : List Source :=
  [.emergencyInput, .gatePressure, .ringGap, .operatorAbort, .sampleStale, .pressureBand, .flowBand, .rfBand,
   .strikeFail, .plasmaLost, .leakRate, .admitTimeout, .stepTimeout, .gateMotion, .digitalInput, .saturation]

/-- Order of the levels, NONE lowest. -/
def levelRank : Level → Nat
  | .none => 0
  | .low => 1
  | .high => 2
  | .emergency => 3

/-- The bits of sources 4 to 15, whose mask and level are programmable (R156). -/
def programmable : BitVec 16 := 0xFFF0

/-- The level of a source, with the HIGH bits of sources 4 to 15 (R156, Table 9-1). -/
def Source.level (highs : BitVec 16) (src : Source) : Level :=
  match src with
  | .emergencyInput | .gatePressure | .ringGap => .emergency
  | .operatorAbort => .high
  | _ => if highs.getLsbD src.num then .high else .low

/-- The source is masked; sources 0 to 3 never are (R156). -/
def Source.masked (masks : BitVec 16) (src : Source) : Bool := (masks &&& programmable).getLsbD src.num

/-- The source's flag is set in the context. -/
def Ctx.flag (x : Ctx) (src : Source) : Bool := x.flags.getLsbD src.num

/-- The one bit of a source. -/
def Source.bit (src : Source) : BitVec 16 := 1 <<< src.num

/-- The hold stands: a defined gate whose owner is the context is in OPENING or CLOSING (R162). -/
def State.hold (s : State) (c : Nat) : Bool :=
  s.gates.any fun g =>
    match g with
    | some g => g.cfg.owner == c && (g.state == .opening || g.state == .closing)
    | none => false

/-- A set flag is a candidate for taking (R160). -/
def State.candidate (s : State) (c : Nat) (src : Source) : Bool :=
  let x := s.ctx c
  let level := src.level x.highs
  x.flag src && !src.masked x.masks && decide (levelRank x.isl < levelRank level)
    && (level == .emergency || !s.hold c)
    && match x.state with
       | .running | .diverted => true
       | .idle | .parked _ | .waking => level == .emergency
       | .offline | .halted => false

/-- The candidate an attempt takes: of highest level, and among those of lowest number (R160). -/
def State.toTake (s : State) (c : Nat) : Option Source :=
  let at' := fun l => Source.all.find? fun src => src.level (s.ctx c).highs == l && s.candidate c src
  (at' .emergency).orElse fun _ => (at' .high).orElse fun _ => at' .low

/-- The highest level among the context's set and unmasked flags, or NONE (R13). -/
def Ctx.highestPending (x : Ctx) : Level :=
  let has := fun l => Source.all.any fun src => x.flag src && !src.masked x.masks && src.level x.highs == l
  if has .emergency then .emergency else if has .high then .high else if has .low then .low else .none

end Sys2Proof.Machine
end

