-- ==== Sys2Proof/Machine/Records.lean ====
section
/-!
DEFINITION. Sys2Proof/Machine/Records.lean: step records. Their 208-byte wire form with the range checks of a record write (R51 to
R55, R58, R194), and the steps that records form (R50, R52, R57).
-/
namespace Sys2Proof.Machine

/-! ### Reading the wire form -/

/-- Fields whose checks stand in their table's order: the value, or the position of the first that fails. -/
def checked {α : Type} (oks : List Bool) (x : α) : Except Nat α :=
  match oks.findIdx? (!·) with
  | some i => .error i
  | none => .ok x

/-- The signed 32-bit value at byte k (Table 10-11). -/
def signedAt (bs : List Byte) (k : Nat) : Int := (BitVec.ofNat 32 (leAt bs k 4)).toInt

/-- Largest time of a step record, in ms (Table 4-1). -/
def maxMs : Nat := 3600000

/-- Largest target or threshold of an item (Tables 4-2 to 4-4). -/
def maxValue : Nat := 10000000

/-- The END item of a slot, by its form (Tables 4-4 and 10-11), or the position of its first field out of range. DEDUCED (log 14):
Table 4-4 has one row for each form, and a field's position is counted within its own form: point 0, value 1, hold 2. -/
def decodeEnd (bs : List Byte) (form : Nat) : Except Nat Item :=
  let point := leAt bs 1 2
  let value := leAt bs 3 4
  let hold := leAt bs 7 4
  match form with
  | 0 => checked [leAt bs 1 4 ≤ maxMs] (.cond (.time (leAt bs 1 4)))
  | 1 => checked [point < Config.points, value ≤ maxValue, hold ≤ maxMs] (.cond (.below point value hold))
  | 2 => checked [point < Config.points, value ≤ maxValue, hold ≤ maxMs] (.cond (.above point value hold))
  | _ => checked [point < Config.points, byteAt bs 3 ≤ 1] (.cond (.input point (byteAt bs 3 == 1)))

/-- The source of a BAND item by its code. -/
def bandSourceOf (n : Nat) : BandSource := if n = 0 then .pressure else if n = 1 then .flow else .rf

/-- The BAND item of a slot (Tables 4-3 and 10-11), or the position of its first field out of range. -/
def decodeBand (bs : List Byte) : Except Nat Item :=
  let b := byteAt bs 0
  let mode := if b / 4 % 2 = 0 then BandMode.absolute else BandMode.relative
  let low := signedAt bs 3
  let high := signedAt bs 7
  let floor : Int := match mode with
    | .absolute => 0
    | .relative => -10000000
  let inRange := fun v : Int => decide (floor ≤ v) && decide (v ≤ 10000000)
  checked [leAt bs 1 2 < Config.points, true, inRange low, inRange high && decide (low ≤ high),
      leAt bs 11 2 < Config.points, leAt bs 13 3 ≤ maxMs, leAt bs 16 3 ≤ maxMs, b / 16 % 4 < 3]
    (.band { point := leAt bs 1 2, mode := mode, low := low, high := high, reference := leAt bs 11 2, settle := leAt bs 13 3,
             persist := leAt bs 16 3, source := bandSourceOf (b / 16 % 4) })

/-- An item slot of 20 bytes (Table 10-11), or the position of its first field out of range. -/
def decodeItem (bs : List Byte) : Except Nat Item :=
  match byteAt bs 0 % 4 with
  | 0 => .ok .empty
  | 1 => checked [leAt bs 1 2 < Config.points, leAt bs 3 4 ≤ maxValue, leAt bs 7 2 ≤ 60000]
           (.set { point := leAt bs 1 2, target := leAt bs 3 4, ramp := leAt bs 7 2 })
  | 2 => decodeBand bs
  | _ => decodeEnd bs (byteAt bs 0 / 4 % 4)

/-- Where a record breaks its ranges: the slot of an item fault, and the position of the field (R58, R180). -/
structure RecordFault where
  slot : Option Nat
  check : Option Nat
  deriving DecidableEq, Repr

/-- n item slots of 20 bytes each from byte k, the first of them numbered slot. -/
def decodeSlots (bs : List Byte) (k slot : Nat) : Nat → Except RecordFault (List Item)
  | 0 => .ok []
  | n + 1 =>
    match decodeItem ((bs.drop k).take 20) with
    | .error e => .error { slot := some slot, check := some e }
    | .ok i =>
      match decodeSlots bs (k + 20) (slot + 1) n with
      | .error e => .error e
      | .ok is => .ok (i :: is)

/-- A step kind by its code (Table 10-10). -/
def stepKindOf (n : Nat) : Option StepKind :=
  [StepKind.process, .pump, .ror, .gateOpen, .gateClose, .loopBegin, .loopEnd, .jobEnd, .ret, .halt, .abandon][n]?

/-- The HEAD fields (Tables 4-1 and 10-10), or the position in Table 4-1 of the first out of range. -/
def decodeHead (bs : List Byte) : Except Nat Head :=
  let kind := stepKindOf (byteAt bs 1)
  let flags := byteAt bs 2
  let group := byteAt bs 3 % 4
  let gate := byteAt bs 3 / 16
  let next := leAt bs 4 2
  checked [kind.isSome, true, true, true, next < Config.records || next == 65535, leAt bs 6 3 ≤ maxMs, leAt bs 9 3 ≤ maxMs,
      true, true, gate ≤ 8, decide (1 ≤ leAt bs 22 2) && decide (leAt bs 22 2 ≤ 1000), leAt bs 24 2 ≤ 60000,
      leAt bs 12 3 ≤ maxMs, leAt bs 15 3 ≤ maxMs, true, true]
    { kind := kind.getD .process, report := flags % 2 == 1, zeroOthers := flags / 2 % 2 == 1,
      creditTime := flags / 4 % 2 == 1, next := if next = 65535 then .sequential else .index next,
      admitTimeout := leAt bs 6 3, maxTime := leAt bs 9 3, endAll := flags / 8 % 2 == 1,
      group := if group = 3 then none else some group, gate := if gate = 8 then none else some gate,
      loopCount := leAt bs 22 2, strikeWindow := leAt bs 24 2, rorSettle := leAt bs 12 3, rorMeasure := leAt bs 15 3,
      rorLimit := leAt bs 18 4 }

/-- A record from its 208 bytes, or where it first breaks its ranges: HEAD fields before slots, slots ascending (R58). -/
def decodeRecord (bs : List Byte) : Except RecordFault Record :=
  let more := byteAt bs 0 / 128 == 1
  match byteAt bs 0 % 4 with
  | 0 => .ok .empty
  | 1 =>
    match decodeHead bs with
    | .error e => .error { slot := none, check := some e }
    | .ok h =>
      match decodeSlots bs 32 0 6 with
      | .error e => .error e
      | .ok is => .ok (.head h is more)
  | 2 =>
    match decodeSlots bs 8 0 10 with
    | .error e => .error e
    | .ok is => .ok (.cont is more)
  | _ => .error { slot := none, check := none }

/-! ### Writing the wire form -/

/-- The code of a step kind (Table 10-10). -/
def stepKindCode : StepKind → Nat
  | .process => 0
  | .pump => 1
  | .ror => 2
  | .gateOpen => 3
  | .gateClose => 4
  | .loopBegin => 5
  | .loopEnd => 6
  | .jobEnd => 7
  | .ret => 8
  | .halt => 9
  | .abandon => 10

/-- The number of a flag bit. -/
def flagBit (b : Bool) (n : Nat) : Nat := if b then n else 0

/-- A two's complement 32-bit value as a natural number. -/
def signedCode (v : Int) : Nat := (BitVec.ofInt 32 v).toNat

/-- n zero bytes. -/
def zeros (n : Nat) : List Byte := List.replicate n 0

/-- The 20 bytes of an item slot (Table 10-11). -/
def encodeItem : Item → List Byte
  | .empty => zeros 20
  | .set i => leBytes 1 1 ++ leBytes i.point 2 ++ leBytes i.target 4 ++ leBytes i.ramp 2 ++ zeros 11
  | .band i =>
    let mode := match i.mode with
      | .absolute => 0
      | .relative => 4
    let source := match i.source with
      | .pressure => 0
      | .flow => 16
      | .rf => 32
    leBytes (2 + mode + source) 1 ++ leBytes i.point 2 ++ leBytes (signedCode i.low) 4 ++ leBytes (signedCode i.high) 4
      ++ leBytes i.reference 2 ++ leBytes i.settle 3 ++ leBytes i.persist 3 ++ zeros 1
  | .cond (.time t) => leBytes 3 1 ++ leBytes t 4 ++ zeros 15
  | .cond (.below p v h) => leBytes 7 1 ++ leBytes p 2 ++ leBytes v 4 ++ leBytes h 4 ++ zeros 9
  | .cond (.above p v h) => leBytes 11 1 ++ leBytes p 2 ++ leBytes v 4 ++ leBytes h 4 ++ zeros 9
  | .cond (.input p v) => leBytes 15 1 ++ leBytes p 2 ++ leBytes (flagBit v 1) 1 ++ zeros 16

/-- The next field's code. -/
def nextCode : Next → Nat
  | .sequential => 65535
  | .index n => n

/-- The 208 bytes of a record (R194). -/
def encodeRecord : Record → List Byte
  | .empty => zeros 208
  | .head h is more =>
    leBytes (1 + flagBit more 128) 1 ++ leBytes (stepKindCode h.kind) 1
      ++ leBytes (flagBit h.report 1 + flagBit h.zeroOthers 2 + flagBit h.creditTime 4 + flagBit h.endAll 8) 1
      ++ leBytes (h.group.getD 3 + 16 * h.gate.getD 8) 1 ++ leBytes (nextCode h.next) 2 ++ leBytes h.admitTimeout 3
      ++ leBytes h.maxTime 3 ++ leBytes h.rorSettle 3 ++ leBytes h.rorMeasure 3 ++ leBytes h.rorLimit 4
      ++ leBytes h.loopCount 2 ++ leBytes h.strikeWindow 2 ++ zeros 6 ++ is.flatMap encodeItem ++ zeros 56
  | .cont is more => leBytes (2 + flagBit more 128) 1 ++ zeros 7 ++ is.flatMap encodeItem

/-! ### Ranges of a record as data -/

/-- The item's fields lie in the ranges of Tables 4-2 to 4-4. -/
def Item.inRange : Item → Bool
  | .empty => true
  | .set i => decide (i.point < Config.points) && decide (i.target ≤ maxValue) && decide (i.ramp ≤ 60000)
  | .band i =>
    let floor : Int := match i.mode with
      | .absolute => 0
      | .relative => -10000000
    decide (i.point < Config.points) && decide (floor ≤ i.low) && decide (i.low ≤ i.high) && decide (i.high ≤ 10000000)
      && decide (i.reference < Config.points) && decide (i.settle ≤ maxMs) && decide (i.persist ≤ maxMs)
  | .cond (.time t) => decide (t ≤ maxMs)
  | .cond (.below p v h) | .cond (.above p v h) =>
    decide (p < Config.points) && decide (v ≤ maxValue) && decide (h ≤ maxMs)
  | .cond (.input p _) => decide (p < Config.points)

/-- The HEAD fields lie in the ranges of Table 4-1. -/
def Head.inRange (h : Head) : Bool :=
  (match h.next with
   | .sequential => true
   | .index n => decide (n < Config.records))
    && decide (h.admitTimeout ≤ maxMs) && decide (h.maxTime ≤ maxMs) && h.group.all (· < Config.groups)
    && h.gate.all (· < Config.gates) && decide (1 ≤ h.loopCount) && decide (h.loopCount ≤ 1000)
    && decide (h.strikeWindow ≤ 60000) && decide (h.rorSettle ≤ maxMs) && decide (h.rorMeasure ≤ maxMs)
    && decide (h.rorLimit ≤ 4294967295)

/-- The record is one that WRITE_RECORDS accepts: its fields lie in their ranges and it has its kind's number of slots. -/
def Record.inRange : Record → Bool
  | .empty => true
  | .head h is _ => h.inRange && is.length == 6 && is.all Item.inRange
  | .cont is _ => is.length == 10 && is.all Item.inRange

/-! ### Steps -/

/-- The items of the CONT records of a step from index i on, at most n of them, and the index after the last. -/
def contItems (records : List Record) : Nat → Nat → List Item × Nat
  | 0, i => ([], i)
  | n + 1, i =>
    match records.getD i .empty with
    | .cont is more =>
      if more then
        let rest := contItems records n (i + 1)
        (is ++ rest.1, rest.2)
      else (is, i + 1)
    | _ => ([], i)

/-- The step with head index h: its HEAD, its items in slot order and the index after its last record (R50, R52). -/
def stepAt (records : List Record) (h : Nat) : Option Step :=
  match records.getD h .empty with
  | .head hd is more =>
    let rest := if more then contItems records 3 (h + 1) else ([], h + 1)
    some { head := hd, items := is ++ rest.1, after := rest.2 }
  | _ => none

/-- The step's SET items in slot order. -/
def Step.sets (st : Step) : List SetItem :=
  st.items.filterMap fun
    | .set i => some i
    | _ => none

/-- The step's BAND items in slot order: a band index is a position here (R52). -/
def Step.bands (st : Step) : List BandItem :=
  st.items.filterMap fun
    | .band i => some i
    | _ => none

/-- The step's END items in slot order: a condition index is a position here (R52). -/
def Step.ends (st : Step) : List EndItem :=
  st.items.filterMap fun
    | .cond i => some i
    | _ => none

/-- The head index of the step that a next field names, after a step whose last record stands before index after (R57). -/
def Next.target (n : Next) (after : Nat) : Nat :=
  match n with
  | .sequential => after
  | .index i => i

/-- The step is a timed one: it enters ADMIT when it is taken up (R94). -/
def StepKind.timed : StepKind → Bool
  | .process | .pump | .ror | .gateOpen | .gateClose => true
  | _ => false

/-- A PROCESS or PUMP step, the kinds with END conditions, bands and a strike window (Table 4-5). -/
def StepKind.conditioned : StepKind → Bool
  | .process | .pump => true
  | _ => false

/-- A GATE_OPEN or GATE_CLOSE step. -/
def StepKind.gate : StepKind → Bool
  | .gateOpen | .gateClose => true
  | _ => false

end Sys2Proof.Machine
end

