-- ==== Sys2Proof/Machine/Operands.lean ====
section
/-!
DEFINITION. Sys2Proof/Machine/Operands.lean: the fields that requests carry: their ranges and agreements, checked in the order of the
table that lists them (so that the position of the first failing field is the check of R180), and the stored form of fields
that pass.
-/
namespace Sys2Proof.Machine

/-- The position of the first check that fails, counted from 0. -/
def firstFailing (oks : List Bool) : Option Nat := oks.findIdx? (!·)

/-- Largest engineering value of a quantity (Table 5 of the Introduction). -/
def quantityMax : Quantity → Nat
  | .flow => 100000
  | .pressure => 10000000
  | .position => 10000
  | .power => 10000
  | .signal => 65535
  | .digital => 1

/-- n lies from a to b. -/
def within (a b n : Nat) : Bool := decide (a ≤ n) && decide (n ≤ b)

/-- The owner names a context or SHARED. -/
def ownerListed : Owner → Bool
  | .ctx c => decide (c < Config.contexts)
  | .shared => true

/-- Table 2-1, field by field, with the agreements of R21 stage 2 at the later of the two fields. -/
def pointChecks (f : PointFields) : List Bool :=
  let bit := f.encoding == some .bit
  let digital := f.quantity == some .digital
  let sampleDigital := f.direction == some .sample && digital
  [ f.direction.isSome,
    decide (f.image < 4),
    decide (f.offset ≤ 1398),
    f.encoding.isSome,
    decide (f.bit ≤ 7),
    f.quantity.isSome && (bit == digital),
    ownerListed f.owner && !(f.owner == .shared && f.direction == some .set),
    decide (f.node < Config.nodes),
    within 1 (quantityMax (f.quantity.getD .pressure)) f.engFull && (!bit || f.engFull == 1),
    within 1 65535 f.rawFull && (!bit || f.rawFull == 1) && (!(f.encoding == some .u8) || decide (f.rawFull ≤ 255)),
    within 100 2000 f.g,
    f.line.all (· < Config.lines) && (f.line.isNone || (f.direction == some .set && f.quantity == some .flow)),
    decide (f.shift ≤ 7),
    f.edge.isSome && (f.edge == some .none || sampleDigital),
    f.source.isSome && (f.source == some .none || sampleDigital) ]

/-- The stored entry fields of a content that passes `pointChecks`. -/
def pointCfgOf (f : PointFields) : PointCfg :=
  { image := f.image, offset := f.offset, encoding := f.encoding.getD .u8, bit := f.bit,
    quantity := f.quantity.getD .signal, owner := f.owner, node := f.node, engFull := f.engFull, rawFull := f.rawFull,
    g := f.g, line := f.line, shift := f.shift, edge := f.edge.getD .none, source := f.source.getD .none }

/-- Table 3-1, field by field. DESIGN CHOICE (log 2): a yes/no field, here `required`, has no value out of range. -/
def nodeChecks (f : NodeFields) : List Bool :=
  [ within 1 254 f.ring, decide (f.image < 4), decide (f.touch ≤ 1399), ownerListed f.owner, true, within 1 3 f.staleAfter ]

/-- Table 8-1, field by field, with the agreements of R153 stage 2 at the later of the two fields. -/
def gateChecks (f : GateFields) : List Bool :=
  [ decide (f.owner < Config.contexts),
    decide (f.partner < Config.contexts) && f.partner != f.owner,
    decide (f.openOut < Config.points),
    decide (f.openSw < Config.points),
    decide (f.closedSw < Config.points),
    decide (f.openDelta ≤ 10000000),
    within f.openDelta 10000000 f.tripDelta,
    within 100 10000 f.motionTimeout ]

/-- A level that a source 4 to 15 may be given (R156). -/
def levelListed (l : Level) : Bool := l == .low || l == .high

/-- Table 5-1, row by row, with the agreements of R75 stage 2 at the later of the two fields. DESIGN CHOICE (log 2): wake-on-job and the
masks of sources 4 to 15 are one bit each, with no code outside yes and no, or masked and unmasked, so that their rows always pass. -/
def ctxChecks (f : CtxFields) : List Bool :=
  [ f.kind.isSome,
    f.pressure.all (· < Config.points),
    f.plasma.all (· < Config.points) && (f.plasma.isNone || !(f.kind == some .loadlock || f.kind == some .transfer)),
    decide (f.strike ≤ 65535),
    decide (f.lost ≤ 65535) && decide (f.lost < f.strike),
    decide (f.idleStep < Config.records),
    decide (f.parkLight < Config.records) && decide (f.parkDeep < Config.records),
    decide (f.handlerLow < Config.records) && decide (f.handlerHigh < Config.records)
      && decide (f.handlerEmergency < Config.records),
    decide (f.wakeLight ≤ 7) && decide (f.wakeDeep ≤ 7),
    decide (f.autoPark ≤ 3600),
    true,
    true,
    f.levels.length == 12 && f.levels.all levelListed ]

/-- The HIGH bits of sources from number k on, from the levels given for them. -/
def highBits : List Level → Nat → BitVec 16
  | [], _ => 0
  | l :: ls, k => (if l == .high then 1 <<< k else 0) ||| highBits ls (k + 1)

/-- The stored configuration of fields that pass `ctxChecks`. -/
def ctxCfgOf (f : CtxFields) : CtxCfg :=
  { kind := f.kind.getD .process, pressure := f.pressure, plasma := f.plasma, strike := f.strike, lost := f.lost,
    idleStep := f.idleStep, parkLight := f.parkLight, parkDeep := f.parkDeep, handlerLow := f.handlerLow,
    handlerHigh := f.handlerHigh, handlerEmergency := f.handlerEmergency, wakeLight := f.wakeLight, wakeDeep := f.wakeDeep,
    autoPark := f.autoPark, wakeOnJob := f.wakeOnJob, masks := f.masks &&& programmable, highs := highBits f.levels 4 }

/-- Table 10-4, field by field. -/
def pageChecks (f : PageFields) : List Bool :=
  [ within 1 254 f.address, decide (f.period ≤ 3), within 2 15 f.nGap, decide (f.offset ≤ 1344), decide (f.override ≤ 1) ]

/-- The first index of a request that stands earlier in it already, if any (R21, R40, R120, R123, R153 stage 1). -/
def repeated (earlier : List Nat) (i : Nat) : Bool := earlier.contains i

/-! ### Refusals -/

/-- A refusal with the fields that its rule names (R180). -/
def refusal (code : Code) (subject : Option Nat) (check : Option Nat) : Response :=
  { code := code, body := .refusal { subject := subject, slot := none, check := check, purpose := none, reason := none } }

/-- A refusal at the common checks of R178: NONE in every field. -/
def badRequest : Response := refusal .badRequest none none

/-- The state code of a context (Table 10-9). -/
def ctxStateCode : CtxState → Nat
  | .offline => 0
  | .idle => 1
  | .parked .light => 2
  | .parked .deep => 3
  | .waking => 4
  | .running => 5
  | .diverted => 6
  | .halted => 7

/-- NOT_ALLOWED_IN_STATE with the state code of the context concerned (R180). -/
def notAllowed (subject : Nat) (state : CtxState) : Response := refusal .notAllowedInState (some subject) (some (ctxStateCode state))

/-- The OK response with a body. -/
def okay (body : Body) : Response := { code := .ok, body := body }

end Sys2Proof.Machine
end

