-- ==== Sys2Proof/Machine/Frames.lean ====
section
/-!
DEFINITION. Sys2Proof/Machine/Frames.lean: frames. The frame check (section 1.2), the vendor header and the classes (R2, R192),
the fields of the mailbox header (Table 10-7), and the status area's bytes (R12, R13, R193).
-/
namespace Sys2Proof.Machine

/-! ### The frame check (section 1.2) -/

/-- One bit into the 32-bit check register: generator 0x04C11DB7, highest bit first out. -/
def checkBit (reg : Nat) (b : Bool) : Nat :=
  let moved := reg * 2 % 4294967296
  if reg.testBit 31 ^^ b then moved ^^^ 0x04C11DB7 else moved

/-- One byte into the check register, least significant bit first. -/
def checkByte (reg : Nat) (b : Byte) : Nat := (List.range 8).foldl (fun r i => checkBit r (b.getLsbD i)) reg

/-- Bytes into the check register. The register is matched at each byte, so that the kernel evaluates it there. -/
def checkFrom : List Byte → Nat → Nat
  | [], reg => reg
  | b :: bs, 0 => checkFrom bs (checkByte 0 b)
  | b :: bs, reg + 1 => checkFrom bs (checkByte (reg + 1) b)

/-- The lowest n bits of a value in reversed order. -/
def reflect : Nat → Nat → Nat
  | 0, _ => 0
  | n + 1, v => (v % 2) * 2 ^ n + reflect n (v / 2)

/-- The frame check over bytes: initial register 0xFFFFFFFF, the result reflected and exclusive-ORed with 0xFFFFFFFF. -/
def frameCheck (bs : List Byte) : BitVec 32 := BitVec.ofNat 32 (reflect 32 (checkFrom bs 0xFFFFFFFF) ^^^ 0xFFFFFFFF)

/-- The bytes that the check covers. The EtherType's two bytes stand least significant first, as section 10.6 says of every
multi-byte field (log 8). -/
def frameBytes (f : Frame) : List Byte := f.addresses ++ leBytes f.etherType.toNat 2 ++ f.data

/-- The frame's check verifies (R4). -/
def goodCheck (f : Frame) : Bool := frameCheck (frameBytes f) == f.check

/-- Re-form the frame check over the bytes as they leave (R4). -/
def reform (f : Frame) : Frame := { f with check := frameCheck (frameBytes f) }

/-! ### The vendor header and the payload (R192) -/

/-- The payload length field (Table 10-6). -/
def payloadLength (f : Frame) : Nat := leAt f.data 3 2

/-- The payload: as many bytes after the 5-byte vendor header as the length field gives. -/
def payloadOf (f : Frame) : List Byte := (f.data.drop 5).take (payloadLength f)

/-- Replace payload bytes from offset k on. Bytes that would lie past the payload are not written (R3). -/
def writePayload (f : Frame) (k : Nat) (bs : List Byte) : Frame :=
  { f with data := overlay f.data 5 (overlay (payloadOf f) k bs) }

/-- The classes of R2. -/
inductive FrameClass | other | process (image : Nat) | mailbox
  deriving DecidableEq, Repr

/-- The class of a good frame, for the part at a node address (R2). -/
def classify (address : Nat) (f : Frame) : FrameClass :=
  if f.etherType ≠ Config.vendorEtherType ∨ f.data.length < 5 then .other
  else if payloadLength f + 5 ≤ f.data.length then
    match byteAt f.data 0 with
    | 1 => if byteAt f.data 1 < 4 ∧ payloadLength f ≤ 1400 then .process (byteAt f.data 1) else .other
    | 2 => if 8 ≤ payloadLength f ∧ byteAt f.data 2 = address then .mailbox else .other
    | _ => .other
  else .other

/-! ### The mailbox header (Table 10-7) -/

/-- Request code, payload byte 0. -/
def requestCode (f : Frame) : Nat := byteAt (payloadOf f) 0
/-- Request tag, payload bytes 2 and 3. -/
def requestTag (f : Frame) : BitVec 16 := BitVec.ofNat 16 (leAt (payloadOf f) 2 2)
/-- Body length, payload bytes 4 and 5. -/
def bodyLength (f : Frame) : Nat := leAt (payloadOf f) 4 2

/-- The frame leaves port D (R3). -/
def State.sendD (s : State) (f : Frame) : State := { s with sentD := some f }
/-- The frame leaves port U (R3). -/
def State.sendU (s : State) (f : Frame) : State := { s with sentU := some f }
/-- A frame arriving at one port leaves at the other (R3). -/
def State.forward (s : State) (p : Port) (f : Frame) : State :=
  match p with
  | .u => s.sendD f
  | .d => s.sendU f

/-- A good-check arrival sets the bad-check run to 0 (R5). -/
def State.goodArrival (s : State) : State := { s with badRun := 0 }

/-- A bad-check arrival (R4, R5): counted in BAD_CHECK, the run advanced, DEGRADED set at a run of 3 or more, and the frame
forwarded as it came. -/
def State.badArrival (s : State) (p : Port) (f : Frame) : State :=
  let run := min (s.badRun + 1) 255
  ({ s with badRun := run, degraded := s.degraded || decide (3 ≤ run) }.count 51).forward p f

/-! ### Fields inside a frame (R8) -/

/-- Width of a point's field in bytes. -/
def encodingWidth : Encoding → Nat
  | .u16 => 2
  | .u8 | .bit => 1

/-- The point's field lies inside a frame of payload length len (R8). -/
def PointCfg.inside (cfg : PointCfg) (len : Nat) : Bool := decide (cfg.offset + encodingWidth cfg.encoding ≤ len)

/-- Write a raw count into a point's field of the payload (R26). -/
def writeField (payload : List Byte) (cfg : PointCfg) (raw : Nat) : List Byte :=
  match cfg.encoding with
  | .u16 => overlay payload cfg.offset (leBytes raw 2)
  | .u8 => overlay payload cfg.offset (leBytes raw 1)
  | .bit =>
    let old := payload.getD cfg.offset 0
    let mask : Byte := 1 <<< cfg.bit
    overlay payload cfg.offset [if raw = 0 then old &&& ~~~mask else old ||| mask]

/-- Read a point's raw count from its field of the payload (R29). -/
def readField (payload : List Byte) (cfg : PointCfg) : Nat :=
  match cfg.encoding with
  | .u16 => leAt payload cfg.offset 2
  | .u8 => byteAt payload cfg.offset
  | .bit => if (payload.getD cfg.offset 0).getLsbD cfg.bit then 1 else 0

/-! ### Codes shared by the status area, the responses and the reports (Table 10-9) -/

/-- Phase code. -/
def phaseCode : Option Phase → Nat
  | none => 0
  | some .waiting => 1
  | some .ramp => 2
  | some .hold => 3
  | some .settle => 4
  | some .measure => 5
  | some .motion => 6

/-- A step index, 65,535 for NONE. -/
def indexCode (i : Option Nat) : Nat := i.getD 65535

/-- Ring state code. -/
def ringCode : Ring → Nat
  | .down => 0
  | .up => 1
  | .gap => 2

/-- Loader state code. -/
def loaderCode : LoaderState → Nat
  | .loading => 0
  | .ready => 1
  | .storing => 2

/-- The phase that a context shows: NONE unless it stands at a step (Table 1-3, note c). -/
def Ctx.phase (x : Ctx) : Option Phase := x.step.map (·.phase)

/-- The context fields of the status area (Table 1-3). -/
def Ctx.status (x : Ctx) : CtxStatus :=
  { state := x.state, phase := x.phase, step := x.cur, isl := x.isl, highestPending := x.highestPending,
    queueDepth := x.queue.length, iteration := (x.loops.getLast?.map (·.iteration)).getD 0 }

/-- The 8 bytes of a context's entry (Table 10-9). -/
def ctxStatusBytes (v : CtxStatus) : List Byte :=
  leBytes (ctxStateCode v.state) 1 ++ leBytes (phaseCode v.phase) 1 ++ leBytes (indexCode v.step) 2
    ++ leBytes (levelRank v.isl + 16 * levelRank v.highestPending) 1 ++ leBytes v.queueDepth 1 ++ leBytes v.iteration 2

/-- The 56 bytes of the status area, with the ring state as it stood on the frame's arrival (R13, R193). -/
def State.statusArea (s : State) (arrived : Ring) : List Byte :=
  leBytes (ringCode arrived) 1 ++ leBytes (flagBit s.degraded 1) 1
    ++ leBytes (loaderCode s.loader.state + flagBit s.loader.fault 4) 1 ++ leBytes s.reports.length 1
    ++ leBytes (min s.lost 255) 1 ++ leBytes s.waits.length 1 ++ zeros 2
    ++ contexts.flatMap fun c => ctxStatusBytes (s.ctx c).status

end Sys2Proof.Machine
end

