-- ==== Sys2Proof/Machine/Points.lean ====
section
/-!
DEFINITION. Sys2Proof/Machine/Points.lean: the point table and the node table as a frame passes: stamping with saturation (R26,
R27), collecting with conversion, filter and edges (R28 to R31), and the touch bytes (R43 to R47).
-/
namespace Sys2Proof.Machine

/-- The gas correction factor that counts: g for FLOW, 1000 for any other quantity (Table 2-1, note c). -/
def PointCfg.gas (cfg : PointCfg) : Nat := if cfg.quantity = .flow then cfg.g else 1000

/-! ### Stamping -/

/-- The raw count of an engineering value, before the clamp (R26). -/
def PointCfg.rawOf (cfg : PointCfg) (v : Nat) : Nat :=
  (v * cfg.rawFull * 1000 + cfg.engFull * cfg.gas / 2) / (cfg.engFull * cfg.gas)

/-- The count that a stamp writes, and whether it clamps (R26). -/
def PointCfg.stampOf (cfg : PointCfg) (v : Nat) : Nat × Bool :=
  if cfg.rawFull < cfg.rawOf v then (cfg.rawFull, true) else (cfg.rawOf v, false)

/-- The entry is stamped in a frame of an image with so many payload bytes: a SET point of the image whose owner is not OFFLINE
and whose field lies inside the frame (R26). -/
def State.stamps (s : State) (image len : Nat) (cfg : PointCfg) : Bool :=
  cfg.image == image && cfg.inside len &&
    match cfg.owner with
    | .ctx c => (s.ctx c).state != .offline
    | .shared => false

/-- What stamping has made of the entries seen: the payload, the entries, and the owners of clamping stamps in order. -/
structure Stamped where
  payload : List Byte
  points : List Point
  clamped : List Nat
  deriving DecidableEq, Repr

/-- Stamp the entries in ascending index (R26, R27). -/
def State.stampAll (s : State) (image : Nat) : List Point → List Byte → Stamped
  | [], payload => { payload := payload, points := [], clamped := [] }
  | .set cfg r :: ps, payload =>
    if s.stamps image payload.length cfg then
      let w := cfg.stampOf (r.currentValue s.now)
      let rest := s.stampAll image ps (writeField payload cfg w.1)
      { payload := rest.payload,
        points := .set cfg { r with saturated := w.2, lastRaw := some w.1 } :: rest.points,
        clamped := (match cfg.owner with
          | .ctx c => if w.2 then [c] else []
          | .shared => []) ++ rest.clamped }
    else
      let rest := s.stampAll image ps payload
      { rest with points := .set cfg r :: rest.points }
  | p :: ps, payload =>
    let rest := s.stampAll image ps payload
    { rest with points := p :: rest.points }

/-- Set a context's saturation marker and count the raise in its SATURATIONS (R27). -/
def State.markSaturated (s : State) (c : Nat) : State :=
  (s.setCtx c { s.ctx c with marker := true }).count (8 * c + 6)

/-- Raise SATURATION in the owners of clamping stamps whose marker is clear, each once (R27). The raises are made when the
whole frame is stamped (log 9), in ascending context index (R157). -/
def State.saturate (s : State) (clamped : List Nat) : State :=
  let owners := contexts.filter fun c => clamped.contains c && !(s.ctx c).marker
  (owners.foldl State.markSaturated s).push (owners.map fun c => .raise c .saturation)

/-- Write 0 into the touch byte of every defined node of the image inside the frame (R43). -/
def zeroTouch (image : Nat) (nodes : List (Option Node)) (payload : List Byte) : List Byte :=
  nodes.foldl (fun bs n =>
    match n with
    | some n => if n.cfg.image = image ∧ n.cfg.touch + 1 ≤ bs.length then overlay bs n.cfg.touch [0] else bs
    | none => bs) payload

/-- The outbound pass of a good PROCESS frame of an image (R6); during the config load it is forwarded unchanged (R17). -/
def State.processOutbound (s : State) (image : Nat) (f : Frame) : State :=
  let s := s.count 48
  if s.loader.state = .loading then s.forward .u f
  else
    let w := s.stampAll image s.points (payloadOf f)
    let out := reform (writePayload f 0 (zeroTouch image s.nodes w.payload))
    ({ s with points := w.points }.forward .u out).saturate w.clamped

/-! ### Collecting -/

/-- The engineering value of a raw count (R29). -/
def PointCfg.engOf (cfg : PointCfg) (x : Nat) : Nat :=
  min ((x * cfg.engFull * cfg.gas + cfg.rawFull * 1000 / 2) / (cfg.rawFull * 1000)) 4294967295

/-- The filter's next value (R30). -/
def Sample.filter (cfg : PointCfg) (st : Sample) (eng : Nat) : Nat :=
  if cfg.quantity = .digital ∨ st.stale then eng
  else ((st.f : Int) + Int.tdiv ((eng : Int) - st.f) (2 ^ cfg.shift)).toNat

/-- The state of a sample after a fresh collection of raw count x (R29 to R31). -/
def Sample.collect (cfg : PointCfg) (st : Sample) (now : Time) (x : Nat) : Sample :=
  { x := x, eng := cfg.engOf x, f := st.filter cfg (cfg.engOf x), stale := false, overRange := decide (cfg.rawFull < x),
    lastFresh := now, baseline := if cfg.quantity = .digital then some (x != 0) else st.baseline }

/-- The edge of a fresh bit against the baseline matches the point's edge select (R31). -/
def PointCfg.edgeMatches (cfg : PointCfg) (baseline : Option Bool) (bit : Bool) : Bool :=
  match baseline, bit with
  | some false, true => cfg.edge == .rise || cfg.edge == .both
  | some true, false => cfg.edge == .fall || cfg.edge == .both
  | _, _ => false

/-- The request source of an edge, if any (R31). -/
def edgeSource : EdgeSource → Option Source
  | .none => none
  | .emergencyInput => some .emergencyInput
  | .digitalInput => some .digitalInput

/-- The contexts in which an owner's event is raised: the owner, or for SHARED every context that the test keeps (R31, R47). -/
def State.raisedIn (s : State) (o : Owner) (keep : Ctx → Bool) : List Nat :=
  match o with
  | .ctx c => [c]
  | .shared => contexts.filter fun c => keep (s.ctx c)

/-- Collect a SAMPLE point of a good frame (R29 to R31). -/
def State.collectPoint (s : State) (p x : Nat) : State :=
  match s.point p with
  | .sample cfg st =>
    if s.nodeFresh cfg.node then
      let s' := s.setPoint p (.sample cfg (st.collect cfg s.now x))
      if cfg.quantity = .digital ∧ cfg.edgeMatches st.baseline (x != 0) then
        match edgeSource cfg.source with
        | some src => s'.push ((s.raisedIn cfg.owner fun k => k.state != .offline).map fun c => .raise c src)
        | none => s'
      else s'
    else s.setPoint p (.sample cfg (if st.stale then st else st.makeStale))
  | _ => s

/-- The SAMPLE points of an image inside a frame, each with its raw count, in ascending index (R29). -/
def State.collections (s : State) (image : Nat) (payload : List Byte) : List Task :=
  pickFrom (fun n p =>
    match p with
    | .sample cfg _ =>
      if cfg.image == image && cfg.inside payload.length then some (.collect n (readField payload cfg)) else none
    | _ => none) 0 s.points

/-- Whether point p was collected in a pass of an image of so many payload bytes, and if so whether fresh (R28, R32). -/
def State.collected (s : State) (image len p : Nat) : Option Bool :=
  match s.point p with
  | .sample cfg _ => if cfg.image == image && cfg.inside len then some (s.nodeFresh cfg.node) else none
  | _ => none

/-- Point p was collected fresh in the pass (R32). -/
def State.collectedFresh (s : State) (image len p : Nat) : Bool := s.collected image len p == some true

/-! ### Nodes -/

/-- A NODE report (R46). -/
def State.nodeReport (s : State) (n : Nat) (x : Node) (event : NodeEvent) (touch : Byte) : State :=
  s.report (match x.cfg.owner with
    | .ctx c => some c
    | .shared => none) none none (.node n event touch x.age x.lastSeen)

/-- A seen return (R44): age 0, FRESH, and a RECOVERED report from STALE (R46). -/
def State.seeNode (s : State) (n : Nat) (x : Node) (touch : Byte) : State :=
  let x' := { x with age := 0, state := .fresh, lastSeen := some s.now }
  let s' := s.setNode n (some x')
  if x.state = .stale then s'.nodeReport n x' .recovered touch else s'

/-- A missed or conflict return (R44 to R47): the age rises, MISSES counts, CONFLICT latches with its report, and a FRESH node
of age stale_after or more becomes STALE. -/
def State.missNode (s : State) (n : Nat) (x : Node) (touch : Byte) (conflict : Bool) : State :=
  let age := min (x.age + 1) 3
  let lost := x.state == .fresh && decide (x.cfg.staleAfter ≤ age)
  let x' := { x with age := age, conflict := x.conflict || conflict, state := if lost then .stale else x.state }
  let s1 := (s.setNode n (some x')).count (53 + n)
  let s2 := if conflict && !x.conflict then s1.nodeReport n x' .conflict touch else s1
  if lost then
    let s3 := (s2.staleNode n).nodeReport n x' .stale touch
    if x.cfg.required then
      s3.push (((s.raisedIn x.cfg.owner Ctx.active).filter fun c => (s.ctx c).active).map fun c => .raise c .sampleStale)
    else s3
  else s2

/-- Evaluate a node's touch byte (R44). -/
def State.evaluateNode (s : State) (n : Nat) (touch : Byte) : State :=
  match s.node n with
  | some x => if touch = 1 then s.seeNode n x touch else s.missNode n x touch (touch != 0)
  | none => s

/-- The defined nodes of an image inside a frame, each with its touch byte, in ascending index (R44). -/
def State.evaluations (s : State) (image : Nat) (payload : List Byte) : List Task :=
  pickFrom (fun n x =>
    match x with
    | some x =>
      if x.cfg.image = image ∧ x.cfg.touch + 1 ≤ payload.length then some (.evalNode n (payload.getD x.cfg.touch 0))
      else none
    | none => none) 0 s.nodes

end Sys2Proof.Machine
end

