-- ==== Sys2Proof/Machine/Arbiter.lean ====
section
/-!
DEFINITION. Sys2Proof/Machine/Arbiter.lean: the admission arbiter. What a step needs (R124 to R128), its admission with the start of
the step that the sequencer makes of it (R130, R131, R96, R97), the wait list (R134, R137), presentation (R129), the scan (R135)
and its triggers (R136), and the fall and release of reservations (R132, R133).
-/
namespace Sys2Proof.Machine

/-! ### Prospective targets and demand (R95) -/

/-- The prospective targets of a step of context c, one for each SET point the context owns, in ascending point index. -/
def State.prospective (s : State) (c : Nat) (st : Step) : List (Nat × Nat) :=
  let moves := !st.head.kind.gate
  pickFrom (fun n p =>
    match p with
    | .set cfg r =>
      if cfg.owner == .ctx c then
        match (if moves then st.sets else []).find? fun i => i.point == n with
        | some i => some (n, i.target)
        | none => some (n, if moves && st.head.zeroOthers && cfg.flowOrPower then 0 else r.t)
      else none
    | _ => none) 0 s.points

/-- The point is a FLOW SET point on supply line l. -/
def State.onLine (s : State) (l p : Nat) : Bool :=
  match s.point p with
  | .set cfg _ => cfg.quantity == .flow && cfg.line == some l
  | _ => false

/-- The demand of targets on each supply line, whether or not its budget is enabled (R95). -/
def State.demandOf (s : State) (targets : List (Nat × Nat)) : List Nat :=
  (List.range Config.lines).map fun l => ((targets.filter fun t => s.onLine l t.1).map (·.2)).sum

/-! ### Needs (R124 to R128) -/

/-- Reservation of context c on a line. -/
def Supply.reserved (x : Supply) (c : Nat) : Nat := x.reservations.getD c 0

/-- Demand of a step on line l. -/
def StepState.demandOn (st : StepState) (l : Nat) : Nat := st.demand.getD l 0

/-- The roughing group that a step claims: that of a PUMP step (R126). -/
def StepState.claim (st : StepState) : Option Nat := if st.step.head.kind = .pump then st.step.head.group else none

/-- The step contests line l: its budget is enabled and the demand is above the context's reservation (R124). -/
def State.contestsLine (s : State) (c : Nat) (st : StepState) (l : Nat) : Bool :=
  (s.line l).budget && decide ((s.line l).reserved c < st.demandOn l)

/-- The step's supply need on line l is unmet (R125). -/
def State.lineUnmet (s : State) (c : Nat) (st : StepState) (l : Nat) : Bool :=
  let x := s.line l
  s.contestsLine c st l && decide (x.capacity < x.reservations.sum - x.reserved c + st.demandOn l)

/-- The step's roughing need is unmet: another context holds its group (R126). -/
def State.groupUnmet (s : State) (c g : Nat) : Bool :=
  match (s.group g).holder with
  | some h => h != c
  | none => false

/-- Every defined gate whose owner or partner is context c is CLOSED (R127). -/
def State.gatesClosed (s : State) (c : Nat) : Bool :=
  s.gates.all fun g =>
    match g with
    | some g => !(g.cfg.owner == c || g.cfg.partner == c) || g.state == .closed
    | none => true

/-- Point p is a budgeted FLOW or a POWER SET point. -/
def State.hotPoint (s : State) (p : Nat) : Bool :=
  match s.point p with
  | .set cfg _ => cfg.hot
  | _ => false

/-- The step has a gates-closed need and it is unmet (R127). -/
def State.closedUnmet (s : State) (c : Nat) (st : StepState) : Bool :=
  (st.targets.any fun t => decide (0 < t.2) && s.hotPoint t.1) && !s.gatesClosed c

/-- Two pressures differ by at most delta. -/
def matched (a b delta : Nat) : Bool := decide (a - b + (b - a) ≤ delta)

/-- The gate-open conditions of R128, in its order: the gate CLOSED; the partner not OFFLINE; both pressure points not NONE and
fresh; their difference at or below the open delta; every budgeted FLOW and POWER point of both contexts at zero. -/
def State.openConditions (s : State) (x : Gate) : List Bool :=
  let a := s.freshF (s.ctx x.cfg.owner).cfg.pressure
  let b := s.freshF (s.ctx x.cfg.partner).cfg.pressure
  [ x.state == .closed,
    (s.ctx x.cfg.partner).state != .offline,
    a.isSome && b.isSome,
    matched (a.getD 0) (b.getD 0) x.cfg.openDelta,
    s.ctxAtZero x.cfg.owner && s.ctxAtZero x.cfg.partner ]

/-- The gate-open need of a GATE_OPEN step is unmet (R128). -/
def State.openUnmet (s : State) (st : StepState) : Bool :=
  st.step.head.kind == .gateOpen &&
    match st.step.head.gate.bind s.gate with
    | some x => !(s.openConditions x).all id
    | none => true

/-- Every need of the step is met (R125 to R128). -/
def State.needsMet (s : State) (c : Nat) (st : StepState) : Bool :=
  ((List.range Config.lines).all fun l => !s.lineUnmet c st l)
    && st.claim.all (fun g => !s.groupUnmet c g) && !s.closedUnmet c st && !s.openUnmet st

/-- A waiting step of context w has an unmet need on a resource that a step of context c contests (R124, R129, R135). -/
def State.blocks (s : State) (w c : Nat) (st : StepState) : Bool :=
  match (s.ctx w).step with
  | none => false
  | some sw =>
    ((List.range Config.lines).any fun l => s.contestsLine c st l && s.lineUnmet w sw l)
      || (match st.claim, sw.claim with
          | some g, some g' => g == g' && (s.group g).holder != some c && s.groupUnmet w g
          | _, _ => false)

/-! ### Reservations and groups -/

/-- Set, on each budget-enabled line, the reservation of context c by a function of the line's number and the old value. -/
def State.setReservations (s : State) (c : Nat) (f : Nat → Nat → Nat) : State :=
  { s with lines := mapFrom (fun l x =>
      if x.budget then { x with reservations := x.reservations.set c (f l (x.reserved c)) } else x) 0 s.lines }

/-- The reservations of context c fall to the demand of its step at ramp completion. Since admission raised every such
reservation to at least the demand, the smaller of the two is the demand (R132). -/
def State.lowerReservations (s : State) (c : Nat) (st : StepState) : State :=
  s.setReservations c fun l r => min r (st.demandOn l)

/-- A ramp completion lowers some reservation (R132). -/
def State.wouldFall (s : State) (c : Nat) (st : StepState) : Bool :=
  (List.range Config.lines).any fun l => (s.line l).budget && decide (st.demandOn l < (s.line l).reserved c)

/-- Context c holds a reservation or a group. -/
def State.holdsPlant (s : State) (c : Nat) : Bool :=
  (s.lines.any fun x => decide (0 < x.reserved c)) || s.groups.any fun g => g.holder == some c

/-- Release context c: every reservation 0 and every group it holds without holder (R133). -/
def State.release (s : State) (c : Nat) : State :=
  { s with lines := s.lines.map fun x => { x with reservations := x.reservations.set c 0 },
           groups := s.groups.map fun g => if g.holder = some c then { g with holder := none } else g }

/-- The group holders after an admission: the claimed group is held, and every other group of the context released (R130
stages 3 and 4). -/
def State.claimGroups (s : State) (c : Nat) (claim : Option Nat) : State :=
  { s with groups := mapFrom (fun g x =>
      if claim = some g then { x with holder := some c }
      else if x.holder = some c then { x with holder := none } else x) 0 s.groups }

/-- An admission of a step with this claim releases some group of context c (R130 stage 4). -/
def State.wouldReleaseGroup (s : State) (c : Nat) (claim : Option Nat) : Bool :=
  (List.range Config.groups).any fun g => (s.group g).holder == some c && claim != some g

/-! ### The start of a step (R96, R97, R104) -/

/-- Longest ramp of the step's SET items, in ms (R97). -/
def Step.longestRamp (st : Step) : Nat := (st.sets.map (·.ramp)).foldl max 0

/-- A condition at admission: a TIME condition's timer runs t × 1000 less the credit (R98). -/
def condAt (now : Time) (credit : Nat) (i : EndItem) : Cond :=
  { item := i, met := false, holdStart := none,
    timer := match i with
      | .time t => some { start := now, dur := t * 1000 - credit }
      | _ => none }

/-- A band at admission with its limits (R104). -/
def bandAt (sets : List SetItem) (i : BandItem) : Band :=
  let base : Int := match i.mode with
    | .absolute => 0
    | .relative => ((sets.find? fun x => x.point == i.reference).map (·.target)).getD 0
  { item := i, low := max 0 (base + i.low), high := base + i.high, outStart := none, fired := false }

/-- A running timer of so many ms, or none for 0. -/
def msTimer (now : Time) (ms : Nat) : Option Timer := if ms = 0 then none else some { start := now, dur := ms * 1000 }

/-- The step state right after admission (R96 stages 1 and 4 to 7). -/
def StepState.admitted (st : StepState) (now : Time) : StepState :=
  let hd := st.step.head
  let watched := hd.kind.conditioned
  let plasma := watched && decide (0 < hd.strikeWindow)
  { st with
    admission := some now, elapsed := 0,
    phase := match hd.kind with
      | .ror => .settle
      | .gateOpen | .gateClose => .motion
      | _ => if st.step.longestRamp = 0 then .hold else .ramp,
    rampEnd := if hd.kind.gate then none else msTimer now st.step.longestRamp,
    conds := if watched then st.step.ends.map (condAt now st.credit) else [],
    bands := if watched then st.step.bands.map (bandAt st.step.sets) else [],
    maxTimer := if watched then msTimer now hd.maxTime else none,
    strikeTimer := if plasma then msTimer now hd.strikeWindow else none,
    rorTimer := if hd.kind = .ror then some { start := now, dur := hd.rorSettle * 1000 } else none,
    strike := if plasma then .unstruck else .notPlasma,
    lostRaised := false, timeoutRaised := false, pressure := none, p0 := 0, t0 := 0, valid0 := false, settleAt := 0 }

/-- The sequencer starts an admitted step (R96). -/
def State.startStep (s : State) (c : Nat) (st : StepState) : State :=
  let s1 := if st.step.head.kind.gate then s
    else
      let s' := s.applyItems st.step.sets
      if st.step.head.zeroOthers then s'.zeroOthers c st.step.sets else s'
  s1.setCtx c { s1.ctx c with marker := false, step := some (st.admitted s.now) }

/-- Stages 2 to 4 of R130; not applied to a step of EMERGENCY level (R131). -/
def State.raisePlant (s : State) (c : Nat) (st : StepState) : State :=
  (s.setReservations c fun l r => max r (st.demandOn l)).claimGroups c st.claim

/-- Admission of the step at which context c stands in ADMIT (R130, and R131 with `emergency`): the entry removed, the plant
raised, the step started and, where all its ramps are 0, its ramp completion taken (R97). What follows is left as work: a gate
step's motion, the scan that a release, a fall or a removal triggers, and the end that admission may bring, in this order. DESIGN
CHOICE (log 12): so a conditioned step's end at admission comes after that scan, and the end of a GATE_CLOSE on a CLOSED gate
before it (R203). -/
def State.admitStep (s : State) (c : Nat) (st : StepState) (emergency : Bool) : State :=
  let waited := s.waits.any fun e => e.ctx == c
  let s1 := { s with waits := s.waits.filter fun e => e.ctx != c }
  let s2 := if emergency then s1 else s1.raisePlant c st
  let s3 := s2.startStep c st
  let ramped := !st.step.head.kind.gate && st.step.longestRamp == 0
  let s4 := if ramped then s3.lowerReservations c st else s3
  let came := !st.step.head.kind.gate && s.bringsZero c st.step.sets st.step.head.zeroOthers
  let scan := waited || (!emergency && s1.wouldReleaseGroup c st.claim) || (ramped && s3.wouldFall c st) || came
  s4.push
    ((match st.step.head.gate with
      | some g => if st.step.head.kind.gate then [.gateStart c g (st.step.head.kind == .gateOpen)] else []
      | none => [])
      ++ (if scan then [.trigger] else [])
      ++ if st.step.head.kind.conditioned then [.admitEnd c] else [])

/-! ### The wait list -/

/-- Rank of an entry: HANDLER ahead of JOB, HIGH ahead of NORMAL (R134). -/
def waitRank (cls : Class) (p : Priority) : Nat :=
  (match cls with
   | .handler => 0
   | .job => 2) +
  match p with
  | .high => 0
  | .normal => 1

/-- Class of a presented step, by the in-service level (R124). -/
def classOf (isl : Level) : Class := if isl = .none then .job else .handler

/-- The running job's priority (R124). -/
def Ctx.priority (x : Ctx) : Priority := (x.job.map (·.job.priority)).getD .normal

/-- Presentation of the step at which context c stands in ADMIT (R129, R131): admitted at once, or entered in the wait list
behind every entry of its class and priority or better. An entry of the context itself, which does not arise (R134, log 31), gives
way to the new one. -/
def State.present (s : State) (c : Nat) (st : StepState) : State :=
  let x := s.ctx c
  if x.isl = .emergency then s.admitStep c st true
  else
    let rank := waitRank (classOf x.isl) x.priority
    let others := s.waits.filter fun e => e.ctx != c
    let ahead := others.takeWhile fun e => decide (waitRank e.cls e.priority ≤ rank)
    let behind := others.dropWhile fun e => decide (waitRank e.cls e.priority ≤ rank)
    if s.needsMet c st && !(ahead.any fun e => s.blocks e.ctx c st) then s.admitStep c st false
    else
      let entry : WaitEntry :=
        { ctx := c, cls := classOf x.isl, priority := x.priority, entryTime := st.admitEntry, waited := 0,
          timer := msTimer st.admitEntry st.step.head.admitTimeout, raised := false }
      ({ s with waits := ahead ++ entry :: behind }.count (8 * c + 7)).push [.trigger]

/-- A scan trigger: a scan is run, or, while one is in progress, the scan is to be run again (R135, R136). -/
def State.trigger (s : State) : State :=
  if s.scanning then { s with scanAgain := true } else { s with scanning := true }.push [.scan []]

/-- The entry that a run of the scan tests next: the first behind every entry that it has left waiting (R135). An entry made in the
run that stands there is tested in it (log 12). -/
def State.scanNext (s : State) (left : List Nat) : Option WaitEntry :=
  (s.waits.reverse.takeWhile fun e => !left.contains e.ctx).getLast?

/-- The scan goes on, having left the entries of these contexts waiting in this run (R135): the next entry is admitted, or left
waiting too. At the end of the list the scan is run again if it met a trigger, and ends otherwise. -/
def State.scanOn (s : State) (left : List Nat) : State :=
  match s.scanNext left with
  | none => if s.scanAgain then { s with scanAgain := false }.push [.scan []] else { s with scanning := false }
  | some e =>
    match (s.ctx e.ctx).step with
    | none => s.push [.scan (e.ctx :: left)]
    | some st =>
      if s.needsMet e.ctx st && !(left.any fun w => s.blocks w e.ctx st) then (s.push [.scan left]).admitStep e.ctx st false
      else s.push [.scan (e.ctx :: left)]

/-- Remove the wait-list entry of context c (R137). -/
def State.removeEntry (s : State) (c : Nat) : State := { s with waits := s.waits.filter fun e => e.ctx != c }

/-- A collection of the pressure point of the owner or partner of a gate that a waiting GATE_OPEN step names is a scan trigger
(R136). -/
def State.notifyArbiter (s : State) (image len : Nat) : State :=
  let touched := fun p : Option Nat => p.any fun p => (s.collected image len p).isSome
  let waits := s.waits.any fun e =>
    match (s.ctx e.ctx).step with
    | some st =>
      st.step.head.kind == .gateOpen &&
        match st.step.head.gate.bind s.gate with
        | some x => touched (s.ctx x.cfg.owner).cfg.pressure || touched (s.ctx x.cfg.partner).cfg.pressure
        | none => false
    | none => false
  s.triggerIf waits

/-- The wait-list entry as READ_STATUS returns it, with its unmet needs (R139). -/
def State.waitView (s : State) (e : WaitEntry) : WaitView :=
  let none' : WaitView :=
    { ctx := e.ctx, head := (s.ctx e.ctx).cur, cls := e.cls, priority := e.priority, entryTime := e.entryTime,
      waited := e.waited, raised := e.raised, unmetLines := [], unmetGroup := none, unmetGate := false }
  match (s.ctx e.ctx).step with
  | none => none'
  | some st =>
    { none' with
      unmetLines := (List.range Config.lines).filter fun l => s.lineUnmet e.ctx st l,
      unmetGroup := st.claim.filter fun g => s.groupUnmet e.ctx g,
      unmetGate := s.closedUnmet e.ctx st || s.openUnmet st }

end Sys2Proof.Machine
end

