-- ==== Sys2Proof/Machine/Walk.lean ====
section
/-!
DEFINITION. Sys2Proof/Machine/Walk.lean: the validation walk of a path (R61 to R68) and the use counts of held paths (R69 to R71).
-/
namespace Sys2Proof.Machine

/-! ### The slots of a step, with their places -/

/-- An item with the record and the slot at which it stands. -/
structure Placed where
  record : Nat
  slot : Nat
  item : Item
  deriving DecidableEq, Repr

/-- The slots of record i. -/
def placeSlots (i : Nat) (items : List Item) : List Placed :=
  mapFrom (fun k item => { record := i, slot := k, item := item }) 0 items

/-- The slots of the CONT records from index i on, at most n records. -/
def placedConts (records : List Record) : Nat → Nat → List Placed
  | 0, _ => []
  | n + 1, i =>
    match records.getD i .empty with
    | .cont is more => placeSlots i is ++ if more then placedConts records n (i + 1) else []
    | _ => []

/-- The slots of the step with head index h, in slot order (R52). -/
def placedItems (records : List Record) (h : Nat) : List Placed :=
  match records.getD h .empty with
  | .head _ is more => placeSlots h is ++ if more then placedConts records 3 (h + 1) else []
  | _ => []

/-- The first placed item that a test picks out, as a fault of the given reason. -/
def itemFault (reason : WalkReason) (ps : List Placed) (bad : Item → Bool) : Option WalkFault :=
  (ps.find? fun p => bad p.item).map fun p => { reason := reason, record := p.record, slot := some p.slot }

/-- A fault at a step's head index, when it holds. -/
def headFault (reason : WalkReason) (h : Nat) (bad : Bool) : Option WalkFault :=
  if bad then some { reason := reason, record := h, slot := none } else none

/-- The first fault of a list of checks. -/
def firstFault (checks : List (Option WalkFault)) : Option WalkFault := checks.findSome? id

/-! ### Structure (R63) -/

/-- The index at which the MORE chain is broken, after record i, which has MORE set; n CONT records may still follow (R63). -/
def chainFault (records : List Record) : Nat → Nat → Option Nat
  | 0, i => some i
  | n + 1, i =>
    if Config.records ≤ i + 1 then some i
    else match records.getD (i + 1) .empty with
      | .cont _ more => if more then chainFault records n (i + 1) else none
      | _ => some (i + 1)

/-- The head and chain checks of R63 at head index h. -/
def structureFault (records : List Record) (h : Nat) : Option WalkFault :=
  match records.getD h .empty with
  | .head _ _ more =>
    if more then (chainFault records 3 h).map fun i => { reason := .chain, record := i, slot := none } else none
  | _ => some { reason := .notHead, record := h, slot := none }

/-! ### Kinds and limits (R66) -/

/-- A slot that is not EMPTY. -/
def Item.filled : Item → Bool
  | .empty => false
  | _ => true

/-- A BAND or END item. -/
def Item.watches : Item → Bool
  | .band _ | .cond _ => true
  | _ => false

/-- KIND_FIELD (R66). DEDUCED (log 15): the HEAD fields are asked before the items. -/
def kindFault (h : Nat) (st : Step) (ps : List Placed) : Option WalkFault :=
  match st.head.kind with
  | .process | .pump => none
  | .ror => firstFault
      [ headFault .kindField h (st.head.rorSettle == 0 || st.head.rorMeasure == 0),
        itemFault .kindField ps Item.watches ]
  | .gateOpen | .gateClose => firstFault
      [ headFault .kindField h st.head.gate.isNone, itemFault .kindField ps Item.filled ]
  | _ => itemFault .kindField ps Item.filled

/-- ITEM_LIMIT (R66): the first item beyond 32 SET, 8 BAND or 4 END items, or the second SET item on one point. `points` are
the points of the SET items seen, the two counts those of BAND and END items. DEDUCED (log 15): R66 gives the two checks no order. Where a
step both exceeds a limit and repeats a SET point, or exceeds several limits, the slot named is the first of them all in slot order. -/
def limitFault (points : List Nat) (bands ends : Nat) : List Placed → Option WalkFault
  | [] => none
  | p :: ps =>
    let here : WalkFault := { reason := .itemLimit, record := p.record, slot := some p.slot }
    match p.item with
    | .empty => limitFault points bands ends ps
    | .set i =>
      if 32 ≤ points.length || points.contains i.point then some here
      else limitFault (i.point :: points) bands ends ps
    | .band _ => if 8 ≤ bands then some here else limitFault points (bands + 1) ends ps
    | .cond _ => if 4 ≤ ends then some here else limitFault points bands (ends + 1) ps

/-! ### Points, gates and groups (R67) -/

/-- The point is named as open output by a defined gate. -/
def State.isOpenOutput (s : State) (p : Nat) : Bool :=
  s.gates.any fun g =>
    match g with
    | some g => g.cfg.openOut == p
    | none => false

/-- Entry p is a SET point of context c that no gate drives (R67). -/
def State.drives (s : State) (c p : Nat) : Bool :=
  match s.point p with
  | .set cfg _ => cfg.owner == .ctx c && !s.isOpenOutput p
  | _ => false

/-- The quantity of a DEFINED point. -/
def State.quantityOf (s : State) (p : Nat) : Option Quantity :=
  match s.point p with
  | .set cfg _ | .sample cfg _ => some cfg.quantity
  | .empty => none

/-- Entry p is a SAMPLE point of context c or SHARED (R67). -/
def State.reads (s : State) (c p : Nat) : Bool :=
  match s.point p with
  | .sample cfg _ => cfg.owner == .ctx c || cfg.owner == .shared
  | _ => false

/-- What is wrong with one item of a step for context c; `sets` are the step's SET items (R67). -/
def State.itemReason (s : State) (c : Nat) (sets : List SetItem) : Item → Option WalkReason
  | .empty => none
  | .set i =>
    if !s.drives c i.point then some .setPoint
    else if decide (quantityMax ((s.quantityOf i.point).getD .pressure) < i.target) then some .targetRange
    else none
  | .band i =>
    if s.reads c i.point &&
        (i.mode == .absolute ||
          (sets.any (fun x => x.point == i.reference) && s.quantityOf i.reference == s.quantityOf i.point)) then none
    else some .samplePoint
  | .cond (.time _) => none
  | .cond (.below p _ _) | .cond (.above p _ _) => if s.reads c p then none else some .samplePoint
  | .cond (.input p _) => if s.reads c p && s.quantityOf p == some .digital then none else some .samplePoint

/-- The first item that breaks R67. DEDUCED (log 15): of several, it is the first in slot order, whatever its reason. -/
def State.pointFault (s : State) (c : Nat) (sets : List SetItem) : List Placed → Option WalkFault
  | [] => none
  | p :: ps =>
    match s.itemReason c sets p.item with
    | some r => some { reason := r, record := p.record, slot := some p.slot }
    | none => s.pointFault c sets ps

/-- GATE_NOT_OWNED and GROUP_NOT_MEMBER (R67). -/
def State.plantFault (s : State) (c h : Nat) (hd : Head) : Option WalkFault :=
  let owned := fun g =>
    match s.gate g with
    | some x => x.cfg.owner == c
    | none => false
  firstFault
    [ headFault .gateNotOwned h (hd.kind.gate && !hd.gate.any owned),
      headFault .groupNotMember h (hd.kind == .pump && !hd.group.all fun g => (s.group g).members.contains c) ]

/-! ### Rules of EMERGENCY, idle and park paths (R68) -/

/-- A SET item with a non-zero target on a FLOW point with a supply line, or on a POWER point (R68). -/
def State.hotItem (s : State) : Item → Bool
  | .set i =>
    match s.point i.point with
    | .set cfg _ => cfg.hot && i.target != 0
    | _ => false
  | _ => false

/-- The purpose is IDLE, PARK_LIGHT or PARK_DEEP. -/
def Purpose.resting : Purpose → Bool
  | .idle | .parkLight | .parkDeep => true
  | _ => false

/-- EMERGENCY_RULES and IDLE_PARK_RULES (R68). DEDUCED (log 15): a budgeted FLOW item and a POWER item are one test, which the first
such item in slot order fails. -/
def State.purposeFault (s : State) (purpose : Purpose) (h : Nat) (st : Step) (ps : List Placed) : Option WalkFault :=
  match purpose with
  | .handlerEmergency => firstFault
      [ itemFault .emergencyRules ps s.hotItem,
        headFault .emergencyRules h (st.head.kind == .pump && st.head.group.isSome),
        headFault .emergencyRules h (st.head.kind == .gateOpen),
        headFault .emergencyRules h (st.head.kind == .ret || st.head.kind == .abandon) ]
  | .idle | .parkLight | .parkDeep => firstFault
      [ headFault .idleParkRules h (st.head.kind != .process),
        headFault .idleParkRules h (decide (0 < st.head.strikeWindow)),
        itemFault .idleParkRules ps Item.watches,
        itemFault .idleParkRules ps s.hotItem ]
  | _ => none

/-- Stage 1 of R62 but for R68: the checks of R63, R66 and R67 on the step at head index h, in this order. -/
def State.stepFault (s : State) (c : Nat) (h : Nat) : Option WalkFault :=
  match structureFault s.records h, stepAt s.records h with
  | some e, _ => some e
  | none, none => some { reason := .notHead, record := h, slot := none }
  | none, some st =>
    let ps := placedItems s.records h
    firstFault [kindFault h st ps, limitFault [] 0 0 ps, s.pointFault c st.sets ps, s.plantFault c h st.head]

/-! ### The walk (R62, R64, R65) -/

/-- The open levels after a step, or the refusal of R64. -/
def walkLoops (kind : StepKind) (h : Nat) (open' : List Nat) : Except WalkFault (List Nat) :=
  match kind with
  | .loopBegin =>
    if open'.length < 2 then .ok (open' ++ [h]) else .error { reason := .loopDepth, record := h, slot := none }
  | .loopEnd =>
    if open' = [] then .error { reason := .loopUnbalanced, record := h, slot := none } else .ok open'.dropLast
  | .jobEnd | .ret | .halt | .abandon =>
    if open' = [] then .ok [] else .error { reason := .loopUnbalanced, record := h, slot := none }
  | _ => .ok open'

/-- The purpose is a handler's. -/
def Purpose.handler : Purpose → Bool
  | .handlerLow | .handlerHigh | .handlerEmergency => true
  | _ => false

/-- Whether a path of this purpose ends at a step of this kind, which leaves these levels open: `none` when it goes on, otherwise the
end or the refusal of R65. DEDUCED (log 15): a rest path whose one step is a LOOP_BEGIN ends with a level open (Table 4-7). -/
def walkEnd (purpose : Purpose) (kind : StepKind) (h : Nat) (open' : List Nat) : Option (Except WalkFault Unit) :=
  if purpose.resting then
    if open' = [] then some (.ok ()) else some (.error { reason := .loopUnbalanced, record := h, slot := none })
  else match kind with
    | .jobEnd =>
      if purpose.handler then some (.error { reason := .handlerPathEnd, record := h, slot := none }) else some (.ok ())
    | .ret | .halt | .abandon =>
      if purpose.handler then some (.ok ()) else some (.error { reason := .jobPathEnd, record := h, slot := none })
    | _ => none

/-- Stages 2 and 3 of R62 on the step at head index h: the levels open after it, and its successor, or `none` where the path ends, or
the refusal of R64, R65, or R63 on the successor's index. -/
def walkNext (purpose : Purpose) (h : Nat) (st : Step) (visited open' : List Nat) :
    Except WalkFault (List Nat × Option Nat) :=
  match walkLoops st.head.kind h open' with
  | .error e => .error e
  | .ok open'' =>
    match walkEnd purpose st.head.kind h open'' with
    | some (.error e) => .error e
    | some (.ok ()) => .ok (open'', none)
    | none =>
      let next := st.head.next.target st.after
      if Config.records ≤ next then .error { reason := .notHead, record := h, slot := none }
      else if (h :: visited).contains next then .error { reason := .revisit, record := h, slot := none }
      else .ok (open'', some next)

/-- The walk from head index h with n steps still allowed (R62): `visited` are the heads so far, `open'` the open levels, `path`
the records so far. R68 has its checks after those of R63 to R67: they are the last on each step, after stages 2 and 3 (log 15). -/
def State.walkOn (s : State) (c : Nat) (purpose : Purpose) :
    Nat → Nat → List Nat → List Nat → List Nat → Except WalkFault (List Nat)
  | 0, h, _, _, _ => .error { reason := .tooLong, record := h, slot := none }
  | n + 1, h, visited, open', path =>
    match s.stepFault c h, stepAt s.records h with
    | some e, _ => .error e
    | none, none => .error { reason := .notHead, record := h, slot := none }
    | none, some st =>
      match walkNext purpose h st visited open' with
      | .error e => .error e
      | .ok (open'', next) =>
        match s.purposeFault purpose h st (placedItems s.records h) with
        | some e => .error e
        | none =>
          let path' := path ++ List.range' h (st.after - h)
          match next with
          | none => .ok path'
          | some next => s.walkOn c purpose n next (h :: visited) open'' path'

/-- The walk of a path for context c (R61, R62): the set of record indices it visits, or its refusal. -/
def State.walk (s : State) (c : Nat) (purpose : Purpose) (start : Nat) : Except WalkFault (List Nat) :=
  s.walkOn c purpose 256 start [] [] []

/-! ### Use counts (R70, R71) -/

/-- Add 1 to the use count of each record of a path. -/
def addPath (counts : List Nat) (path : List Nat) : List Nat :=
  mapFrom (fun i n => if path.contains i then n + 1 else n) 0 counts

/-- Take 1 from the use count of each record of a path (R71). -/
def releasePath (counts : List Nat) (path : List Nat) : List Nat :=
  mapFrom (fun i n => if path.contains i then n - 1 else n) 0 counts

/-- The lowest record of the path whose count would exceed 60 (R70). -/
def useLimit (counts : List Nat) (path : List Nat) : Option Nat :=
  (path.filter fun i => decide (60 ≤ counts.getD i 0)).min?

/-- Count one path, or refuse it with USE_LIMIT (R70). -/
def countPath (counts : List Nat) (path : List Nat) : Except WalkFault (List Nat) :=
  match useLimit counts path with
  | some i => .error { reason := .useLimit, record := i, slot := none }
  | none => .ok (addPath counts path)

/-- The INVALID_RECIPE refusal of a path (R61, R180). -/
def invalidRecipe (purpose : Purpose) (e : WalkFault) : Response :=
  { code := .invalidRecipe,
    body := .refusal { subject := some e.record, slot := e.slot, check := none, purpose := some purpose,
                       reason := some e.reason } }

/-- The six configured starts of a context with their purposes, in the order of Table 4-6. -/
def CtxCfg.starts (cfg : CtxCfg) : List (Purpose × Nat) :=
  [ (.idle, cfg.idleStep), (.parkLight, cfg.parkLight), (.parkDeep, cfg.parkDeep), (.handlerLow, cfg.handlerLow),
    (.handlerHigh, cfg.handlerHigh), (.handlerEmergency, cfg.handlerEmergency) ]

/-- Walk the starts in order, stopping at the first that fails (R61). -/
def State.walkAll (s : State) (c : Nat) : List (Purpose × Nat) → Except (Purpose × WalkFault) (List (List Nat))
  | [] => .ok []
  | (p, start) :: rest =>
    match s.walk c p start with
    | .error e => .error (p, e)
    | .ok path =>
      match s.walkAll c rest with
      | .error e => .error e
      | .ok paths => .ok (path :: paths)

/-- Count the paths in order, stopping at the first that does not fit (R70). DESIGN CHOICE (log 32): where several paths that are counted
together do not fit, the refusal names the first in the order of Table 4-6 that does not fit beside those before it, and the
lowest record of that path that is at its limit. -/
def countAll (counts : List Nat) : List (Purpose × List Nat) → Except (Purpose × WalkFault) (List Nat)
  | [] => .ok counts
  | (p, path) :: rest =>
    match countPath counts path with
    | .error e => .error (p, e)
    | .ok counts' => countAll counts' rest

/-- The six walks and their counts for a configuration, as if the paths held were first released (R70): the new paths and the
use counts with them. -/
def State.validate (s : State) (c : Nat) (cfg : CtxCfg) : Except (Purpose × WalkFault) (List (List Nat) × List Nat) :=
  match s.walkAll c cfg.starts with
  | .error e => .error e
  | .ok paths =>
    match countAll ((s.ctx c).paths.foldl releasePath s.useCounts) ((cfg.starts.map (·.1)).zip paths) with
    | .error e => .error e
    | .ok counts => .ok (paths, counts)

end Sys2Proof.Machine
end

