-- ==== Sys2Proof/Machine/Sequencer.lean ====
section
/-!
DEFINITION. Sys2Proof/Machine/Sequencer.lean: the context sequencers. Taking up a step (R94, R95, R111 to R114), its end (R115, R116),
the ends of jobs (R86), the handler terminators (R170 to R173), idle entry, job start, park and wake (R79, R83, R87 to R89), and
the evaluation of collections (R99 to R107) and of the rate of rise (R108, R109).
-/
namespace Sys2Proof.Machine

/-! ### Jobs (R71, R83, R86) -/

/-- The counter of a job outcome for context c (Table 5-4). -/
def outcomeCounter (c : Nat) : JobOutcome → Option Nat
  | .completed => some (8 * c + 1)
  | .aborted | .halted | .cancelled => some (8 * c + 2)
  | .discarded => none

/-- A job of context c ends: its JOB_END report, its path's release and the outcome's count (R86). The tag is free with the
report, since no queue or running job holds it afterwards. -/
def State.endJob (s : State) (c : Nat) (j : Job) (outcome : JobOutcome) (step : Option Nat) (runTime : Nat) : State :=
  let s1 := s.report (some c) step (some j.tag) (.jobEnd outcome j.priority j.start runTime)
  let s2 := { s1 with useCounts := releasePath s1.useCounts j.path }
  match outcomeCounter c outcome with
  | some n => s2.count n
  | none => s2

/-- The running job of context c ends at its current step, if there is one (R86). -/
def State.endRunning (s : State) (c : Nat) (outcome : JobOutcome) : State :=
  let x := s.ctx c
  match x.job with
  | none => s
  | some j => (s.setCtx c { x with job := none }).endJob c j.job outcome x.cur j.runTime

/-- Job start: the oldest queued job becomes the running job, at its first step (R83). Entry into RUNNING is an attempt at
taking (R161). DESIGN CHOICE (log 29): it comes after all that the taking up of the first step leads to, even where that step ends at
its admission or starts a gate's motion. -/
def State.startJob (s : State) (c : Nat) : State :=
  let x := s.ctx c
  match x.queue with
  | [] => s
  | j :: rest =>
    ((s.setCtx c
      { x with queue := rest, job := some { job := j, startTime := s.now, runTime := 0 }, autoPark := none, loops := [],
               cur := some j.start, state := .running }).releaseForces c).push [.takeUp c j.start 0, .attempt c]

/-! ### Rest: idle entry, park and wake -/

/-- The SET items of the rest step with head index h. -/
def State.restItems (s : State) (h : Nat) : List SetItem :=
  match stepAt s.records h with
  | some st => st.sets
  | none => []

/-- Apply a rest step: its items, and 0 to each FLOW and POWER point of the context that it does not name (R79 stages 1 and 2). -/
def State.applyRest (s : State) (c h : Nat) : State := (s.applyItems (s.restItems h)).zeroOthers c (s.restItems h)

/-- Applying a rest step brings the points of the context to be all at zero (R136). -/
def State.restBringsZero (s : State) (c h : Nat) : Bool := s.bringsZero c (s.restItems h) true

/-- The context comes to rest on the step with head index h, in a state of rest (R79 stage 3, R87, R88). -/
def State.rest (s : State) (c h : Nat) (state : CtxState) : State :=
  let s1 := s.applyRest c h
  s1.setCtx c { s1.ctx c with state := state, step := none, cur := some h, lastRest := some h, loops := [], marker := false }

/-- Stages 1 to 4 of idle entry (R79), without what follows from them. -/
def State.idleRest (s : State) (c : Nat) : State := (s.rest c (s.ctx c).cfg.idleStep .idle).release c

/-- Idle entry (R79). DESIGN CHOICE (log 12): the scan that its release or its zeroing triggers is run before stage 5. -/
def State.idleEntry (s : State) (c : Nat) : State :=
  let s1 := s.idleRest c
  (s1.push [.restStart c]).triggerIf (s.holdsPlant c || s.restBringsZero c (s.ctx c).cfg.idleStep)

/-- The auto-park timer, started by entry into IDLE; an auto-park time of 0 starts none (R80). -/
def autoParkTimer (now : Time) (cfg : CtxCfg) : Option Timer :=
  if cfg.autoPark = 0 then none else some { start := now, dur := cfg.autoPark * 1000000 }

/-- Stage 5 of idle entry, and the end of R89: the oldest queued job is started, or the auto-park timer. -/
def State.restStart (s : State) (c : Nat) : State :=
  let x := s.ctx c
  if x.state = .idle then
    match x.queue with
    | [] => s.setCtx c { x with autoPark := autoParkTimer s.now x.cfg }
    | _ :: _ => s.startJob c
  else s

/-- The park step of a level. -/
def CtxCfg.parkStep (cfg : CtxCfg) : ParkLevel → Nat
  | .light => cfg.parkLight
  | .deep => cfg.parkDeep

/-- A park of context c at a level (R87). DESIGN CHOICE (log 12): the scan that its zeroing triggers is run after its stages. -/
def State.parkAt (s : State) (c : Nat) (level : ParkLevel) : State :=
  let s1 := s.rest c ((s.ctx c).cfg.parkStep level) (.parked level)
  let s2 := s1.setCtx c { s1.ctx c with autoPark := none, wakeDelay := none }
  s2.triggerIf (s.restBringsZero c ((s.ctx c).cfg.parkStep level))

/-- Seconds of a wake delay code (Table 5-3). -/
def wakeSeconds (code : Nat) : Nat := [0, 1, 5, 15, 30, 60, 120, 300].getD code 0

/-- The end of the wake delay (R89). A release that R133 gives there triggers its scan before the queued job is started (log 12). -/
def State.wakeEnd (s : State) (c : Nat) : State :=
  let s1 := s.setCtx c { s.ctx c with state := .idle, step := none, wakeDelay := none, marker := false }
  ((s1.release c).push [.restStart c]).triggerIf (s.holdsPlant c)

/-- The wake delay code of a park level. -/
def CtxCfg.wakeCode (cfg : CtxCfg) : ParkLevel → Nat
  | .light => cfg.wakeLight
  | .deep => cfg.wakeDeep

/-- A wake of context c from a park level (R88). A delay of code 0 ends within the same event.
DESIGN CHOICE (log 12): the scan that the zeroing triggers is run after the stages, and before the job that such an end starts. -/
def State.wakeFrom (s : State) (c : Nat) (level : ParkLevel) : State :=
  let x := s.ctx c
  let s1 := (s.rest c x.cfg.idleStep .waking).releaseForces c
  let delay := wakeSeconds (x.cfg.wakeCode level) * 1000000
  let s2 := s1.setCtx c { s1.ctx c with wakeDelay := some { start := s.now, dur := delay } }
  (if delay = 0 then s2.wakeEnd c else s2).triggerIf (s.restBringsZero c x.cfg.idleStep)

/-! ### Ends of steps (R115, R116) -/

/-- A STEP_END report is asked for: by the step's REPORT flag, or by the running job's report-all flag on a step of the job's
own path (R115). -/
def Ctx.reportsStep (x : Ctx) (st : StepState) : Bool :=
  st.step.head.report || (x.isl == .none && x.job.any (·.job.reportAll))

/-- The STEP_END report of the standing step, where it is asked for (R116). -/
def State.reportStep (s : State) (c : Nat) (st : StepState) (reason : EndReason) : State :=
  let x := s.ctx c
  if x.reportsStep st then
    s.report (some c) x.cur x.jobTag
      (.stepEnd reason st.strike (st.bands.map (·.fired)) st.elapsed st.admitWait st.pressure)
  else s

/-- The normal end of the step at which context c stands (R115): its timers go with its step state, the report, the count, and
the successor is taken up. -/
def State.endStep (s : State) (c : Nat) (reason : EndReason) : State :=
  match (s.ctx c).step with
  | none => s
  | some st =>
    let s1 := (s.reportStep c st reason).count (8 * c)
    (s1.setCtx c { s1.ctx c with step := none }).push [.takeUp c (st.step.head.next.target st.step.after) 0]

/-! ### Terminators (R170 to R173) -/

/-- The time credit of a restart (R171). -/
def creditOf (st : Option Step) (runTime : Nat) : Nat :=
  match st with
  | some st => if st.head.kind.conditioned && st.head.creditTime then runTime else 0
  | none => 0

/-- A RETURN step: the top record is popped and its step restarted (R170). DESIGN CHOICE (log 29): the attempt of stage 5 comes after all
that the taking up of the restarted step leads to, even where that step ends at its admission or starts a gate's motion. -/
def State.returnStep (s : State) (c : Nat) : State :=
  let x := s.ctx c
  match x.stack.getLast? with
  | none => s
  | some r =>
    (s.setCtx c
      { x with stack := x.stack.dropLast, isl := r.level, loops := r.loops,
               state := if r.level = .none then .running else .diverted }).push
      [.takeUp c r.head (creditOf (stepAt s.records r.head) r.runTime), .attempt c]

/-- A HALT step (R172). DESIGN CHOICE (log 12): one scan is run for the zeroing of stage 2 and the release of stage 5, after stage 5 and so
after the JOB_END report of stage 3. -/
def State.haltStep (s : State) (c : Nat) : State :=
  let s1 := s.setCtx c { s.ctx c with stack := [], isl := .none }
  let s2 := (s1.zeroHot c).endRunning c .halted
  let x := s2.ctx c
  let s3 := (s2.setCtx c { x with state := .halted, step := none, loops := [], cur := x.lastRest, marker := false }).release c
  s3.triggerIf (s.holdsPlant c || s.cameToZero s3 c)

/-- An ABANDON step (R173). -/
def State.abandonStep (s : State) (c : Nat) : State :=
  (((s.setCtx c { s.ctx c with stack := [], isl := .none }).endRunning c .aborted).push [.attempt c]).idleEntry c

/-- A JOB_END step: the running job ends COMPLETED and the context makes idle entry (R86, R114). -/
def State.jobEndStep (s : State) (c : Nat) : State :=
  match (s.ctx c).job with
  | none => s
  | some _ => (s.endRunning c .completed).idleEntry c

/-! ### Taking up a step (R94) -/

/-- The step state of a step that enters ADMIT (R95). DESIGN CHOICE (log 30): the strike state, which R106 sets at admission, stands
UNSTRUCK in ADMIT already where the step has a strike window, and NOT_PLASMA where it has none. -/
def State.admitState (s : State) (c : Nat) (st : Step) (credit : Nat) : StepState :=
  let targets := s.prospective c st
  { step := st, phase := .waiting, admitEntry := s.now, admitWait := 0, admission := none, elapsed := 0, targets := targets,
    demand := s.demandOf targets, rampEnd := none, conds := [], bands := [], maxTimer := none, strikeTimer := none,
    rorTimer := none, strike := if st.head.kind.conditioned && decide (0 < st.head.strikeWindow) then .unstruck else .notPlasma,
    lostRaised := false, timeoutRaised := false, pressure := none, p0 := 0, t0 := 0, valid0 := false, settleAt := 0,
    credit := credit }

/-- A LOOP_END acts on the innermost open level (R113). -/
def State.loopEnd (s : State) (c : Nat) (st : Step) : State :=
  let x := s.ctx c
  match x.loops.getLast? with
  | none => s
  | some l =>
    if l.iteration < l.count then
      let back := match stepAt s.records l.begin with
        | some b => b.head.next.target b.after
        | none => l.begin
      (s.setCtx c { x with loops := x.loops.dropLast ++ [{ l with iteration := l.iteration + 1 }] }).push [.takeUp c back 0]
    else (s.setCtx c { x with loops := x.loops.dropLast }).push [.takeUp c (st.head.next.target st.after) 0]

/-- A LOOP_BEGIN opens a level (R112). Two levels at most are open: a third, which no validated path has (R64), is not opened
(log 31). -/
def State.loopBegin (s : State) (c h : Nat) (st : Step) : State :=
  let x := s.ctx c
  let level : LoopLevel := { begin := h, count := st.head.loopCount, iteration := 1 }
  (s.setCtx c { x with loops := if x.loops.length < 2 then x.loops ++ [level] else x.loops }).push
    [.takeUp c (st.head.next.target st.after) 0]

/-- The work of a step taken up in a context that already shows it as its current step, by kind (R94). -/
def State.takeUpStep (s : State) (c h credit : Nat) (st : Step) : State :=
  match st.head.kind with
  | .loopBegin => s.loopBegin c h st
  | .loopEnd => s.loopEnd c st
  | .jobEnd => s.jobEndStep c
  | .ret => s.returnStep c
  | .halt => s.haltStep c
  | .abandon => s.abandonStep c
  | _ =>
    let a := s.admitState c st credit
    (s.setCtx c { s.ctx c with step := some a }).present c a

/-- Context c takes up the step with head index h (R94). Where no step stands there, or the context is not in RUNNING or DIVERTED,
nothing is done; neither arises (log 31): every step taken up lies in a held path, whose records cannot change (R69), and only a
job start and a taking, which enter those two states, lead to one. -/
def State.takeUp (s : State) (c h credit : Nat) : State :=
  match stepAt s.records h with
  | none => s
  | some st =>
    if (s.ctx c).active then (s.setCtx c { s.ctx c with cur := some h, step := none }).takeUpStep c h credit st else s

/-! ### End conditions (R98 to R101) -/

/-- The end reason of an evaluation: `none` when the end mode is not met; otherwise the lowest condition whose met flag the
evaluation set, or, where it set none, the lowest that stands set (R101). -/
def endReason (all : Bool) (old new : List Cond) : Option Nat :=
  if new.isEmpty || !(if all then new.all (·.met) else new.any (·.met)) then none
  else ((old.zip new).findIdx? fun p => !p.1.met && p.2.met).orElse fun _ => new.findIdx? (·.met)

/-- Give the standing step new conditions and end it where its end mode is met (R101). -/
def State.evaluateEnd (s : State) (c : Nat) (st : StepState) (new : List Cond) : State :=
  let s1 := s.modStep c fun st => { st with conds := new }
  match endReason st.step.head.endAll st.conds new with
  | some i => s1.push [.stepEnd c (.condition i)]
  | none => s1

/-- A TIME condition whose timer is due is met (R98). -/
def Cond.expire (now : Time) (k : Cond) : Cond := if timerDue k.timer now then { k with met := true, timer := none } else k

/-- What admission itself brings about for a PROCESS or PUMP step: a step with no END item ends with reason NONE, and TIME
conditions that expire at admission are met (R98, R101). -/
def State.admitEnd (s : State) (c : Nat) : State :=
  match (s.ctx c).step with
  | none => s
  | some st =>
    if st.phase = .waiting ∨ !st.step.head.kind.conditioned then s
    else if st.conds.isEmpty then s.push [.stepEnd c .none]
    else if st.conds.any fun k => timerDue k.timer s.now then s.evaluateEnd c st (st.conds.map (Cond.expire s.now))
    else s

/-- A BELOW or ABOVE condition at a collection of its point (R99). -/
def Cond.threshold (now : Time) (hold : Nat) (k : Cond) (meets : Bool) : Cond :=
  if meets then
    match k.holdStart with
    | none => { k with holdStart := some now, met := k.met || hold == 0 }
    | some t => { k with met := k.met || decide (hold * 1000 ≤ (now - t).toNat) }
  else { k with holdStart := none, met := false }

/-- The point that a condition watches. -/
def EndItem.point : EndItem → Option Nat
  | .time _ => none
  | .below p _ _ | .above p _ _ | .input p _ => some p

/-- The f of point p, 0 where it is no SAMPLE point. -/
def State.fOf (s : State) (p : Nat) : Nat := ((s.sampleAt (some p)).map (·.1)).getD 0

/-- A condition at a collection notification (R99, R100). -/
def State.evalCond (s : State) (image len : Nat) (k : Cond) : Cond :=
  match k.item.point.bind (s.collected image len) with
  | none => k
  | some fresh =>
    match k.item with
    | .time _ => k
    | .below p v h => k.threshold s.now h (fresh && decide (s.fOf p ≤ v))
    | .above p v h => k.threshold s.now h (fresh && decide (v ≤ s.fOf p))
    | .input p v => { k with met := fresh && ((s.fOf p == 1) == v) }

/-! ### Bands and plasma (R104 to R107) -/

/-- The request source of a band. -/
def bandRequest : BandSource → Source
  | .pressure => .pressureBand
  | .flow => .flowBand
  | .rf => .rfBand

/-- A band at a collection notification, in a step that has run so long (R105). -/
def State.evalBand (s : State) (image len elapsed : Nat) (b : Band) : Band :=
  match s.collected image len b.item.point with
  | none => b
  | some fresh =>
    if b.fired || decide (elapsed < b.item.settle * 1000) then b
    else
      let f : Int := s.fOf b.item.point
      if !fresh || (decide (b.low ≤ f) && decide (f ≤ b.high)) then { b with outStart := none }
      else
        match b.outStart with
        | none => { b with outStart := some s.now, fired := b.item.persist == 0 }
        | some t => { b with fired := decide (b.item.persist * 1000 ≤ (s.now - t).toNat) }

/-- The sources of the bands that fired between two evaluations, in band order. -/
def firedSources (old new : List Band) : List Source :=
  (old.zip new).filterMap fun p => if !p.1.fired && p.2.fired then some (bandRequest p.2.item.source) else none

/-- Strike and lost detection at a collection notification (R106, R107): the step state, and whether PLASMA_LOST is raised. -/
def State.evalPlasma (s : State) (cfg : CtxCfg) (image len : Nat) (st : StepState) : StepState × Bool :=
  match cfg.plasma with
  | none => (st, false)
  | some p =>
    if s.collectedFresh image len p then
      match st.strike with
      | .unstruck =>
        if cfg.strike ≤ s.fOf p then ({ st with strike := .struck, strikeTimer := none }, false) else (st, false)
      | .struck =>
        if s.fOf p < cfg.lost ∧ !st.lostRaised then ({ st with lostRaised := true }, true) else (st, false)
      | _ => (st, false)
    else (st, false)

/-- The pressure extremes with a new f (R102 stage 1). -/
def extremes (old : Option (Nat × Nat)) (f : Nat) : Option (Nat × Nat) :=
  match old with
  | none => some (f, f)
  | some (lo, hi) => some (min lo f, max hi f)

/-- Stage 1 of R102. -/
def State.seePressure (s : State) (cfg : CtxCfg) (image len : Nat) (st : StepState) : StepState :=
  match cfg.pressure with
  | none => st
  | some p => if s.collectedFresh image len p then { st with pressure := extremes st.pressure (s.fOf p) } else st

/-- A collection notification reaches a context (R102): stages 1 to 4 here, the end of stage 5 and then the raises of stage 6
left as work. -/
def State.notifyCtx (s : State) (c image len : Nat) : State :=
  let x := s.ctx c
  match x.step with
  | none => s
  | some st =>
    if !x.active || st.phase == .waiting then s
    else
      let st1 := s.seePressure x.cfg image len st
      let pl := s.evalPlasma x.cfg image len st1
      let bands := pl.1.bands.map (s.evalBand image len st.elapsed)
      let raises := (if pl.2 then [Source.plasmaLost] else []) ++ firedSources pl.1.bands bands
      let st3 := { pl.1 with bands := bands }
      let s1 := (s.setCtx c { x with step := some st3 }).push (raises.map fun src => .raise c src)
      if st.conds.any fun k => (k.item.point.bind (s.collected image len)).isSome then
        s1.evaluateEnd c st3 (st.conds.map (s.evalCond image len))
      else s1

/-! ### The rate of rise (R108, R109) -/

/-- The pressure sample of a context, where it has one. -/
def State.pressureSample (s : State) (p : Option Nat) : Option Sample :=
  match p with
  | none => none
  | some p =>
    match s.point p with
    | .sample _ st => some st
    | _ => none

/-- A pressure reading: f, the last fresh time, and whether the point exists and is not stale. Without a pressure point the first two
are free values (log 11). -/
def State.pressureReading (s : State) (p : Option Nat) : Nat × Time × Bool :=
  match s.pressureSample p with
  | none => ((Config.noPressure s.free).toNat, Config.noFreshTime s.free, false)
  | some st => (st.f, st.lastFresh, !st.stale)

/-- The count of free values after a reading. -/
def State.afterReading (s : State) (p : Option Nat) : State :=
  match s.pressureSample p with
  | none => { s with free := s.free + 1 }
  | some _ => s

/-- The first reading, at the settle expiry, and the start of MEASURE (R108). -/
def State.takeFirst (s : State) (p : Option Nat) (st : StepState) : StepState :=
  let r := s.pressureReading p
  { st with p0 := r.1, t0 := r.2.1,
            valid0 := r.2.2 && decide ((r.2.1 - st.admission.getD 0).toNat ≤ st.elapsed),
            settleAt := s.now, phase := .measure,
            rorTimer := some { start := s.now, dur := st.step.head.rorMeasure * 1000 } }

/-- The rate of rise in 0.1 mTorr per minute (R109). -/
def rateOfRise (p0 p1 span : Nat) : Nat := min ((p1 - p0) * 60000000 / span) 4294967295

/-- The second reading and the result (R109): the fields of the ROR_RESULT report. -/
def State.rorOutcome (s : State) (p : Option Nat) (st : StepState) : RorResult × Nat × Nat × Nat :=
  let r := s.pressureReading p
  let span := (r.2.1 - st.t0).toNat
  let valid := st.valid0 && r.2.2 && decide (0 < span)
    && decide (span ≤ (s.now - st.settleAt).toNat + (st.settleAt - st.t0).toNat)
  if valid then
    let rate := rateOfRise st.p0 r.1 span
    (if rate ≤ st.step.head.rorLimit then .pass else .fail, r.1, span, rate)
  else (.invalid, r.1, span, 0)

end Sys2Proof.Machine
end

