-- ==== Sys2Proof/Machine/Requests.lean ====
section
/-!
DEFINITION. Sys2Proof/Machine/Requests.lean: the request units. Raising (R157), taking with its return record and report (R163 to
R168), and the attempt at taking (R160, R161).
-/
namespace Sys2Proof.Machine

/-- The flag and the REQUEST report of a raise (R157): nothing in a context that is OFFLINE. -/
def State.raiseFlag (s : State) (c : Nat) (src : Source) : State :=
  let x := s.ctx c
  if x.state = .offline then s
  else
    (s.setCtx c { x with flags := x.flags ||| src.bit }).report (some c) x.cur x.jobTag
      (.request src (src.level x.highs) (src.masked x.masks) (x.flag src))

/-- A raise: the flag and its report, and an attempt at taking (R157, R161). -/
def State.raise (s : State) (c : Nat) (src : Source) : State := (s.raiseFlag c src).push [.attempt c]

/-- The handler start of a level (R169). -/
def CtxCfg.handler (cfg : CtxCfg) : Level → Nat
  | .none | .low => cfg.handlerLow
  | .high => cfg.handlerHigh
  | .emergency => cfg.handlerEmergency

/-- The counter of diversions of a level in context c (Table 11-2). -/
def diversionCounter (c : Nat) : Level → Nat
  | .none | .low => 8 * c + 3
  | .high => 8 * c + 4
  | .emergency => 8 * c + 5

/-- The run time that a return record keeps of an abandoned step (R166). -/
def StepState.ran (st : StepState) : Nat :=
  match st.phase with
  | .waiting => st.credit
  | _ => min (st.credit + st.elapsed) 3600000000

/-- Stage 2 of R163: the standing step is abandoned, with its report where one is asked for, and its wait-list entry removed
(R117, R137). -/
def State.abandonStanding (s : State) (c : Nat) : State :=
  match (s.ctx c).step with
  | some st => (s.reportStep c st .aborted).removeEntry c
  | none => s

/-- Stage 3 of R163: the zeroing and release of an EMERGENCY request (R164). -/
def State.emergencyZero (s : State) (c : Nat) (level : Level) : State :=
  if level = .emergency then (s.zeroHot c).release c else s

/-- The return record of the step at which a context stands (R166). -/
def Ctx.returnRecord (x : Ctx) : Option ReturnRecord :=
  match x.step, x.cur with
  | some st, some h => some { head := h, loops := x.loops, runTime := st.ran, level := x.isl }
  | _, _ => none

/-- The taking of a request (R163 to R168). DESIGN CHOICE (log 12): the scan that the removal, the release or the zeroing triggers
is run before the handler's first step is presented. -/
def State.take (s : State) (c : Nat) (src : Source) : State :=
  let x := s.ctx c
  let level := src.level x.highs
  let s1 := s.setCtx c { x with flags := x.flags &&& ~~~src.bit }
  let s2 := s1.abandonStanding c
  let s3 := s2.emergencyZero c level
  let stack := x.stack ++ x.returnRecord.toList
  let s4 := (s3.report (some c) (x.step.bind fun _ => x.cur) x.jobTag
    (.faultTaken src level x.state x.isl x.phase stack.length (x.cfg.handler level) (x.step.map StepState.ran))).count
      (diversionCounter c level)
  let s5 := s4.releaseForces c
  let s6 := s5.setCtx c
    { s5.ctx c with stack := stack, isl := level, state := .diverted, loops := [], step := none, autoPark := none,
                    wakeDelay := none }
  let scan := (s.waits.any fun e => e.ctx == c)
    || (level == .emergency && (s2.holdsPlant c || s2.cameToZero s3 c))
  s6.push ((if scan then [.trigger] else []) ++ [.takeUp c (x.cfg.handler level) 0])

/-- An attempt at taking: one request, if there is a candidate (R160). -/
def State.attempt (s : State) (c : Nat) : State :=
  match s.toTake c with
  | some src => s.take c src
  | none => s

end Sys2Proof.Machine
end

