-- ==== Sys2Proof/Machine/Gates.lean ====
section
/-!
DEFINITION. Sys2Proof/Machine/Gates.lean: the gate controller. Switch readings (R144, R145), motion (R146 to R149), the watch on an
open gate (R150), and handing on a change of state (R151).
-/
namespace Sys2Proof.Machine

/-- A gate has changed state: the GATE report, and the rest of the handing-on as work (R151). -/
def State.changeGate (s : State) (g : Nat) (x x' : Gate) (cause : GateCause) (reading : Option Reading) : State :=
  let c := x.cfg.owner
  let s1 := (s.setGate g (some x')).report (some c) (s.ctx c).cur (s.ctx c).jobTag
    (.gate g x.state x'.state cause reading (s.freshF (s.ctx c).cfg.pressure)
      (s.freshF (s.ctx x.cfg.partner).cfg.pressure))
  s1.push [.tellSequencer g, .tellUnit g (s.hold c), .trigger]

/-- The target of a SET point's record. -/
def State.targetOf (s : State) (p : Nat) : Nat :=
  match s.point p with
  | .set _ r => r.t
  | _ => 0

/-- A context that stands at a step in ADMIT forms its prospective targets and its demand afresh (R146). -/
def State.reformNeeds (s : State) (c : Nat) : State :=
  s.modStep c fun st =>
    match st.phase with
    | .waiting =>
      let targets := s.prospective c st.step
      { st with targets := targets, demand := s.demandOf targets }
    | _ => st

/-- Entry into FAULT (R146). DESIGN CHOICE (log 12): the points that stage 3 brings to zero trigger no scan there: the one scan of
the gate's change of state follows the attempt of GATE_MOTION, as the last stage of R151. -/
def State.enterFault (s : State) (g : Nat) (x : Gate) (cause : GateCause) (reading : Option Reading) : State :=
  let s1 := if s.targetOf x.cfg.openOut = 0 then s else s.retarget x.cfg.openOut 0 0
  let s2 := if x.state = .closed then
      (((s1.zeroHot x.cfg.owner).zeroHot x.cfg.partner).reformNeeds x.cfg.owner).reformNeeds x.cfg.partner
    else s1
  s2.changeGate g x { x with state := .fault, timer := none, last := reading.orElse fun _ => x.last } cause reading

/-- The motion timer of a motion that starts now. -/
def motionTimer (cfg : GateFields) (now : Time) : Option Timer :=
  some { start := now, dur := cfg.motionTimeout * 1000 }

/-- An opening starts (R147). -/
def State.openGate (s : State) (g : Nat) (x : Gate) (cause : GateCause) : State :=
  (s.retarget x.cfg.openOut 1 0).changeGate g x
    { x with state := .opening, timer := motionTimer x.cfg s.now, tripRaised := false } cause none

/-- A closing (R149): it starts from OPEN, OPENING and FAULT, and does nothing otherwise. -/
def State.closeGate (s : State) (g : Nat) (x : Gate) (cause : GateCause) : State :=
  match x.state with
  | .open | .opening | .fault =>
    (s.retarget x.cfg.openOut 0 0).changeGate g x { x with state := .closing, timer := motionTimer x.cfg s.now } cause none
  | .closing | .closed => s

/-- The admission of a gate step (R111): an opening, or a closing, which on a CLOSED gate ends the step. DESIGN CHOICE (log 12): this end
comes, and the successor is presented, before the scan that the admission itself triggers. -/
def State.gateStart (s : State) (c g : Nat) (opening : Bool) : State :=
  match s.gate g with
  | none => s
  | some x =>
    if opening then s.openGate g x .step
    else if x.state = .closed then s.push [.stepEnd c .none]
    else s.closeGate g x .step

/-- Stage 2 of R151: the owner's gate step that awaits the state the gate is in ends (R111). -/
def State.tellSequencer (s : State) (g : Nat) : State :=
  match s.gate g with
  | none => s
  | some x =>
    match (s.ctx x.cfg.owner).step with
    | none => s
    | some st =>
      let awaited := match st.step.head.kind with
        | .gateOpen => x.state == .open
        | .gateClose => x.state == .closed
        | _ => false
      if st.phase == .motion && st.step.head.gate == some g && awaited then s.push [.stepEnd x.cfg.owner .none] else s

/-- Stage 3 of R151: at entry into FAULT, GATE_MOTION is raised with one attempt at taking; at another end of the hold, an attempt
(R146, R162). -/
def State.tellUnit (s : State) (g : Nat) (held : Bool) : State :=
  match s.gate g with
  | none => s
  | some x =>
    let c := x.cfg.owner
    if x.state = .fault then (s.raiseFlag c .gateMotion).attempt c
    else if held && !s.hold c then s.attempt c
    else s

/-- The reading of two switches (R144). -/
def readingOf (closed open' : Bool) : Reading :=
  match closed, open' with
  | true, false => .closedSw
  | false, true => .openSw
  | false, false => .mid
  | true, true => .both

/-- The reading that a collection notification forms of a gate, if any (R144). -/
def State.formReading (s : State) (x : Gate) (image len : Nat) : Option Reading :=
  if s.collectedFresh image len x.cfg.openSw || s.collectedFresh image len x.cfg.closedSw then
    match s.freshF (some x.cfg.closedSw), s.freshF (some x.cfg.openSw) with
    | some k, some o => some (readingOf (k == 1) (o == 1))
    | _, _ => none
  else none

/-- The state to which a reading moves a gate, if it moves it (Table 8-4). -/
def readingMoves : GateState → Reading → Option GateState
  | .closed, .closedSw => none
  | .closed, _ => some .fault
  | .opening, .openSw => some .open
  | .opening, .both => some .fault
  | .opening, _ => none
  | .open, .openSw => none
  | .open, _ => some .fault
  | .closing, .closedSw => some .closed
  | .closing, .both => some .fault
  | .closing, _ => none
  | .fault, .closedSw => some .closed
  | .fault, _ => none

/-- The gate controller reads a gate's switches at a collection notification (R144, R145). -/
def State.readGate (s : State) (g image len : Nat) : State :=
  match s.gate g with
  | none => s
  | some x =>
    match s.formReading x image len with
    | none => s
    | some r =>
      match readingMoves x.state r with
      | none => s.setGate g (some { x with last := some r })
      | some .fault => s.enterFault g x .reading (some r)
      | some state => s.changeGate g x { x with state := state, timer := none, last := some r } .reading (some r)

/-- The gate controller compares the pressures across an OPEN gate at a collection notification (R150). -/
def State.compareGate (s : State) (g image len : Nat) : State :=
  match s.gate g with
  | none => s
  | some x =>
    let a := (s.ctx x.cfg.owner).cfg.pressure
    let b := (s.ctx x.cfg.partner).cfg.pressure
    let seen := a.any (s.collectedFresh image len) || b.any (s.collectedFresh image len)
    match s.freshF a, s.freshF b with
    | some fa, some fb =>
      if x.state == .open && seen && !x.tripRaised && !matched fa fb x.cfg.tripDelta then
        (s.setGate g (some { x with tripRaised := true })).push
          [.raise x.cfg.owner .gatePressure, .raise x.cfg.partner .gatePressure]
      else s
    | _, _ => s

/-- The motion timer's expiry (R148). -/
def State.motionExpiry (s : State) (g : Nat) : State :=
  match s.gate g with
  | none => s
  | some x =>
    if timerDue x.timer s.now && (x.state == .opening || x.state == .closing) then s.enterFault g x .timeout none else s

end Sys2Proof.Machine
end

