-- ==== Sys2Proof/Machine/Ring.lean ====
section
/-!
DEFINITION. Sys2Proof/Machine/Ring.lean: the frame engine's return pass (R7), the ring state and the gap (R9 to R11), and the status
area's write (R12).
-/
namespace Sys2Proof.Machine

/-- Context c has flow on a budget-enabled line, or power, on (R11). -/
def State.flowOn (s : State) (c : Nat) : Bool :=
  s.points.any fun p =>
    match p with
    | .set cfg r =>
      cfg.owner == .ctx c && decide (0 < r.currentValue s.now) &&
        match cfg.quantity with
        | .flow => cfg.line.any fun l => (s.line l).budget
        | .power => true
        | _ => false
    | _ => false

/-- Entry into GAP (R10, R11). -/
def State.enterGap (s : State) : State :=
  ({ s with ring := .gap, gapTimer := none }.count 52).push
    ((contexts.filter fun c => (s.ctx c).active && s.flowOn c).map fun c => .raise c .ringGap)

/-- A good return of image 0 acts on the ring state and the gap timer (R9, R10). -/
def State.ringUp (s : State) : State :=
  { s with ring := .up, gapTimer := some { start := s.now, dur := s.inUse.nGap * s.inUse.period } }

/-- The status area written into a frame, where it fits (R12). -/
def State.writeStatus (s : State) (arrived : Ring) (f : Frame) : Frame :=
  if s.inUse.offset + 56 ≤ (payloadOf f).length then writePayload f s.inUse.offset (s.statusArea arrived) else f

/-- Stages 4 and 5 of R7. -/
def State.finishReturn (s : State) (image : Nat) (f : Frame) : State :=
  if image = 0 then
    let s' := s.ringUp
    s'.sendU (reform (s'.writeStatus s.ring f))
  else s.sendU (reform f)

/-- The work of stage 3 of R7 for the gates, in ascending index: reading, then comparison. -/
def gateNotices (image len : Nat) : List Task :=
  (List.range Config.gates).flatMap fun g => [.readGate g image len, .compareGate g image len]

/-- The return pass of a good PROCESS frame of an image (R7): its stages as work in order. During the config load the frame is
forwarded unchanged (R17). -/
def State.processReturn (s : State) (image : Nat) (f : Frame) : State :=
  if s.loader.state = .loading then s.sendU f
  else
    let payload := payloadOf f
    s.push
      (s.evaluations image payload ++ s.collections image payload
        ++ (contexts.map fun c => .notifyCtx c image payload.length) ++ gateNotices image payload.length
        ++ [.notifyArbiter image payload.length, .finishReturn image f])

end Sys2Proof.Machine
end

