-- ==== Sys2Proof/Machine/Cascade.lean ====
section
/-!
DEFINITION. Sys2Proof/Machine/Cascade.lean: the work of one event, taken piece by piece in the order in which the rules hand it on,
until none is left.
-/
namespace Sys2Proof.Machine

/-- One piece of work. -/
def doTask (t : Task) (s : State) : State :=
  match t with
  | .takeUp c h credit => s.takeUp c h credit
  | .restStart c => s.restStart c
  | .attempt c => s.attempt c
  | .raise c src => s.raise c src
  | .trigger => s.trigger
  | .scan left => s.scanOn left
  | .admitEnd c => s.admitEnd c
  | .stepEnd c reason => s.endStep c reason
  | .gateStart c g opening => s.gateStart c g opening
  | .tellSequencer g => s.tellSequencer g
  | .tellUnit g held => s.tellUnit g held
  | .evalNode n touch => s.evaluateNode n touch
  | .collect p x => s.collectPoint p x
  | .notifyCtx c image len => s.notifyCtx c image len
  | .readGate g image len => s.readGate g image len
  | .compareGate g image len => s.compareGate g image len
  | .notifyArbiter image len => s.notifyArbiter image len
  | .finishReturn image f => s.finishReturn image f

/-- More pieces of work than one event can bring (log 10): it is reached by no event, and what it would leave is dropped. -/
def cascadeLimit : Nat := 2 ^ 64

/-- Take the first piece of work, until none is left, n pieces at most. No work is left afterwards. -/
def settleFor : Nat → State → State
  | 0, s => { s with agenda := [] }
  | n + 1, s =>
    match s.agenda with
    | [] => s
    | t :: ts => settleFor n (doTask t { s with agenda := ts })

/-- The event is carried to its end. -/
def State.settle (s : State) : State := settleFor cascadeLimit s

end Sys2Proof.Machine
end

