-- ==== Sys2Proof/Machine/SoftReset.lean ====
section
/-!
DEFINITION. Sys2Proof/Machine/SoftReset.lean: the soft reset, stage by stage (R191).
-/
namespace Sys2Proof.Machine

/-- Stages 1 and 2: ring state, reports and counters (R19, R202). -/
def State.softResetRing (s : State) : State :=
  { s with ring := .down, gapTimer := none, reports := [], lost := 0,
           counters := s.counters.map fun _ => { value := 0, overflow := false } }

/-- Stage 4: the arbiter (R141). -/
def State.softResetArbiter (s : State) : State :=
  { s with lines := s.lines.map fun x => { x with reservations := List.replicate Config.contexts 0 },
           groups := s.groups.map fun g => { g with holder := none }, waits := [] }

/-- A gate at stage 5 (R155). -/
def Gate.softReset (x : Gate) : Gate := { x with state := .fault, timer := none, last := none, tripRaised := false }

/-- A node at stage 6 (R49). -/
def Node.softReset (x : Node) : Node := { x with age := 3, state := .unseen, conflict := false, lastSeen := none }

/-- A point at stage 7 (R38). -/
def Point.softReset (now : Time) : Point → Point
  | .empty => .empty
  | .set cfg _ => .set cfg (SetRec.fresh now)
  | .sample cfg st => .sample cfg st.makeStale

/-- A context at stages 3 and 9, before its revalidation (R177, R93, R118): its requests, jobs, timers and step are dropped, and its
paths released. -/
def Ctx.softReset (x : Ctx) : Ctx :=
  { x with loops := [], job := none, queue := [], autoPark := none, wakeDelay := none, step := none, paths := [], flags := 0,
           isl := .none, stack := [], marker := false }

/-- Stages 1 to 8, and the dropping of stage 9. -/
def State.softResetTables (s : State) : State :=
  let s' := s.softResetRing.softResetArbiter
  { s' with gates := s'.gates.map (Option.map Gate.softReset), nodes := s'.nodes.map (Option.map Node.softReset),
            points := s'.points.map (Point.softReset s'.now), useCounts := s'.useCounts.map fun _ => 0,
            ctxs := s'.ctxs.map Ctx.softReset }

/-- The revalidation of a context (R73, R93): an enabled one makes idle entry where its six walks pass, and goes OFFLINE where one
fails. -/
def State.revalidate (s : State) (c : Nat) : State :=
  let x := s.ctx c
  if x.state = .offline then s
  else
    match s.validate c x.cfg with
    | .error _ => s.setCtx c { x with state := .offline, cur := none }
    | .ok (paths, counts) =>
      (({ s with useCounts := counts }.setCtx c { x with paths := paths }).idleRest c).restStart c

/-- The soft reset (R191). -/
def State.softReset (s : State) : State := contexts.foldl State.revalidate s.softResetTables

end Sys2Proof.Machine
end

