-- ==== Sys2Proof/Machine/Wire.lean ====
section
/-!
DEFINITION. Sys2Proof/Machine/Wire.lean: the bytes of responses and reports (section 10.6): the mailbox header's response fields
(Table 10-7), the refusal body (Table 10-8), the record form (R194) and the report record (R195).
-/
namespace Sys2Proof.Machine

/-! ### Codes -/

/-- A response code (Table 10-8). -/
def Code.num : Code → Nat
  | .ok => 0
  | .busy => 1
  | .badRequest => 2
  | .outOfRange => 3
  | .inUse => 4
  | .notAllowedInState => 5
  | .queueFull => 6
  | .duplicateTag => 7
  | .invalidRecipe => 8
  | .notFound => 9
  | .requestPending => 10
  | .kindNotForceable => 11

/-- A path purpose (Table 10-8). -/
def Purpose.num : Purpose → Nat
  | .job => 0
  | .idle => 1
  | .parkLight => 2
  | .parkDeep => 3
  | .handlerLow => 4
  | .handlerHigh => 5
  | .handlerEmergency => 6

/-- A walk reason, in the order of Table 4-7. -/
def WalkReason.num : WalkReason → Nat
  | .notHead => 0
  | .chain => 1
  | .tooLong => 2
  | .revisit => 3
  | .loopDepth => 4
  | .loopUnbalanced => 5
  | .jobPathEnd => 6
  | .handlerPathEnd => 7
  | .kindField => 8
  | .itemLimit => 9
  | .targetRange => 10
  | .setPoint => 11
  | .samplePoint => 12
  | .gateNotOwned => 13
  | .groupNotMember => 14
  | .emergencyRules => 15
  | .idleParkRules => 16
  | .useLimit => 17

/-- A gate state (Table 10-13). -/
def gateStateCode : GateState → Nat
  | .closed => 0
  | .opening => 1
  | .open => 2
  | .closing => 3
  | .fault => 4

/-- A gate report's cause (Table 10-13). -/
def gateCauseCode : GateCause → Nat
  | .step => 0
  | .request => 1
  | .reading => 2
  | .timeout => 3

/-- A switch reading, 255 for NONE (Table 10-13). -/
def readingCode : Option Reading → Nat
  | some .closedSw => 0
  | some .openSw => 1
  | some .mid => 2
  | some .both => 3
  | none => 255

/-- An end reason (Table 10-13). -/
def endReasonCode : EndReason → Nat
  | .condition i => i
  | .none => 254
  | .aborted => 255

/-- A strike outcome (Table 10-13). -/
def strikeCode : Strike → Nat
  | .notPlasma => 0
  | .unstruck => 1
  | .struck => 2
  | .failed => 3

/-- A job outcome (Table 10-13). -/
def outcomeCode : JobOutcome → Nat
  | .completed => 0
  | .aborted => 1
  | .halted => 2
  | .cancelled => 3
  | .discarded => 4

/-- A node event (Table 10-13). -/
def nodeEventCode : NodeEvent → Nat
  | .stale => 0
  | .recovered => 1
  | .conflict => 2

/-- A rate-of-rise result (Table 10-13). -/
def rorResultCode : RorResult → Nat
  | .pass => 0
  | .fail => 1
  | .invalid => 2

/-! ### Reports (R195) -/

/-- The kind of a report (Table 10-12). -/
def ReportBody.kind : ReportBody → Nat
  | .stepEnd .. => 1
  | .jobEnd .. => 2
  | .request .. => 3
  | .faultTaken .. => 4
  | .gate .. => 5
  | .node .. => 6
  | .rorResult .. => 7

/-- Bit b of a byte for entry b of a list. -/
def bitsOf : List Bool → Nat
  | [] => 0
  | b :: bs => flagBit b 1 + 2 * bitsOf bs

/-- Bytes 12 to 31 of a report (Table 10-13). -/
def ReportBody.bytes : ReportBody → List Byte
  | .stepEnd reason strike fired duration wait p =>
    leBytes (endReasonCode reason) 1 ++ leBytes (strikeCode strike) 1 ++ leBytes (bitsOf fired) 1
      ++ leBytes (flagBit p.isSome 1) 1 ++ leBytes duration 4 ++ leBytes wait 4 ++ leBytes ((p.map (·.1)).getD 0) 4
      ++ leBytes ((p.map (·.2)).getD 0) 4
  | .jobEnd outcome priority start runTime =>
    leBytes (outcomeCode outcome) 1 ++ leBytes (flagBit (priority == .high) 1) 1 ++ leBytes start 2 ++ leBytes runTime 4
      ++ zeros 12
  | .request src level masked already =>
    leBytes src.num 1 ++ leBytes (levelRank level) 1 ++ leBytes (flagBit masked 1) 1 ++ leBytes (flagBit already 1) 1
      ++ zeros 16
  | .faultTaken src level state isl phase depth handler runTime =>
    leBytes src.num 1 ++ leBytes (levelRank level) 1 ++ leBytes (ctxStateCode state) 1 ++ leBytes (levelRank isl) 1
      ++ leBytes (phaseCode phase) 1 ++ leBytes depth 1 ++ leBytes handler 2 ++ leBytes (flagBit runTime.isSome 1) 1
      ++ zeros 3 ++ leBytes (runTime.getD 0) 4 ++ zeros 4
  | .gate g before after cause reading a b =>
    leBytes g 1 ++ leBytes (gateStateCode before) 1 ++ leBytes (gateStateCode after) 1 ++ leBytes (gateCauseCode cause) 1
      ++ leBytes (readingCode reading) 1 ++ leBytes (flagBit a.isSome 1 + flagBit b.isSome 2) 1 ++ zeros 2
      ++ leBytes (a.getD 0) 4 ++ leBytes (b.getD 0) 4 ++ zeros 4
  | .node n event touch age seen =>
    leBytes n 1 ++ leBytes (nodeEventCode event) 1 ++ [touch] ++ leBytes age 1 ++ leBytes (flagBit seen.isSome 1) 1
      ++ zeros 3 ++ leBytes ((seen.map BitVec.toNat).getD 0) 4 ++ zeros 8
  | .rorResult result p0 p1 span rate =>
    leBytes (rorResultCode result) 1 ++ zeros 3 ++ leBytes p0 4 ++ leBytes p1 4 ++ leBytes span 4 ++ leBytes rate 4

/-- The 32 bytes of a report record (R195). -/
def Report.bytes (r : Report) : List Byte :=
  leBytes r.body.kind 1 ++ leBytes (r.ctx.getD 255) 1 ++ leBytes (indexCode r.step) 2 ++ leBytes r.time.toNat 4
    ++ leBytes ((r.tag.map BitVec.toNat).getD 0) 4 ++ r.body.bytes

/-! ### Responses -/

/-- The 8 bytes of a refusal (Table 10-8). -/
def RefusalBody.bytes (r : RefusalBody) : List Byte :=
  leBytes (indexCode r.subject) 2 ++ leBytes (r.slot.getD 255) 1 ++ leBytes (r.check.getD 255) 1
    ++ leBytes ((r.purpose.map Purpose.num).getD 255) 1 ++ leBytes ((r.reason.map WalkReason.num).getD 255) 1 ++ zeros 2

/-- The largest body of the response that carries this content (Table 10-2). -/
def Body.largest : Body → Nat
  | .empty => 0
  | .refusal _ | .roughing _ | .flags .. | .submitted .. | .cancelled _ => 8
  | .identify _ => 64
  | .status _ => 160
  | .points _ => 768
  | .samples _ => 1280
  | .nodes _ => 1024
  | .supply _ => 480
  | .gates _ => 320
  | .records _ => 1470
  | .context _ => 256
  | .masks .. => 32
  | .reports .. | .counters .. => 260

/-- The bytes of a response body. The manual gives those of a refusal and of READ_RECORDS; of the other bodies it gives the
fields, and not their places (log 5). -/
def Body.bytes : Body → List Byte
  | .empty => []
  | .refusal r => r.bytes
  | .records rs => rs.flatMap fun r => encodeRecord r.1 ++ leBytes r.2 2
  | b => (Config.bodyBytes b).take b.largest

/-- The answer of a frame for which no response is held (R15). -/
def busy : Response := { code := .busy, body := .empty }

/-- A response written into a frame, whose check is formed afresh (R179, Table 10-7). DESIGN CHOICE (log 28): where the payload is
shorter than 8 bytes and the body, which R15 leaves open, the body's bytes that fit are written, with the whole body's length. -/
def writeResponse (f : Frame) (r : Response) : Frame :=
  let body := r.body.bytes
  reform (writePayload (writePayload (writePayload f 1 (leBytes r.code.num 1)) 6 (leBytes body.length 2)) 8 body)

end Sys2Proof.Machine
end

