-- ==== Sys2Proof/Machine/Mailbox.lean ====
section
/-!
DEFINITION. Sys2Proof/Machine/Mailbox.lean: what a request is: its own checks, effects and response, after the common checks of R178;
the response holder and its timer (R14 to R16); and the passage of frames at port D by class (R2 to R5, R7, R15).
-/
namespace Sys2Proof.Machine

/-- What executing one command answers. -/
abbrev Outcome := Host.Outcome State Fault Refusal

/-- The largest response body of a request code, or `none` for a code that Table 10-2 does not list. -/
def largestBody : Nat → Option Nat
  | 1 => some 64
  | 2 => some 160
  | 16 => some 8
  | 17 => some 768
  | 18 => some 1280
  | 19 => some 8
  | 20 => some 8
  | 32 => some 8
  | 33 => some 1024
  | 34 => some 8
  | 35 => some 480
  | 36 => some 8
  | 37 => some 8
  | 38 => some 8
  | 39 => some 320
  | 40 => some 8
  | 48 => some 8
  | 49 => some 1470
  | 50 => some 8
  | 51 => some 256
  | 64 => some 32
  | 65 => some 8
  | 80 => some 8
  | 81 => some 8
  | 82 => some 8
  | 83 => some 8
  | 84 => some 8
  | 85 => some 8
  | 96 => some 260
  | 97 => some 260
  | 112 => some 8
  | 113 => some 8
  | _ => none

/-- A request as its own rule gives it. `least` is how many bytes its body has at least, as far as the manual lays the body out (log
2): none for a request that carries no field, 208 for each record of WRITE_RECORDS (R194), and one for any other; `counted` says
that its count, if it carries one, is in range; `check` is the first failing check of its rule; `effect` what an accepted request
does; `respond` the response, from the states before and after. -/
structure Request where
  code : Nat
  least : Nat := 1
  counted : Bool
  check : State → Option Response
  effect : State → State
  respond : State → State → Response

/-- The holder takes a response, and the frame goes on unchanged (R14). -/
def State.holdResponse (s : State) (f : Frame) (r : Response) (soft : Bool) : State :=
  ({ s with holder := some { tag := requestTag f, response := r, timer := { start := s.now, dur := 4 * s.inUse.period },
                             softReset := soft } }).forward .u f

/-- The payload is too short for the body it announces, or for the largest response of its code; or the code is not listed (R178
stages 1 to 3). -/
def unfit (f : Frame) : Bool :=
  decide ((payloadOf f).length - 8 < bodyLength f)
    || decide ((payloadOf f).length < 8 + (largestBody (requestCode f)).getD 8) || (largestBody (requestCode f)).isNone

/-- The body is not shorter than the fields that the request carries (R178 stage 4): it has the bytes that the manual lays out, and,
where it lays out no more, the command says that the rest is there (log 2). -/
def Request.bodyHeld (q : Request) (m : Mailbox) : Bool :=
  q.least == 0 || (m.complete && decide (q.least ≤ bodyLength m.frame))

/-- The request's outcome on the state at T: the state its effects leave, and the response (R179). -/
def Request.run (q : Request) (s : State) : State × Response :=
  match q.check s with
  | some r => (s, r)
  | none =>
    let s' := (q.effect s).settle
    (s', q.respond s s')

/-- The request code of SOFT_RESET (Table 10-2). -/
def softResetCode : Nat := 113

/-- A request of the frame's code is executed, its frame being fit (R178 stages 4 and 5, R179). -/
def State.perform (s : State) (m : Mailbox) (q : Request) : State :=
  if q.bodyHeld m && q.counted then
    let r := q.run s
    r.1.holdResponse m.frame r.2 (q.code == softResetCode && r.2.code == .ok)
  else s.holdResponse m.frame badRequest false

/-- The holder empties; a SOFT_RESET's response leaving it resets the part (R16, R190). -/
def State.emptyHolder (s : State) (h : Held) : State :=
  let s' := { s with holder := none }
  if h.softReset then s'.softReset else s'

/-- The return pass of a MAILBOX frame for the part (R15). -/
def State.mailboxReturn (s : State) (f : Frame) : State :=
  match s.holder with
  | some h =>
    if h.tag = requestTag f then (s.sendU (writeResponse f h.response)).emptyHolder h
    else s.sendU (writeResponse f busy)
  | none => s.sendU (writeResponse f busy)

/-- A frame arrives at port D (R2 to R5, R7, R15). -/
def State.arriveD (s : State) (f : Frame) : State :=
  if goodCheck f then
    let s := s.goodArrival
    match classify s.inUse.address f with
    | .other => s.forward .d f
    | .process image => (s.processReturn image f).settle
    | .mailbox => s.mailboxReturn f
  else s.badArrival .d f

/-- The holder timer's expiry (R16). -/
def State.holderExpiry (s : State) : State :=
  match s.holder with
  | some h => if h.timer.reached s.now then s.emptyHolder h else s
  | none => s

end Sys2Proof.Machine
end

