-- ==== Sys2Proof/Machine/TableRequests.lean ====
section
/-!
DEFINITION. Sys2Proof/Machine/TableRequests.lean: the requests on the point table (R21 to R23, R33 to R36), the node table (R40 to
R42), the supply lines and roughing groups (R120 to R123) and the gates (R152, R153).
-/
namespace Sys2Proof.Machine

/-! ### Shared by table requests -/

/-- The refusal at the first check that fails among a table's fields (R180). -/
def fieldFault (subject : Option Nat) (oks : List Bool) : Option Response :=
  (firstFailing oks).map fun k => refusal .outOfRange subject (some k)

/-- A refusal when it applies. -/
def refuseIf (b : Bool) (r : Response) : Option Response := if b then some r else none

/-- The first refusal of a list of checks. -/
def firstRefusal (checks : List (Option Response)) : Option Response := checks.findSome? id

/-- The first failing entry of a request that carries entries, in request order, with its first failing check; an index that stands
earlier in the request is the first (R21, R40, R120, R123, R153). -/
def checkEntries {α : Type} (index : α → Nat) (check : α → Option Response) : List Nat → List α → Option Response
  | _, [] => none
  | seen, e :: es =>
    match firstRefusal [refuseIf (seen.contains (index e)) (refusal .badRequest (some (index e)) none), check e] with
    | some r => some r
    | none => checkEntries index check (index e :: seen) es

/-- A start plus a count past the end of a table (R35, R36, R42, R60, R121, R123, R153, R201). -/
def spanFault (start count size : Nat) : Option Response :=
  refuseIf (decide (size < start + count)) (refusal .outOfRange none none)

/-- An index past the end of a table. -/
def indexFault (i size : Nat) : Option Response := refuseIf (decide (size ≤ i)) (refusal .outOfRange (some i) none)

/-- What a table holds from a start on, so many entries. -/
def slice {α : Type} (start count : Nat) (f : Nat → α) : List α := (List.range' start count).map f

/-- A request that changes nothing and is refused only for its span. -/
def readRequest (code start count most size : Nat) (body : State → Body) : Request :=
  { code := code, counted := within 1 most count, check := fun _ => spanFault start count size, effect := id,
    respond := fun s _ => okay (body s) }

/-! ### Points -/

/-- The fields of point entry p as last written, with its direction; `none` is EMPTY. -/
def State.pointEntry (s : State) (p : Nat) : Option (Direction × PointCfg) :=
  match s.point p with
  | .empty => none
  | .set cfg _ => some (.set, cfg)
  | .sample cfg _ => some (.sample, cfg)

/-- The content that an entry of WRITE_POINTS gives. -/
def entryOf (e : PointWrite) : Option (Direction × PointCfg) :=
  e.content.map fun f => (f.direction.getD .set, pointCfgOf f)

/-- An item names a point (R22). -/
def Item.names (p : Nat) : Item → Bool
  | .empty => false
  | .set i => i.point == p
  | .band i => i.point == p || (i.mode == .relative && i.reference == p)
  | .cond i => i.point == some p

/-- The items of a record. -/
def Record.items : Record → List Item
  | .empty => []
  | .head _ is _ | .cont is _ => is

/-- Some record with a use count above 0 satisfies a test. -/
def State.usedRecord (s : State) (test : Record → Bool) : Bool :=
  (s.records.zip s.useCounts).any fun r => decide (0 < r.2) && test r.1

/-- A gate's switches and output must be DIGITAL points of the right direction and owner (R153 check 3). -/
def outputFits (owner : Nat) (e : Option (Direction × PointCfg)) : Bool :=
  match e with
  | some (.set, cfg) => cfg.quantity == .digital && cfg.owner == .ctx owner
  | _ => false

/-- A gate's switch points (R153 check 3). -/
def switchFits (owner : Nat) (e : Option (Direction × PointCfg)) : Bool :=
  match e with
  | some (.sample, cfg) => cfg.quantity == .digital && (cfg.owner == .ctx owner || cfg.owner == .shared)
  | _ => false

/-- A gate names a point. -/
def gateNames (g : GateFields) (p : Nat) : Bool := g.openOut == p || g.openSw == p || g.closedSw == p

/-- A defined gate names point p, and either it is not CLOSED or the new content no longer fits it (R153). -/
def State.gateNeeds (s : State) (p : Nat) (new : Option (Direction × PointCfg)) : Bool :=
  s.gates.any fun g =>
    match g with
    | some g =>
      gateNames g.cfg p &&
        (g.state != .closed || (g.cfg.openOut == p && !outputFits g.cfg.owner new)
          || ((g.cfg.openSw == p || g.cfg.closedSw == p) && !switchFits g.cfg.owner new))
    | none => false

/-- The write keeps point p's setpoint record and makes it a budgeted FLOW point while the record is above 0 and a gate of its
owner is not CLOSED (R153). -/
def State.gateForbids (s : State) (p : Nat) (new : Option (Direction × PointCfg)) : Bool :=
  match s.point p, new with
  | .set old r, some (.set, cfg) =>
    old.owner == cfg.owner && old.quantity == cfg.quantity && cfg.quantity == .flow && cfg.line.isSome
      && (decide (0 < r.t) || decide (0 < r.currentValue s.now))
      && s.gates.any fun g =>
          match g with
          | some g => (cfg.owner == .ctx g.cfg.owner || cfg.owner == .ctx g.cfg.partner) && g.state != .closed
          | none => false
  | _, _ => false

/-- Direction and quantity of an entry. -/
def entryKind (e : Option (Direction × PointCfg)) : Option (Direction × Quantity) := e.map fun x => (x.1, x.2.quantity)

/-- The write of point p is refused IN_USE (R22, R153). -/
def State.pointInUse (s : State) (p : Nat) (new : Option (Direction × PointCfg)) : Bool :=
  let old := s.pointEntry p
  let kindChanged := new.isNone || entryKind new != entryKind old
  let useChanged := kindChanged || new.map (·.2.owner) != old.map (·.2.owner)
    || new.map (·.2.line.isSome) != old.map (·.2.line.isSome)
  (old.any fun x => s.ownerBusy x.2.owner) || (new.any fun x => s.ownerBusy x.2.owner)
    || (kindChanged &&
        ((s.gates.any fun g => g.any fun g => gateNames g.cfg p)
          || s.ctxs.any fun x => x.cfg.pressure == some p || x.cfg.plasma == some p))
    || (useChanged && s.usedRecord fun r => r.items.any (Item.names p))
    || s.gateNeeds p new || s.gateForbids p new

/-- The checks of one entry of WRITE_POINTS (R21 stages 2 and 3). -/
def State.checkPoint (s : State) (e : PointWrite) : Option Response :=
  firstRefusal
    [ indexFault e.index Config.points,
      e.content.bind fun f => fieldFault (some e.index) (pointChecks f),
      refuseIf (s.pointInUse e.index (entryOf e)) (refusal .inUse (some e.index) none) ]

/-- A new sample state (R23); its last fresh time is free (log 4). -/
def Sample.fresh (lastFresh : Time) : Sample :=
  { x := 0, eng := 0, f := 0, stale := true, overRange := false, lastFresh := lastFresh, baseline := none }

/-- The effect of one entry (R23). -/
def State.writePoint (s : State) (e : PointWrite) : State :=
  match entryOf e with
  | none => s.setPoint e.index .empty
  | some (.sample, cfg) =>
    { s.setPoint e.index (.sample cfg (Sample.fresh (Config.noFreshTime s.free))) with free := s.free + 1 }
  | some (.set, cfg) =>
    match s.point e.index with
    | .set old r =>
      if old.owner = cfg.owner ∧ old.quantity = cfg.quantity then
        s.setPoint e.index (.set cfg { r with forced := none, saturated := false, lastRaw := none })
      else s.setPoint e.index (.set cfg (SetRec.fresh s.now))
    | _ => s.setPoint e.index (.set cfg (SetRec.fresh s.now))

/-- WRITE_POINTS (R21 to R23). -/
def writePointsRequest (entries : List PointWrite) : Request :=
  { code := 16, counted := within 1 32 entries.length,
    check := fun s => checkEntries PointWrite.index s.checkPoint [] entries,
    effect := fun s => entries.foldl State.writePoint s,
    respond := fun _ _ => okay .empty }

/-- READ_POINTS (R35). -/
def readPointsRequest (start count : Nat) : Request :=
  readRequest 17 start count 32 Config.points fun s => .points (slice start count s.pointEntry)

/-- What READ_SAMPLES returns of entry p (R36). -/
def State.sampleView (s : State) (p : Nat) : SampleView :=
  match s.point p with
  | .empty => .empty
  | .set cfg r =>
    .set (r.currentValue s.now) (r.rampValue s.now) r.t (r.d - (s.now - r.r).toNat) r.forced r.saturated r.lastRaw
      ((s.node cfg.node).map (·.state))
  | .sample _ st => .sample st

/-- READ_SAMPLES (R36). -/
def readSamplesRequest (start count : Nat) : Request :=
  readRequest 18 start count 64 Config.points fun s => .samples (slice start count s.sampleView)

/-- A state in which a context's points may be forced (R33). -/
def CtxState.forceable : CtxState → Bool
  | .offline | .idle | .parked _ | .halted => true
  | _ => false

/-- The checks of FORCE_POINT, in order (R33). -/
def State.checkForce (s : State) (p value : Nat) : Option Response :=
  let here := fun code => some (refusal code (some p) none)
  if Config.points ≤ p then here .outOfRange
  else match s.point p with
    | .empty => here .notFound
    | .sample .. => here .badRequest
    | .set cfg _ =>
      let state := match cfg.owner with
        | .ctx c => (s.ctx c).state
        | .shared => .offline
      if cfg.flowOrPower then here .kindNotForceable
      else if s.isOpenOutput p then here .inUse
      else if !state.forceable then some (notAllowed p state)
      else if quantityMax cfg.quantity < value then here .outOfRange
      else none

/-- Force point p to a value, which its eng_full bounds (R33). -/
def State.force (s : State) (p value : Nat) : State :=
  match s.point p with
  | .set cfg r => s.setPoint p (.set cfg { r with forced := some (min value cfg.engFull) })
  | _ => s

/-- FORCE_POINT (R33). -/
def forcePointRequest (p value : Nat) : Request :=
  { code := 19, counted := true, check := fun s => s.checkForce p value, effect := fun s => s.force p value,
    respond := fun _ _ => okay .empty }

/-- The entry is EMPTY. -/
def State.pointEmpty (s : State) (p : Nat) : Bool := (s.pointEntry p).isNone

/-- RELEASE_POINT (R34). -/
def releasePointRequest (p : Nat) : Request :=
  { code := 20, counted := true,
    check := fun s => firstRefusal
      [indexFault p Config.points, refuseIf (s.pointEmpty p) (refusal .notFound (some p) none)],
    effect := fun s => s.releaseForce p, respond := fun _ _ => okay .empty }

/-! ### Nodes -/

/-- A DEFINED point names node n and its owner bars a rewrite (R40). -/
def State.nodeServesBusy (s : State) (n : Nat) : Bool :=
  s.points.any fun p =>
    match p with
    | .empty => false
    | .set cfg _ | .sample cfg _ => cfg.node == n && s.ownerBusy cfg.owner

/-- The checks of one entry of WRITE_NODES (R40). -/
def State.checkNode (s : State) (e : NodeWrite) : Option Response :=
  let busy := ((s.node e.index).any fun x => s.ownerBusy x.cfg.owner) || (e.content.any fun f => s.ownerBusy f.owner)
    || s.nodeServesBusy e.index
  firstRefusal
    [ indexFault e.index Config.nodes,
      e.content.bind fun f => fieldFault (some e.index) (nodeChecks f),
      refuseIf busy (refusal .inUse (some e.index) none) ]

/-- A node as a write defines it (R41). -/
def Node.fresh (cfg : NodeFields) : Node := { cfg := cfg, age := 3, state := .unseen, conflict := false, lastSeen := none }

/-- The effect of one entry (R41). -/
def State.writeNode (s : State) (e : NodeWrite) : State := (s.setNode e.index (e.content.map Node.fresh)).staleNode e.index

/-- WRITE_NODES (R40, R41). -/
def writeNodesRequest (entries : List NodeWrite) : Request :=
  { code := 32, counted := within 1 16 entries.length,
    check := fun s => checkEntries NodeWrite.index s.checkNode [] entries,
    effect := fun s => entries.foldl State.writeNode s,
    respond := fun _ _ => okay .empty }

/-- READ_NODES (R42). -/
def readNodesRequest (start count : Nat) : Request :=
  readRequest 33 start count 64 Config.nodes fun s => .nodes (slice start count s.node)

/-! ### Supply lines and roughing groups -/

/-- A context in RUNNING or DIVERTED owns a FLOW SET point on line l (R120). -/
def State.lineInUse (s : State) (l : Nat) : Bool :=
  s.points.any fun p =>
    match p with
    | .set cfg _ =>
      cfg.quantity == .flow && cfg.line == some l &&
        match cfg.owner with
        | .ctx c => (s.ctx c).active
        | .shared => false
    | _ => false

/-- The checks of one entry of WRITE_SUPPLY (R120). -/
def State.checkSupply (s : State) (e : SupplyWrite) : Option Response :=
  firstRefusal
    [ indexFault e.line Config.lines,
      refuseIf (decide (100000 < e.capacity)) (refusal .outOfRange (some e.line) none),
      refuseIf (s.lineInUse e.line) (refusal .inUse (some e.line) none) ]

/-- The effect of one entry (R120). -/
def State.writeSupply (s : State) (e : SupplyWrite) : State :=
  { s with lines := s.lines.set e.line { s.line e.line with budget := e.budget, capacity := e.capacity } }

/-- WRITE_SUPPLY (R120): a scan trigger once its entries are written. -/
def writeSupplyRequest (entries : List SupplyWrite) : Request :=
  { code := 34, counted := within 1 12 entries.length,
    check := fun s => checkEntries SupplyWrite.line s.checkSupply [] entries,
    effect := fun s => (entries.foldl State.writeSupply s).push [.trigger],
    respond := fun _ _ => okay .empty }

/-- What READ_SUPPLY returns of line l (R121). -/
def State.supplyView (s : State) (l : Nat) : SupplyView :=
  let x := s.line l
  { budget := x.budget, capacity := x.capacity, reservations := x.reservations, sum := x.reservations.sum,
    free := if x.budget then x.capacity - x.reservations.sum else 0 }

/-- READ_SUPPLY (R121). -/
def readSupplyRequest (start count : Nat) : Request :=
  readRequest 35 start count 12 Config.lines fun s => .supply (slice start count s.supplyView)

/-- The checks of one entry of WRITE_ROUGHING (R123). -/
def State.checkRoughing (s : State) (e : RoughingWrite) : Option Response :=
  let leavesOut := (s.group e.group).members.any fun c => !e.members.contains c && (s.ctx c).state != .offline
  firstRefusal
    [ indexFault e.group Config.groups,
      refuseIf (!e.members.all (· < Config.contexts)) (refusal .outOfRange (some e.group) none),
      refuseIf leavesOut (refusal .inUse (some e.group) none) ]

/-- The effect of one entry (R123): the member set, in ascending order; the holder stands. -/
def State.writeRoughing (s : State) (e : RoughingWrite) : State :=
  { s with groups := s.groups.set e.group { s.group e.group with members := contexts.filter e.members.contains } }

/-- WRITE_ROUGHING (R123). -/
def writeRoughingRequest (entries : List RoughingWrite) : Request :=
  { code := 36, counted := within 1 3 entries.length,
    check := fun s => checkEntries RoughingWrite.group s.checkRoughing [] entries,
    effect := fun s => entries.foldl State.writeRoughing s,
    respond := fun _ _ => okay .empty }

/-- READ_ROUGHING (R123). -/
def readRoughingRequest (start count : Nat) : Request :=
  readRequest 37 start count 3 Config.groups fun s => .roughing (slice start count s.group)

/-! ### Gates -/

/-- A SET item of a record names point p. -/
def Item.drives (p : Nat) : Item → Bool
  | .set i => i.point == p
  | _ => false

/-- A GATE step of a record names gate g. -/
def Record.usesGate (g : Nat) : Record → Bool
  | .head h _ _ => h.kind.gate && h.gate == some g
  | _ => false

/-- Check 3 of R153, at the fields of Table 8-1. -/
def State.gatePoints (s : State) (f : GateFields) : List Bool :=
  [ true, true, outputFits f.owner (s.pointEntry f.openOut), switchFits f.owner (s.pointEntry f.openSw),
    switchFits f.owner (s.pointEntry f.closedSw) ]

/-- Check 4 of R153: the gate is defined and not CLOSED, and not in FAULT to be undefined. -/
def State.gateMoving (s : State) (g : Nat) (new : Option GateFields) : Bool :=
  (s.gate g).any fun x => x.state != .closed && !(x.state == .fault && new.isNone)

/-- Check 5 of R153: another defined gate, or a SET item of a held record, names the new open output. -/
def State.outputTaken (s : State) (g : Nat) (f : GateFields) : Bool :=
  ((List.range Config.gates).any fun k => k != g && (s.gate k).any fun x => x.cfg.openOut == f.openOut)
    || s.usedRecord fun r => r.items.any (Item.drives f.openOut)

/-- Check 6 of R153: a held GATE step names the gate, and the new content is UNDEFINED or names another owner. -/
def State.gateHeld (s : State) (g : Nat) (new : Option GateFields) : Bool :=
  new.map (·.owner) != (s.gate g).map (·.cfg.owner) && s.usedRecord (Record.usesGate g)

/-- The checks of one entry of WRITE_GATES (R153). -/
def State.checkGate (s : State) (e : GateWrite) : Option Response :=
  firstRefusal
    [ indexFault e.index Config.gates,
      e.content.bind fun f => fieldFault (some e.index) (gateChecks f),
      e.content.bind fun f => fieldFault (some e.index) (s.gatePoints f),
      refuseIf (s.gateMoving e.index e.content || e.content.any (s.outputTaken e.index) || s.gateHeld e.index e.content)
        (refusal .inUse (some e.index) none) ]

/-- The effect of one entry (R153). -/
def State.writeGate (s : State) (e : GateWrite) : State :=
  match e.content with
  | none => s.setGate e.index none
  | some f =>
    ((s.releaseForce f.openOut).retarget f.openOut 0 0).setGate e.index
      (some { cfg := f, state := .closed, timer := none, last := none, tripRaised := false })

/-- WRITE_GATES (R153): a scan trigger once its entries are written. -/
def writeGatesRequest (entries : List GateWrite) : Request :=
  { code := 38, counted := within 1 8 entries.length,
    check := fun s => checkEntries GateWrite.index s.checkGate [] entries,
    effect := fun s => (entries.foldl State.writeGate s).push [.trigger],
    respond := fun _ _ => okay .empty }

/-- What READ_GATES returns of gate g (R153). -/
def State.gateView (s : State) (g : Nat) : Option GateView :=
  (s.gate g).map fun x =>
    { cfg := x.cfg, state := x.state, left := x.timer.map fun t => t.left s.now, last := x.last, tripRaised := x.tripRaised,
      output := match s.point x.cfg.openOut with
        | .set _ r => r.currentValue s.now
        | _ => 0,
      ownerPressure := s.sampleAt (s.ctx x.cfg.owner).cfg.pressure,
      partnerPressure := s.sampleAt (s.ctx x.cfg.partner).cfg.pressure }

/-- READ_GATES (R153). -/
def readGatesRequest (start count : Nat) : Request :=
  readRequest 39 start count 8 Config.gates fun s => .gates (slice start count s.gateView)

/-- The checks that both directions of GATE_REQUEST share: index, direction, and a defined gate; then those of the direction
(R152). -/
def State.checkGateRequest (s : State) (g : Nat) (listed : Bool) (check : Gate → Option Response) : Option Response :=
  if Config.gates ≤ g || !listed then some (refusal .outOfRange (some g) none)
  else match s.gate g with
    | none => some (refusal .notFound (some g) none)
    | some x => check x

/-- The conditions of a GATE_REQUEST to open, in order (R152). -/
def State.requestConditions (s : State) (x : Gate) : List Bool :=
  ((s.ctx x.cfg.owner).state == .idle) :: s.openConditions x

/-- GATE_REQUEST with direction OPEN (R152). -/
def gateOpenRequest (g : Nat) (listed : Bool) : Request :=
  { code := 40, counted := true,
    check := fun s => s.checkGateRequest g listed fun x =>
      (firstFailing (s.requestConditions x)).map fun k => refusal .notAllowedInState (some g) (some k),
    effect := fun s =>
      match s.gate g with
      | some x => s.openGate g x .request
      | none => s,
    respond := fun _ _ => okay .empty }

/-- The owner stands at a GATE step of this gate in MOTION (R152). -/
def State.gateStepStands (s : State) (g : Nat) (x : Gate) : Bool :=
  (s.ctx x.cfg.owner).step.any fun st => st.phase == .motion && st.step.head.kind.gate && st.step.head.gate == some g

/-- GATE_REQUEST with direction CLOSE (R152). -/
def gateCloseRequest (g : Nat) (listed : Bool) : Request :=
  { code := 40, counted := true,
    check := fun s => s.checkGateRequest g listed fun x =>
      refuseIf (s.gateStepStands g x) (notAllowed g (s.ctx x.cfg.owner).state),
    effect := fun s =>
      match s.gate g with
      | some x => s.closeGate g x .request
      | none => s,
    respond := fun _ _ => okay .empty }

end Sys2Proof.Machine
end

