-- ==== Sys2Proof/Machine/ContextRequests.lean ====
section
/-!
DEFINITION. Sys2Proof/Machine/ContextRequests.lean: the requests on the recipe store (R58 to R60), the context configuration (R74 to
R78, R91), the request units (R158, R159), and jobs, park, wake and CLEAR (R82 to R90).
-/
namespace Sys2Proof.Machine

/-! ### Records -/

/-- The first failing record of a WRITE_RECORDS, from index i on, with its first failing check (R58 stage 3, R180). -/
def State.checkRecords (s : State) : Nat → List (List Byte) → Option Response
  | _, [] => none
  | i, bs :: rest =>
    match decodeRecord bs with
    | .error e =>
      some { code := .outOfRange,
             body := .refusal { subject := some i, slot := e.slot, check := e.check, purpose := none, reason := none } }
    | .ok _ => if 0 < s.useCount i then some (refusal .inUse (some i) none) else s.checkRecords (i + 1) rest

/-- Write records to consecutive indices (R59). -/
def State.writeRecords (s : State) : Nat → List (List Byte) → State
  | _, [] => s
  | i, bs :: rest =>
    let s' := match decodeRecord bs with
      | .ok r => { s with records := s.records.set i r }
      | .error _ => s
    s'.writeRecords (i + 1) rest

/-- WRITE_RECORDS (R58, R59). A body of fewer than 208 bytes for each record is too short (R58 stage 1, R194). -/
def writeRecordsRequest (start : Nat) (records : List (List Byte)) : Request :=
  { code := 48, least := 208 * records.length, counted := within 1 7 records.length,
    check := fun s => firstRefusal
      [ refuseIf (decide (Config.records < start + records.length)) (refusal .outOfRange (some start) none),
        s.checkRecords start records ],
    effect := fun s => s.writeRecords start records,
    respond := fun _ _ => okay .empty }

/-- READ_RECORDS (R60). -/
def readRecordsRequest (start count : Nat) : Request :=
  readRequest 49 start count 7 Config.records fun s => .records (slice start count fun i => (s.record i, s.useCount i))

/-! ### WRITE_CONTEXT -/

/-- Point p is a SAMPLE point of a quantity, owned by context c or SHARED; NONE passes (R75 check 3). -/
def State.samples (s : State) (c : Nat) (quantity : Quantity) (p : Option Nat) : Bool :=
  p.all fun p => s.reads c p && s.quantityOf p == some quantity

/-- Check 3 of R75, at the rows of Table 5-1. -/
def State.ctxPoints (s : State) (c : Nat) (f : CtxFields) : List Bool :=
  [true, s.samples c .pressure f.pressure, s.samples c .signal f.plasma]

/-- Check 5 of R75: a defined gate of the context, as owner or partner, is not CLOSED. -/
def State.gateStands (s : State) (c : Nat) : Bool := !s.gatesClosed c

/-- Checks 2 to 5 of R75. -/
def State.checkContext (s : State) (c : Nat) (f : CtxFields) (enable : Bool) : Option Response :=
  let x := s.ctx c
  let bars := x.state != .offline && s.gateStands c && (!enable || f.pressure != x.cfg.pressure)
  firstRefusal
    [ indexFault c Config.contexts,
      fieldFault (some c) (ctxChecks f),
      fieldFault (some c) (s.ctxPoints c f),
      refuseIf x.busy (notAllowed c x.state),
      refuseIf bars (refusal .inUse (some c) none) ]

/-- Check 6 of R75: the six walks and their counts (R61, R70). -/
def State.checkPaths (s : State) (c : Nat) (cfg : CtxCfg) : Option Response :=
  match s.validate c cfg with
  | .error (p, e) => some (invalidRecipe p e)
  | .ok _ => none

/-- Enable or rewrite (R76, R77). DESIGN CHOICE (log 12): the scan of leaving OFFLINE is run behind the whole idle entry. -/
def State.enable (s : State) (c : Nat) (cfg : CtxCfg) : State :=
  match s.validate c cfg with
  | .error _ => s
  | .ok (paths, counts) =>
    let x := s.ctx c
    let s1 := { s with useCounts := counts }.setCtx c { x with cfg := cfg, paths := paths, masks := cfg.masks, highs := cfg.highs }
    match x.state with
    | .offline => (s1.push [.trigger]).idleEntry c
    | .idle => s1.idleEntry c
    | _ => s1

/-- WRITE_CONTEXT with enable yes (R75 to R77). -/
def enableRequest (c : Nat) (f : CtxFields) : Request :=
  { code := 50, counted := true,
    check := fun s => firstRefusal [s.checkContext c f true, s.checkPaths c (ctxCfgOf f)],
    effect := fun s => s.enable c (ctxCfgOf f),
    respond := fun _ _ => okay .empty }

/-- Disable (R78); on an OFFLINE context the configuration is stored, and nothing else. DESIGN CHOICE (log 12): the scan of entering
OFFLINE is run after stage 6. -/
def State.disable (s : State) (c : Nat) (cfg : CtxCfg) : State :=
  let x := s.ctx c
  if x.state = .offline then s.setCtx c { x with cfg := cfg }
  else
    let s1 := s.setCtx c { x with autoPark := none, queue := [], paths := [] }
    let s2 := x.queue.foldl (fun s j => s.endJob c j .discarded none 0) s1
    let s3 := { s2 with useCounts := x.paths.foldl releasePath s2.useCounts }.releaseForces c
    let s4 := s3.setCtx c { s3.ctx c with flags := 0, cfg := cfg, state := .offline, cur := none }
    (s4.release c).push [.trigger]

/-- WRITE_CONTEXT with enable no (R75, R78). -/
def disableRequest (c : Nat) (f : CtxFields) : Request :=
  { code := 50, counted := true, check := fun s => s.checkContext c f false,
    effect := fun s => s.disable c (ctxCfgOf f), respond := fun _ _ => okay .empty }

/-! ### READ_CONTEXT -/

/-- A job as READ_CONTEXT shows it (R91). -/
def Job.view (j : Job) (startTime : Option Time) : JobView :=
  { tag := j.tag, start := j.start, priority := j.priority, reportAll := j.reportAll, startTime := startTime }

/-- What READ_CONTEXT returns (R91). -/
def Ctx.view (x : Ctx) (now : Time) : CtxView :=
  { cfg := x.cfg, enabled := x.state != .offline, state := x.state, phase := x.phase, step := x.cur,
    running := x.job.map fun j => j.job.view (some j.startTime), queue := x.queue.map fun j => j.view none,
    autoParkLeft := x.autoPark.map fun t => t.left now, wakeLeft := x.wakeDelay.map fun t => t.left now, loops := x.loops,
    flags := x.flags, masks := x.masks, highs := x.highs, isl := x.isl, stackDepth := x.stack.length }

/-- READ_CONTEXT (R91). -/
def readContextRequest (c : Nat) : Request :=
  { code := 51, counted := true, check := fun _ => indexFault c Config.contexts, effect := id,
    respond := fun s _ => okay (.context ((s.ctx c).view s.now)) }

/-! ### Masks and flags -/

/-- SET_MASK's write (R158): the request unit's masks and levels, and the configuration's. -/
def State.writeMasks (s : State) (c : Nat) (masks : BitVec 16) (levels : List Level) : State :=
  let x := s.ctx c
  let masks := masks &&& programmable
  let highs := highBits (levels.drop 4) 4
  s.setCtx c { x with masks := masks, highs := highs, cfg := { x.cfg with masks := masks, highs := highs } }

/-- SET_MASK (R158). -/
def setMaskRequest (c : Nat) (masks : BitVec 16) (levels : List Level) : Request :=
  { code := 64, counted := true,
    check := fun _ => firstRefusal
      [ indexFault c Config.contexts,
        refuseIf (!(levels.drop 4).all levelListed) (refusal .outOfRange (some c) none) ],
    effect := fun s => (s.writeMasks c masks levels).push [.attempt c],
    respond := fun _ s => okay (.masks (s.ctx c).masks (s.ctx c).highs) }

/-- Clear the flags of a set of sources (R159). -/
def State.clearFlags (s : State) (c : Nat) (sources : BitVec 16) : State :=
  s.setCtx c { s.ctx c with flags := (s.ctx c).flags &&& ~~~sources }

/-- CLEAR_REQUEST (R159). -/
def clearRequestRequest (c : Nat) (sources : BitVec 16) : Request :=
  { code := 65, counted := true, check := fun _ => indexFault c Config.contexts,
    effect := fun s => s.clearFlags c sources,
    respond := fun s s' => okay (.flags (s.ctx c).flags (s'.ctx c).flags) }

/-! ### Jobs -/

/-- A job of context x has this tag, queued or running. -/
def Ctx.hasTag (x : Ctx) (tag : BitVec 32) : Bool := (x.queue.any fun j => j.tag == tag) || x.jobTag == some tag

/-- Some context's job holds the tag (R81). -/
def State.tagHeld (s : State) (tag : BitVec 32) : Bool := s.ctxs.any fun x => x.hasTag tag

/-- The JOB walk from a start, and its counts (R61, R70): the path and the new use counts. -/
def State.countJob (s : State) (c start : Nat) : Except WalkFault (List Nat × List Nat) :=
  match s.walk c .job start with
  | .error e => .error e
  | .ok path =>
    match countPath s.useCounts path with
    | .error e => .error e
    | .ok counts => .ok (path, counts)

/-- The checks of SUBMIT_JOB, in order (R82). -/
def State.checkSubmit (s : State) (c : Nat) (tag : BitVec 32) (start : Nat) (priority : Option Priority) : Option Response :=
  firstRefusal
    [ indexFault c Config.contexts,
      refuseIf (tag == 0 || decide (Config.records ≤ start) || priority.isNone) (refusal .outOfRange (some c) none),
      refuseIf ((s.ctx c).state == .offline) (notAllowed c .offline),
      refuseIf (s.tagHeld tag) (refusal .duplicateTag (some c) none),
      refuseIf (decide (Config.queue ≤ (s.ctx c).queue.length)) (refusal .queueFull (some c) none),
      match s.countJob c start with
      | .error e => some (invalidRecipe .job e)
      | .ok _ => none ]

/-- The effect of an accepted SUBMIT_JOB (R82). -/
def State.submit (s : State) (c : Nat) (tag : BitVec 32) (start : Nat) (priority : Priority) (reportAll : Bool) : State :=
  match s.countJob c start with
  | .error _ => s
  | .ok (path, counts) =>
    let x := s.ctx c
    let job : Job := { tag := tag, start := start, priority := priority, reportAll := reportAll, path := path }
    let s1 := { s with useCounts := counts }.setCtx c { x with queue := x.queue ++ [job] }
    match x.state with
    | .idle => s1.startJob c
    | .parked level => if x.cfg.wakeOnJob then s1.wakeFrom c level else s1
    | _ => s1

/-- SUBMIT_JOB (R82): the response carries the queue depth after it, and whether the job started. -/
def submitJobRequest (c : Nat) (tag : BitVec 32) (start : Nat) (priority : Option Priority) (reportAll : Bool) : Request :=
  { code := 80, counted := true, check := fun s => s.checkSubmit c tag start priority,
    effect := fun s => s.submit c tag start (priority.getD .normal) reportAll,
    respond := fun _ s' =>
      okay (.submitted (s'.ctx c).queue.length (!(s'.ctx c).queue.any fun j => j.tag == tag)) }

/-- The effect of CANCEL_JOB (R84): a queued job ends CANCELLED, the running one is asked to stop. -/
def State.cancel (s : State) (c : Nat) (tag : BitVec 32) : State :=
  let x := s.ctx c
  match x.queue.find? fun j => j.tag == tag with
  | some j => (s.setCtx c { x with queue := x.queue.filter fun k => k.tag != tag }).endJob c j .cancelled none 0
  | none => s.push [.raise c .operatorAbort]

/-- CANCEL_JOB (R84): the response says whether it was the running job. -/
def cancelJobRequest (c : Nat) (tag : BitVec 32) : Request :=
  { code := 81, counted := true,
    check := fun s => firstRefusal
      [ indexFault c Config.contexts, refuseIf (!(s.ctx c).hasTag tag) (refusal .notFound (some c) none) ],
    effect := fun s => s.cancel c tag,
    respond := fun s _ => okay (.cancelled (!(s.ctx c).queue.any fun j => j.tag == tag)) }

/-- ABORT (R85). -/
def abortRequest (c : Nat) : Request :=
  { code := 82, counted := true,
    check := fun s => firstRefusal
      [ indexFault c Config.contexts, refuseIf (!(s.ctx c).active) (notAllowed c (s.ctx c).state) ],
    effect := fun s => s.push [.raise c .operatorAbort], respond := fun _ _ => okay .empty }

/-- The flags of sources 0 to 2, whose level is EMERGENCY (Table 9-1). -/
def emergencyFlags : BitVec 16 := 0x0007

/-- CLEAR (R90). -/
def clearRequest (c : Nat) : Request :=
  { code := 83, counted := true,
    check := fun s => firstRefusal
      [ indexFault c Config.contexts,
        refuseIf ((s.ctx c).state != .halted) (notAllowed c (s.ctx c).state),
        refuseIf ((s.ctx c).flags &&& emergencyFlags != 0) (refusal .requestPending (some c) none) ],
    effect := fun s => (s.clearFlags c 0xFFFF).idleEntry c, respond := fun _ _ => okay .empty }

/-- PARK (R87). -/
def parkRequest (c : Nat) (level : Option ParkLevel) : Request :=
  { code := 84, counted := true,
    check := fun s => firstRefusal
      [ indexFault c Config.contexts,
        refuseIf level.isNone (refusal .outOfRange (some c) none),
        refuseIf ((s.ctx c).state != .idle && (s.ctx c).state != .waking) (notAllowed c (s.ctx c).state) ],
    effect := fun s => s.parkAt c (level.getD .light), respond := fun _ _ => okay .empty }

/-- WAKE (R88): it changes nothing in a state other than PARKED. -/
def wakeRequest (c : Nat) : Request :=
  { code := 85, counted := true, check := fun _ => indexFault c Config.contexts,
    effect := fun s =>
      match (s.ctx c).state with
      | .parked level => s.wakeFrom c level
      | _ => s,
    respond := fun _ _ => okay .empty }

end Sys2Proof.Machine
end

