-- ==== Sys2Proof/Machine/Loader.lean ====
section
/-!
DEFINITION. Sys2Proof/Machine/Loader.lean: the config memory loader: the identity page (Table 10-14), the load (R184, R185) and the
store (R187, R188).
-/
namespace Sys2Proof.Machine

/-- The five fields of a page (Table 10-14). -/
def pageFields (page : List Byte) : PageFields :=
  { address := byteAt page 0, period := byteAt page 1, nGap := byteAt page 2, offset := leAt page 3 2,
    override := byteAt page 5 }

/-- The 32 bytes of a page with these fields (R187). -/
def pageBytes (f : PageFields) : List Byte :=
  leBytes f.address 1 ++ leBytes f.period 1 ++ leBytes f.nGap 1 ++ leBytes f.offset 2 ++ leBytes f.override 1
    ++ List.replicate 26 0xFF

/-- P of a period code, in microseconds (Table 10-4). -/
def periodOf (code : Nat) : Nat := [250, 500, 1000, 2000].getD code 1000

/-- The fields that take their defaults, in the order of Table 10-4 (R185). -/
def defaultedFields (f : PageFields) : List Bool := (pageChecks f).map (!·)

/-- The values in use that a load forms from a page, with the straps' value (R185). -/
def inUseOf (straps : Byte) (f : PageFields) : InUse :=
  let ok := fun n => (pageChecks f).getD n false
  let override := ok 4 && f.override == 1
  let strapped := override || !ok 0
  { address := if strapped then strappedAddress straps else f.address,
    stored := !strapped,
    period := if ok 1 then periodOf f.period else 1000,
    nGap := if ok 2 then f.nGap else 4,
    offset := if ok 3 then f.offset else 0,
    override := override }

/-- A page of exactly 32 bytes. -/
def wholePage (bs : List Byte) : List Byte := (bs ++ List.replicate 32 0xFF).take 32

/-- The load completion (R184): `none` where the memory did not answer. -/
def State.endLoad (s : State) (page : Option (List Byte)) : State :=
  let image := match page with
    | some bs => wholePage bs
    | none => List.replicate 32 0xFF
  { s with
    loader := { s.loader with state := .ready, page := image, defaulted := defaultedFields (pageFields image),
                              fault := page.isNone, last := .none },
    inUse := inUseOf s.straps (pageFields image) }

/-- A store begins (R187). -/
def State.beginStore (s : State) (f : PageFields) : State :=
  { s with loader := { s.loader with state := .storing, writing := pageBytes f } }

/-- The store completion (R188). -/
def State.endStore (s : State) (answered : Bool) : State :=
  if answered then
    { s with loader := { s.loader with state := .ready, page := s.loader.writing, last := .done } }
  else { s with loader := { s.loader with state := .ready, last := .failed, fault := true } }

end Sys2Proof.Machine
end

