-- ==== Sys2Proof/Machine/SystemRequests.lean ====
section
/-!
DEFINITION. Sys2Proof/Machine/SystemRequests.lean: the requests on the part as a whole: IDENTIFY and READ_STATUS (R182, R183), reports
and counters (R198, R201), the identity page (R187), the soft reset (R190), and a code that is not listed (R178).
-/
namespace Sys2Proof.Machine

/-- What IDENTIFY returns (R182). -/
def State.identifyView (s : State) : IdentifyView :=
  { vendor := Config.vendorCode, part := Config.partCode, revision := Config.designRevision,
    capacities := [Config.points, Config.nodes, Config.records, Config.contexts, Config.lines, Config.groups, Config.gates,
                   Config.queue, Config.waits, Config.reports],
    inUse := s.inUse, straps := s.straps, loader := s.loader.state, configFault := s.loader.fault,
    defaulted := s.loader.defaulted, lastStore := s.loader.last, page := pageFields s.loader.page, time := s.now }

/-- IDENTIFY (R182). -/
def identifyRequest : Request :=
  { code := 1, least := 0, counted := true, check := fun _ => none, effect := id, respond := fun s _ => okay (.identify s.identifyView) }

/-- What READ_STATUS returns (R183). -/
def State.statusView (s : State) : StatusView :=
  { ring := s.ring, degraded := s.degraded, loader := s.loader.state, configFault := s.loader.fault,
    queueDepth := s.reports.length, lost := s.lost, waits := s.waits.map s.waitView, contexts := s.ctxs.map Ctx.status }

/-- READ_STATUS (R183): the response carries the values from before the clearing. -/
def readStatusRequest : Request :=
  { code := 2, least := 0, counted := true, check := fun _ => none, effect := fun s => { s with degraded := false, lost := 0 },
    respond := fun s _ => okay (.status s.statusView) }

/-- READ_REPORTS (R198): the oldest records leave the queue. -/
def readReportsRequest (count : Nat) : Request :=
  { code := 96, counted := within 1 8 count, check := fun _ => none,
    effect := fun s => { s with reports := s.reports.drop count },
    respond := fun s s' => okay (.reports s'.reports.length s'.lost ((s.reports.take count).map Report.bytes)) }

/-- The four bytes of a counter: the value in the low 31 bits, the overflow flag in the top bit (R201). -/
def Counter.word (k : Counter) : BitVec 32 := BitVec.ofNat 32 (k.value + flagBit k.overflow 2147483648)

/-- Clear the counters from a number on, so many (R201). -/
def State.clearCounters (s : State) (start count : Nat) : State :=
  { s with counters := mapFrom (fun n k =>
      if start ≤ n ∧ n < start + count then { value := 0, overflow := false } else k) 0 s.counters }

/-- READ_COUNTERS (R201). -/
def readCountersRequest (start count : Nat) (clear : Bool) : Request :=
  { code := 97, counted := within 1 64 count, check := fun _ => spanFault start count Config.counters,
    effect := fun s => if clear then s.clearCounters start count else s,
    respond := fun s _ => okay (.counters start count (slice start count fun n => (s.counter n).word)) }

/-- STORE_CONFIG (R187). -/
def storeConfigRequest (f : PageFields) : Request :=
  { code := 112, counted := true,
    check := fun s => firstRefusal
      [ refuseIf (s.loader.state == .storing) (refusal .busy none none), fieldFault none (pageChecks f) ],
    effect := fun s => s.beginStore f, respond := fun _ _ => okay .empty }

/-- SOFT_RESET (R190): it changes no state when it is executed; the reset is made when the holder empties. -/
def softResetRequest : Request :=
  { code := softResetCode, least := 0, counted := true, check := fun _ => none, effect := id, respond := fun _ _ => okay .empty }

end Sys2Proof.Machine
end

