-- ==== Sys2Proof/Machine/Execute.lean ====
section
/-!
DEFINITION. Sys2Proof/Machine/Execute.lean: the request of each code (Table 10-2), its execution (R14, R178), and the passage of frames
at port U by class (R2 to R6, R14, R17).
-/
namespace Sys2Proof.Machine

/-- The request of a code, with the fields given (Table 10-2); `none` for a code that is not listed. -/
def requestOf (x : Fields) : Nat → Option Request
  | 1 => some identifyRequest
  | 2 => some readStatusRequest
  | 16 => some (writePointsRequest x.points)
  | 17 => some (readPointsRequest x.start x.count)
  | 18 => some (readSamplesRequest x.start x.count)
  | 19 => some (forcePointRequest x.index x.value)
  | 20 => some (releasePointRequest x.index)
  | 32 => some (writeNodesRequest x.nodes)
  | 33 => some (readNodesRequest x.start x.count)
  | 34 => some (writeSupplyRequest x.supplies)
  | 35 => some (readSupplyRequest x.start x.count)
  | 36 => some (writeRoughingRequest x.groups)
  | 37 => some (readRoughingRequest x.start x.count)
  | 38 => some (writeGatesRequest x.gates)
  | 39 => some (readGatesRequest x.start x.count)
  | 40 => some (if x.closing then gateCloseRequest x.index x.directionListed else gateOpenRequest x.index x.directionListed)
  | 48 => some (writeRecordsRequest x.start x.records)
  | 49 => some (readRecordsRequest x.start x.count)
  | 50 => some (if x.enable then enableRequest x.index x.cfg else disableRequest x.index x.cfg)
  | 51 => some (readContextRequest x.index)
  | 64 => some (setMaskRequest x.index x.masks x.levels)
  | 65 => some (clearRequestRequest x.index x.sources)
  | 80 => some (submitJobRequest x.index x.tag x.start x.priority x.reportAll)
  | 81 => some (cancelJobRequest x.index x.tag)
  | 82 => some (abortRequest x.index)
  | 83 => some (clearRequest x.index)
  | 84 => some (parkRequest x.index x.parkLevel)
  | 85 => some (wakeRequest x.index)
  | 96 => some (readReportsRequest x.count)
  | 97 => some (readCountersRequest x.start x.count x.clear)
  | 112 => some (storeConfigRequest x.page)
  | 113 => some softResetRequest
  | _ => none

/-- The request of a fit frame is executed with the fields that its body spells (R14). The manual gives most of them no place in the
body, so what a body spells is free (log 2). -/
def State.executeSpelled (s : State) (f : Frame) : State :=
  let x := Config.fields f
  match requestOf x (requestCode f) with
  | some q => s.perform { frame := f, complete := x.complete } q
  | none => s.holdResponse f badRequest false

/-- A request is executed (R14, R178, R179). A command of a request whose code the frame carries gives that request's fields; with any
other command the frame's own request is executed all the same, with the fields that its body spells. -/
def State.execute (s : State) (m : Mailbox) (q : Option Request) : State :=
  if unfit m.frame then s.holdResponse m.frame badRequest false
  else
    match q with
    | some q => if requestCode m.frame = q.code then s.perform m q else s.executeSpelled m.frame
    | none => s.executeSpelled m.frame

/-- A frame arrives at port U (R2 to R6, R14, R17, R18). `q` is the request that the command carries, if any. -/
def State.arriveU (s : State) (m : Mailbox) (q : Option Request) : Outcome :=
  let f := m.frame
  if goodCheck f then
    let s := s.goodArrival
    match classify s.inUse.address f with
    | .other => .next ((s.count 50).forward .u f)
    | .process image => .next (s.processOutbound image f).settle
    | .mailbox =>
      let s := s.count 49
      .next (if s.holder.isSome ∨ s.loader.state = .loading then s.forward .u f else s.execute m q)
  else .next (s.badArrival .u f)

/-- A frame that the command carries without a request. -/
def bareOf (f : Frame) : Mailbox := { frame := f, complete := false }

/-- A frame arrives at a port, carried without a request. -/
def State.arrive (s : State) (p : Port) (f : Frame) : Outcome :=
  match p with
  | .u => s.arriveU (bareOf f) none
  | .d => .next (s.arriveD f)

end Sys2Proof.Machine
end

