-- ==== Sys2Proof/Machine/Commands.lean ====
section
/-!
DEFINITION. Sys2Proof/Machine/Commands.lean: the meanings of the rows that are mailbox requests: the frame arrives with its request,
whose fields the command carries.
-/
namespace Sys2Proof.Machine

/-! ### The tables -/

/-- Write point entries. -/
def execWritePoints (dt : Nat) (m : Mailbox) (entries : List PointWrite) (s : State) : Outcome :=
  (s.advance dt).arriveU m (some (writePointsRequest entries))

/-- Read point entries. -/
def execReadPoints (dt : Nat) (m : Mailbox) (start count : Nat) (s : State) : Outcome :=
  (s.advance dt).arriveU m (some (readPointsRequest start count))

/-- Read setpoint records and samples. -/
def execReadSamples (dt : Nat) (m : Mailbox) (start count : Nat) (s : State) : Outcome :=
  (s.advance dt).arriveU m (some (readSamplesRequest start count))

/-- Force a point. -/
def execForcePoint (dt : Nat) (m : Mailbox) (p value : Nat) (s : State) : Outcome :=
  (s.advance dt).arriveU m (some (forcePointRequest p value))

/-- Release the force of a point. -/
def execReleasePoint (dt : Nat) (m : Mailbox) (p : Nat) (s : State) : Outcome :=
  (s.advance dt).arriveU m (some (releasePointRequest p))

/-- Write node entries. -/
def execWriteNodes (dt : Nat) (m : Mailbox) (entries : List NodeWrite) (s : State) : Outcome :=
  (s.advance dt).arriveU m (some (writeNodesRequest entries))

/-- Read node entries. -/
def execReadNodes (dt : Nat) (m : Mailbox) (start count : Nat) (s : State) : Outcome :=
  (s.advance dt).arriveU m (some (readNodesRequest start count))

/-- Write supply lines. -/
def execWriteSupply (dt : Nat) (m : Mailbox) (entries : List SupplyWrite) (s : State) : Outcome :=
  (s.advance dt).arriveU m (some (writeSupplyRequest entries))

/-- Read supply lines. -/
def execReadSupply (dt : Nat) (m : Mailbox) (start count : Nat) (s : State) : Outcome :=
  (s.advance dt).arriveU m (some (readSupplyRequest start count))

/-- Write roughing groups. -/
def execWriteRoughing (dt : Nat) (m : Mailbox) (entries : List RoughingWrite) (s : State) : Outcome :=
  (s.advance dt).arriveU m (some (writeRoughingRequest entries))

/-- Read roughing groups. -/
def execReadRoughing (dt : Nat) (m : Mailbox) (start count : Nat) (s : State) : Outcome :=
  (s.advance dt).arriveU m (some (readRoughingRequest start count))

/-- Write gate entries. -/
def execWriteGates (dt : Nat) (m : Mailbox) (entries : List GateWrite) (s : State) : Outcome :=
  (s.advance dt).arriveU m (some (writeGatesRequest entries))

/-- Read gate entries. -/
def execReadGates (dt : Nat) (m : Mailbox) (start count : Nat) (s : State) : Outcome :=
  (s.advance dt).arriveU m (some (readGatesRequest start count))

/-- Open a gate. -/
def execGateRequestOpen (dt : Nat) (m : Mailbox) (g : Nat) (listed : Bool) (s : State) : Outcome :=
  (s.advance dt).arriveU m (some (gateOpenRequest g listed))

/-- Close a gate. -/
def execGateRequestClose (dt : Nat) (m : Mailbox) (g : Nat) (listed : Bool) (s : State) : Outcome :=
  (s.advance dt).arriveU m (some (gateCloseRequest g listed))

/-! ### Records, contexts, jobs -/

/-- Write records. -/
def execWriteRecords (dt : Nat) (m : Mailbox) (start : Nat) (records : List (List Byte)) (s : State) : Outcome :=
  (s.advance dt).arriveU m (some (writeRecordsRequest start records))

/-- Read records with their use counts. -/
def execReadRecords (dt : Nat) (m : Mailbox) (start count : Nat) (s : State) : Outcome :=
  (s.advance dt).arriveU m (some (readRecordsRequest start count))

/-- Enable a context, or rewrite its configuration. -/
def execWriteContextEnable (dt : Nat) (m : Mailbox) (c : Nat) (f : CtxFields) (s : State) : Outcome :=
  (s.advance dt).arriveU m (some (enableRequest c f))

/-- Disable a context, or store the configuration of one that is OFFLINE. -/
def execWriteContextDisable (dt : Nat) (m : Mailbox) (c : Nat) (f : CtxFields) (s : State) : Outcome :=
  (s.advance dt).arriveU m (some (disableRequest c f))

/-- Read a context. -/
def execReadContext (dt : Nat) (m : Mailbox) (c : Nat) (s : State) : Outcome :=
  (s.advance dt).arriveU m (some (readContextRequest c))

/-- Write the masks and levels of a context. -/
def execSetMask (dt : Nat) (m : Mailbox) (c : Nat) (masks : BitVec 16) (levels : List Level) (s : State) : Outcome :=
  (s.advance dt).arriveU m (some (setMaskRequest c masks levels))

/-- Clear request flags of a context. -/
def execClearRequest (dt : Nat) (m : Mailbox) (c : Nat) (sources : BitVec 16) (s : State) : Outcome :=
  (s.advance dt).arriveU m (some (clearRequestRequest c sources))

/-- Submit a job. -/
def execSubmitJob (dt : Nat) (m : Mailbox) (c : Nat) (tag : BitVec 32) (start : Nat) (priority : Option Priority)
    (reportAll : Bool) (s : State) : Outcome :=
  (s.advance dt).arriveU m (some (submitJobRequest c tag start priority reportAll))

/-- Cancel a job. -/
def execCancelJob (dt : Nat) (m : Mailbox) (c : Nat) (tag : BitVec 32) (s : State) : Outcome :=
  (s.advance dt).arriveU m (some (cancelJobRequest c tag))

/-- Abort what a context runs. -/
def execAbort (dt : Nat) (m : Mailbox) (c : Nat) (s : State) : Outcome := (s.advance dt).arriveU m (some (abortRequest c))

/-- Clear a halted context. -/
def execClear (dt : Nat) (m : Mailbox) (c : Nat) (s : State) : Outcome := (s.advance dt).arriveU m (some (clearRequest c))

/-- Park a context. -/
def execPark (dt : Nat) (m : Mailbox) (c : Nat) (level : Option ParkLevel) (s : State) : Outcome :=
  (s.advance dt).arriveU m (some (parkRequest c level))

/-- Wake a context. -/
def execWake (dt : Nat) (m : Mailbox) (c : Nat) (s : State) : Outcome := (s.advance dt).arriveU m (some (wakeRequest c))

/-! ### The part as a whole -/

/-- Identify the part. -/
def execIdentify (dt : Nat) (m : Mailbox) (s : State) : Outcome := (s.advance dt).arriveU m (some identifyRequest)

/-- Read the part's status. -/
def execReadStatus (dt : Nat) (m : Mailbox) (s : State) : Outcome := (s.advance dt).arriveU m (some readStatusRequest)

/-- Read reports. -/
def execReadReports (dt : Nat) (m : Mailbox) (count : Nat) (s : State) : Outcome :=
  (s.advance dt).arriveU m (some (readReportsRequest count))

/-- Read counters, and clear them if asked. -/
def execReadCounters (dt : Nat) (m : Mailbox) (start count : Nat) (clear : Bool) (s : State) : Outcome :=
  (s.advance dt).arriveU m (some (readCountersRequest start count clear))

/-- Store the identity page. -/
def execStoreConfig (dt : Nat) (m : Mailbox) (f : PageFields) (s : State) : Outcome :=
  (s.advance dt).arriveU m (some (storeConfigRequest f))

/-- Ask for a soft reset. -/
def execSoftReset (dt : Nat) (m : Mailbox) (s : State) : Outcome := (s.advance dt).arriveU m (some softResetRequest)

/-- A request code that Table 10-2 does not list is refused with BAD_REQUEST (R178). -/
def execUnknownRequestCode (dt : Nat) (m : Mailbox) (s : State) : Outcome := (s.advance dt).arriveU m none

end Sys2Proof.Machine
end

