-- ==== Sys2Proof/Machine/Events.lean ====
section
/-!
DEFINITION. Sys2Proof/Machine/Events.lean: the commands that are no requests: reset (R19, R184), the completions of load and store,
the arrival of frames, and the expiry of timers. An expiry or a completion whose timer is not due, or which awaits nothing, lets
time pass and does nothing else (log 1).
-/
namespace Sys2Proof.Machine

/-! ### Reset and the config memory -/

/-- Reset: every block at its reset values, and the load begins. The straps stand on their pins, and the commands that wait go on
waiting. -/
def execReset (s : State) : Outcome := .next { State.resetWith s.straps with pending := s.pending, free := s.free }

/-- The load completion (R184). -/
def execLoadCompletion (dt : Nat) (page : Option (List Byte)) (s : State) : Outcome :=
  let s := s.advance dt
  .next (if s.loader.state = .loading then s.endLoad page else s)

/-- The store completion (R188). -/
def execStoreCompletion (dt : Nat) (answered : Bool) (s : State) : Outcome :=
  let s := s.advance dt
  .next (if s.loader.state = .storing then s.endStore answered else s)

/-! ### Frames -/

/-- A PROCESS frame passes outbound (R6). -/
def execProcessFrameOutbound (dt : Nat) (f : Frame) (s : State) : Outcome := (s.advance dt).arrive .u f

/-- A PROCESS frame returns (R7). -/
def execProcessFrameReturn (dt : Nat) (f : Frame) (s : State) : Outcome := (s.advance dt).arrive .d f

/-- A MAILBOX frame for the part returns (R15). -/
def execMailboxFrameReturn (dt : Nat) (f : Frame) (s : State) : Outcome := (s.advance dt).arrive .d f

/-- A MAILBOX frame for the part meets a FULL holder, or the config load, and goes on unexecuted (R14, R17). -/
def execMailboxHolderFull (dt : Nat) (f : Frame) (s : State) : Outcome := (s.advance dt).arrive .u f

/-- A frame of class OTHER passes (R2, R3). -/
def execOtherFrame (dt : Nat) (port : Port) (f : Frame) (s : State) : Outcome := (s.advance dt).arrive port f

/-- A frame with a bad check arrives (R4, R5). -/
def execBadCheckArrival (dt : Nat) (port : Port) (f : Frame) (s : State) : Outcome := (s.advance dt).arrive port f

/-! ### Timers of the frame engine and the point table -/

/-- The gap timer's expiry, in UP (R10, R11). -/
def execGapTimerExpiry (dt : Nat) (s : State) : Outcome :=
  let s := s.advance dt
  .next (if s.ring = .up ∧ timerDue s.gapTimer s.now then s.enterGap.settle else s)

/-- The holder timer's expiry (R16). -/
def execHolderTimerExpiry (dt : Nat) (s : State) : Outcome := .next (s.advance dt).holderExpiry

/-- The ramp end of point p's record (R25): the record settles, and points that so come to zero trigger a scan (R136). -/
def State.settleRamp (s : State) (p : Nat) : State :=
  match s.point p with
  | .set cfg r =>
    if 0 < r.d ∧ r.d ≤ (s.now - r.r).toNat then
      let s' := s.setPoint p (.set cfg { r with s := r.t, d := 0 })
      match cfg.owner with
      | .ctx c => s'.triggerIf (r.t == 0 && cfg.hot && s'.ctxAtZero c)
      | .shared => s'
    else s
  | _ => s

/-- The ramp end of a setpoint record. -/
def execRampEnd (dt : Nat) (p : Nat) (s : State) : Outcome := .next ((s.advance dt).settleRamp p).settle

/-! ### Timers of a context at rest -/

/-- The auto-park expiry, in IDLE (R80). -/
def execAutoParkExpiry (dt : Nat) (c : Nat) (s : State) : Outcome :=
  let s := s.advance dt
  .next (if (s.ctx c).state = .idle ∧ timerDue (s.ctx c).autoPark s.now then (s.parkAt c .light).settle else s)

/-- The wake delay's expiry, in WAKING (R89). -/
def execWakeDelayExpiry (dt : Nat) (c : Nat) (s : State) : Outcome :=
  let s := s.advance dt
  .next (if (s.ctx c).state = .waking ∧ timerDue (s.ctx c).wakeDelay s.now then (s.wakeEnd c).settle else s)

/-! ### Timers of a step -/

/-- The expiry of a TIME condition (R98). -/
def State.timeExpiry (s : State) (c i : Nat) : State :=
  match (s.ctx c).step with
  | none => s
  | some st =>
    match st.conds[i]? with
    | none => s
    | some k => if timerDue k.timer s.now then s.evaluateEnd c st (st.conds.set i (k.expire s.now)) else s

/-- A TIME condition's timer expires. -/
def execTimeExpiry (dt : Nat) (c i : Nat) (s : State) : Outcome := .next ((s.advance dt).timeExpiry c i).settle

/-- The ramp completion of a step (R97, R132). -/
def State.rampCompletion (s : State) (c : Nat) : State :=
  match (s.ctx c).step with
  | none => s
  | some st =>
    if timerDue st.rampEnd s.now then
      ((s.modStep c fun st =>
          { st with rampEnd := none, phase := if st.phase = .ramp then .hold else st.phase }).lowerReservations c st).triggerIf
        (s.wouldFall c st)
    else s

/-- A step's ramp completion. -/
def execRampCompletion (dt : Nat) (c : Nat) (s : State) : Outcome := .next ((s.advance dt).rampCompletion c).settle

/-- The max time expiry of a step (R103). -/
def State.maxTimeExpiry (s : State) (c : Nat) : State :=
  match (s.ctx c).step with
  | none => s
  | some st =>
    if timerDue st.maxTimer s.now then
      (s.modStep c fun st => { st with maxTimer := none, timeoutRaised := true }).push [.raise c .stepTimeout]
    else s

/-- A step's max time expires. -/
def execMaxTimeExpiry (dt : Nat) (c : Nat) (s : State) : Outcome := .next ((s.advance dt).maxTimeExpiry c).settle

/-- The strike window's expiry (R106). -/
def State.strikeExpiry (s : State) (c : Nat) : State :=
  match (s.ctx c).step with
  | none => s
  | some st =>
    if timerDue st.strikeTimer s.now && st.strike == .unstruck then
      (s.modStep c fun st => { st with strikeTimer := none, strike := .failed }).push [.raise c .strikeFail]
    else s

/-- A step's strike window expires. -/
def execStrikeWindowExpiry (dt : Nat) (c : Nat) (s : State) : Outcome := .next ((s.advance dt).strikeExpiry c).settle

/-- The settle expiry of an ROR step (R108). -/
def State.settleExpiry (s : State) (c : Nat) : State :=
  match (s.ctx c).step with
  | none => s
  | some st =>
    if st.phase == .settle && timerDue st.rorTimer s.now then
      (s.modStep c (s.takeFirst (s.ctx c).cfg.pressure)).afterReading (s.ctx c).cfg.pressure
    else s

/-- An ROR step's settle time expires. -/
def execSettleExpiry (dt : Nat) (c : Nat) (s : State) : Outcome := .next ((s.advance dt).settleExpiry c)

/-- The measure expiry of an ROR step (R109, R110). -/
def State.measureExpiry (s : State) (c : Nat) : State :=
  let x := s.ctx c
  match x.step with
  | none => s
  | some st =>
    if st.phase == .measure && timerDue st.rorTimer s.now then
      let (result, p1, span, rate) := s.rorOutcome x.cfg.pressure st
      ((s.report (some c) x.cur x.jobTag (.rorResult result st.p0 p1 span rate)).afterReading x.cfg.pressure).push
        (.stepEnd c .none :: if result = .pass then [] else [.raise c .leakRate])
    else s

/-- An ROR step's measure time expires. -/
def execMeasureExpiry (dt : Nat) (c : Nat) (s : State) : Outcome := .next ((s.advance dt).measureExpiry c).settle

/-- The admit timeout of context c's wait-list entry (R138). -/
def State.admitExpiry (s : State) (c : Nat) : State :=
  match s.waits.find? fun e => e.ctx == c with
  | none => s
  | some e =>
    if timerDue e.timer s.now then
      { s with waits := s.waits.map fun (e : WaitEntry) => if e.ctx = c then { e with timer := none, raised := true } else e }.push
        [.raise c .admitTimeout]
    else s

/-- An admit timeout expires. -/
def execAdmitTimeoutExpiry (dt : Nat) (c : Nat) (s : State) : Outcome := .next ((s.advance dt).admitExpiry c).settle

/-- A gate's motion timer expires (R148). -/
def execMotionTimerExpiry (dt : Nat) (g : Nat) (s : State) : Outcome := .next ((s.advance dt).motionExpiry g).settle

end Sys2Proof.Machine
end

