-- ==== Sys2Proof/Machine/Dispatch.lean ====
section
/-!
DEFINITION. Sys2Proof/Machine/Dispatch.lean: the meaning of each command, one arm for each row of the table.
-/
namespace Sys2Proof.Machine

/-- The effect of a command on everything but the queue of commands that wait. -/
def exec (i : Instr) (s : State) : Host.Outcome State Fault Refusal :=
  match i with
  | .reset => Sys2Proof.Machine.execReset s
  | .loadCompletion dt page => Sys2Proof.Machine.execLoadCompletion dt page s
  | .storeCompletion dt answered => Sys2Proof.Machine.execStoreCompletion dt answered s
  | .processFrameOutbound dt f => Sys2Proof.Machine.execProcessFrameOutbound dt f s
  | .processFrameReturn dt f => Sys2Proof.Machine.execProcessFrameReturn dt f s
  | .mailboxFrameReturn dt f => Sys2Proof.Machine.execMailboxFrameReturn dt f s
  | .mailboxHolderFull dt f => Sys2Proof.Machine.execMailboxHolderFull dt f s
  | .otherFrame dt port f => Sys2Proof.Machine.execOtherFrame dt port f s
  | .badCheckArrival dt port f => Sys2Proof.Machine.execBadCheckArrival dt port f s
  | .gapTimerExpiry dt => Sys2Proof.Machine.execGapTimerExpiry dt s
  | .holderTimerExpiry dt => Sys2Proof.Machine.execHolderTimerExpiry dt s
  | .rampEnd dt point => Sys2Proof.Machine.execRampEnd dt point s
  | .autoParkExpiry dt c => Sys2Proof.Machine.execAutoParkExpiry dt c s
  | .wakeDelayExpiry dt c => Sys2Proof.Machine.execWakeDelayExpiry dt c s
  | .timeExpiry dt c condition => Sys2Proof.Machine.execTimeExpiry dt c condition s
  | .rampCompletion dt c => Sys2Proof.Machine.execRampCompletion dt c s
  | .maxTimeExpiry dt c => Sys2Proof.Machine.execMaxTimeExpiry dt c s
  | .strikeWindowExpiry dt c => Sys2Proof.Machine.execStrikeWindowExpiry dt c s
  | .settleExpiry dt c => Sys2Proof.Machine.execSettleExpiry dt c s
  | .measureExpiry dt c => Sys2Proof.Machine.execMeasureExpiry dt c s
  | .admitTimeoutExpiry dt c => Sys2Proof.Machine.execAdmitTimeoutExpiry dt c s
  | .motionTimerExpiry dt gate => Sys2Proof.Machine.execMotionTimerExpiry dt gate s
  | .identify dt m => Sys2Proof.Machine.execIdentify dt m s
  | .readStatus dt m => Sys2Proof.Machine.execReadStatus dt m s
  | .writePoints dt m entries => Sys2Proof.Machine.execWritePoints dt m entries s
  | .readPoints dt m start count => Sys2Proof.Machine.execReadPoints dt m start count s
  | .readSamples dt m start count => Sys2Proof.Machine.execReadSamples dt m start count s
  | .forcePoint dt m index value => Sys2Proof.Machine.execForcePoint dt m index value s
  | .releasePoint dt m index => Sys2Proof.Machine.execReleasePoint dt m index s
  | .writeNodes dt m entries => Sys2Proof.Machine.execWriteNodes dt m entries s
  | .readNodes dt m start count => Sys2Proof.Machine.execReadNodes dt m start count s
  | .writeSupply dt m entries => Sys2Proof.Machine.execWriteSupply dt m entries s
  | .readSupply dt m start count => Sys2Proof.Machine.execReadSupply dt m start count s
  | .writeRoughing dt m entries => Sys2Proof.Machine.execWriteRoughing dt m entries s
  | .readRoughing dt m start count => Sys2Proof.Machine.execReadRoughing dt m start count s
  | .writeGates dt m entries => Sys2Proof.Machine.execWriteGates dt m entries s
  | .readGates dt m start count => Sys2Proof.Machine.execReadGates dt m start count s
  | .gateRequestOpen dt m gate listed => Sys2Proof.Machine.execGateRequestOpen dt m gate listed s
  | .gateRequestClose dt m gate listed => Sys2Proof.Machine.execGateRequestClose dt m gate listed s
  | .writeRecords dt m start records => Sys2Proof.Machine.execWriteRecords dt m start records s
  | .readRecords dt m start count => Sys2Proof.Machine.execReadRecords dt m start count s
  | .writeContextEnable dt m c cfg => Sys2Proof.Machine.execWriteContextEnable dt m c cfg s
  | .writeContextDisable dt m c cfg => Sys2Proof.Machine.execWriteContextDisable dt m c cfg s
  | .readContext dt m c => Sys2Proof.Machine.execReadContext dt m c s
  | .setMask dt m c masks levels => Sys2Proof.Machine.execSetMask dt m c masks levels s
  | .clearRequest dt m c sources => Sys2Proof.Machine.execClearRequest dt m c sources s
  | .submitJob dt m c tag start priority reportAll => Sys2Proof.Machine.execSubmitJob dt m c tag start priority reportAll s
  | .cancelJob dt m c tag => Sys2Proof.Machine.execCancelJob dt m c tag s
  | .abort dt m c => Sys2Proof.Machine.execAbort dt m c s
  | .clear dt m c => Sys2Proof.Machine.execClear dt m c s
  | .park dt m c level => Sys2Proof.Machine.execPark dt m c level s
  | .wake dt m c => Sys2Proof.Machine.execWake dt m c s
  | .readReports dt m count => Sys2Proof.Machine.execReadReports dt m count s
  | .readCounters dt m start count clear => Sys2Proof.Machine.execReadCounters dt m start count clear s
  | .storeConfig dt m page => Sys2Proof.Machine.execStoreConfig dt m page s
  | .softReset dt m => Sys2Proof.Machine.execSoftReset dt m s
  | .unknownRequestCode dt m => Sys2Proof.Machine.execUnknownRequestCode dt m s

end Sys2Proof.Machine
end

