-- ==== Sys2Proof/Safety.lean ====
section
/-!
DEFINITION. Sys2Proof/Safety.lean: the terms in which claims are made: when a frame's request is executed, the state it is executed on,
a part at rest between events, and the laws that every step keeps.
-/
namespace Sys2Proof.Machine

/-- The microseconds that a command brings since the command before it; RESET brings none. -/
def intervalOf : Instr → Nat
  | .reset => 0
  | .loadCompletion dt _ => dt
  | .storeCompletion dt _ => dt
  | .processFrameOutbound dt _ => dt
  | .processFrameReturn dt _ => dt
  | .mailboxFrameReturn dt _ => dt
  | .mailboxHolderFull dt _ => dt
  | .otherFrame dt _ _ => dt
  | .badCheckArrival dt _ _ => dt
  | .gapTimerExpiry dt => dt
  | .holderTimerExpiry dt => dt
  | .rampEnd dt _ => dt
  | .autoParkExpiry dt _ => dt
  | .wakeDelayExpiry dt _ => dt
  | .timeExpiry dt _ _ => dt
  | .rampCompletion dt _ => dt
  | .maxTimeExpiry dt _ => dt
  | .strikeWindowExpiry dt _ => dt
  | .settleExpiry dt _ => dt
  | .measureExpiry dt _ => dt
  | .admitTimeoutExpiry dt _ => dt
  | .motionTimerExpiry dt _ => dt
  | .identify dt _ => dt
  | .readStatus dt _ => dt
  | .writePoints dt _ _ => dt
  | .readPoints dt _ _ _ => dt
  | .readSamples dt _ _ _ => dt
  | .forcePoint dt _ _ _ => dt
  | .releasePoint dt _ _ => dt
  | .writeNodes dt _ _ => dt
  | .readNodes dt _ _ _ => dt
  | .writeSupply dt _ _ => dt
  | .readSupply dt _ _ _ => dt
  | .writeRoughing dt _ _ => dt
  | .readRoughing dt _ _ _ => dt
  | .writeGates dt _ _ => dt
  | .readGates dt _ _ _ => dt
  | .gateRequestOpen dt _ _ _ => dt
  | .gateRequestClose dt _ _ _ => dt
  | .writeRecords dt _ _ _ => dt
  | .readRecords dt _ _ _ => dt
  | .writeContextEnable dt _ _ _ => dt
  | .writeContextDisable dt _ _ _ => dt
  | .readContext dt _ _ => dt
  | .setMask dt _ _ _ _ => dt
  | .clearRequest dt _ _ _ => dt
  | .submitJob dt _ _ _ _ _ _ => dt
  | .cancelJob dt _ _ _ => dt
  | .abort dt _ _ => dt
  | .clear dt _ _ => dt
  | .park dt _ _ _ => dt
  | .wake dt _ _ => dt
  | .readReports dt _ _ => dt
  | .readCounters dt _ _ _ _ => dt
  | .storeConfig dt _ _ => dt
  | .softReset dt _ => dt
  | .unknownRequestCode dt _ => dt

/-! ### Execution of a request -/

/-- A request of this code carries no field: IDENTIFY, READ_STATUS, SOFT_RESET (R182, R183, R190). -/
def fieldless (code : Nat) : Bool := code == 1 || code == 2 || code == softResetCode

/-- The frame's request is executed (R14): the frame is a good MAILBOX frame for the part, the holder is EMPTY, the load has ended, and
stages 1 to 3 of R178 pass. -/
def State.executesFrame (s : State) (f : Frame) : Bool :=
  goodCheck f && classify s.inUse.address f == .mailbox && s.holder.isNone && s.loader.state != .loading && !unfit f

/-- The frame's request is executed (R14), and it is a request of this code whose body holds its fields, so that every check of R178 that
precedes the request's count passes. For WRITE_RECORDS the body must moreover hold 208 bytes for each record, which depends on the
count (R178, R194). -/
def State.executes (s : State) (m : Mailbox) (code : Nat) : Bool :=
  s.executesFrame m.frame && requestCode m.frame == code
    && (fieldless code || (m.complete && decide (1 ≤ bodyLength m.frame)))

/-- The state on which a request is executed: the time has passed, and the frame has been counted (R5, R18, R201). -/
def State.arrived (s : State) (dt : Nat) : State := ((s.advance dt).goodArrival).count 49

/-- The state that an executed request leaves: the holder holds its response, and its frame goes on unchanged (R14). -/
def State.answered (s : State) (m : Mailbox) (r : Response) : State := s.holdResponse m.frame r false

/-- No work of an event is left, and no step waits for admission: what a scan trigger then starts admits nothing. -/
def State.quiet (s : State) : Bool := s.agenda.isEmpty && s.waits.isEmpty && !s.scanning && !s.scanAgain

/-! ### Laws that every step keeps -/

/-- The tables have the part's sizes (R20, R39, R50, R119, R122, R142, R200). -/
def State.sized (s : State) : Bool :=
  s.points.length == Config.points && s.nodes.length == Config.nodes && s.records.length == Config.records
    && s.useCounts.length == Config.records && s.ctxs.length == Config.contexts && s.lines.length == Config.lines
    && s.groups.length == Config.groups && s.gates.length == Config.gates && s.counters.length == Config.counters

/-- At most two loop levels are open, each at an iteration from 1 to its count (R112). -/
def loopsLaw (loops : List LoopLevel) : Bool :=
  decide (loops.length ≤ 2) && loops.all fun l => decide (1 ≤ l.iteration) && decide (l.iteration ≤ l.count)

/-- A context's bounds: its job queue (R81), and its loop levels and those of its return records (R112, R166). -/
def Ctx.bounded (x : Ctx) : Bool :=
  decide (x.queue.length ≤ Config.queue) && loopsLaw x.loops && x.stack.all fun r => loopsLaw r.loops

/-- The wait list has at most one entry for each context (R134), and so at most six. -/
def State.waitsDistinct (s : State) : Bool :=
  decide ((s.waits.map (·.ctx)).Pairwise (· ≠ ·)) && s.waits.all fun e => decide (e.ctx < Config.contexts)

/-- The queues, counts, ages and levels stay within their bounds, and the records within their ranges (R5, R39, R58, R70, R81, R112,
R134, R196, R197, R199). -/
def State.bounded (s : State) : Bool :=
  decide (s.badRun ≤ 255) && decide (s.reports.length ≤ Config.reports) && decide (s.lost ≤ 65535)
    && s.ctxs.all Ctx.bounded && s.counters.all (fun k => decide (k.value ≤ 2147483647)) && s.waitsDistinct
    && s.useCounts.all (fun n => decide (n ≤ 60)) && s.nodes.all (fun n => n.all fun x => decide (x.age ≤ 3))
    && s.records.all Record.inRange

/-- The gap timer runs exactly in UP (R10), and a gate's motion timer exactly in OPENING and CLOSING (R145 to R149). -/
def State.timersFollow (s : State) : Bool :=
  s.gapTimer.isSome == (s.ring == .up)
    && s.gates.all fun g => g.all fun g => g.timer.isSome == (g.state == .opening || g.state == .closing)

/-- On every budget-enabled line the reservations sum to no more than the capacity, and on every other line they are 0 (R119). -/
def State.budgetLaw (s : State) : Bool :=
  s.lines.length == Config.lines &&
    s.lines.all fun x =>
      x.reservations.length == Config.contexts
        && if x.budget then decide (x.reservations.sum ≤ x.capacity) else x.reservations.all (· == 0)

/-- Context c owns a FLOW SET point on supply line l. -/
def State.feeds (s : State) (c l : Nat) : Bool :=
  s.points.any fun p =>
    match p with
    | .set cfg _ => cfg.quantity == .flow && cfg.line == some l && cfg.owner == .ctx c
    | _ => false

/-- What context c holds of the plant it may hold: it stands at a step only in RUNNING or DIVERTED, the step has demand, and the
context a reservation, only on lines of its own FLOW SET points, and a reservation only in those two states (R94, R95, R133). -/
def State.ctxPlantLaw (s : State) (c : Nat) : Bool :=
  let x := s.ctx c
  (x.step.isNone || x.active)
    && (List.range Config.lines).all fun l =>
        x.step.all (fun st => st.demandOn l == 0 || s.feeds c l)
          && ((s.line l).reserved c == 0 || (x.active && s.feeds c l))

/-- Every context keeps its plant law, and a roughing group's holder is a context in RUNNING or DIVERTED (R122). -/
def State.plantLaw (s : State) : Bool :=
  contexts.all s.ctxPlantLaw && s.groups.all fun g => g.holder.all fun c => (s.ctx c).active

/-- The paths that a context holds: its configured ones, and those of its queued jobs and of its running job (R69). -/
def Ctx.heldPaths (x : Ctx) : List (List Nat) := x.paths ++ x.queue.map (·.path) ++ (x.job.map (·.job.path)).toList

/-- The tags of a context's jobs (R81). -/
def Ctx.tags (x : Ctx) : List (BitVec 32) := x.queue.map (·.tag) ++ (x.job.map (·.job.tag)).toList

/-- No tag stands twice among the jobs of all contexts (R81); a running job is in RUNNING or DIVERTED (R83, R86); an OFFLINE context
holds no path (R71, R78); and the use count of each record is the number of held paths that hold it (R69 to R71). -/
def State.jobLaw (s : State) : Prop :=
  (s.ctxs.flatMap Ctx.tags).Nodup
    ∧ (∀ x ∈ s.ctxs, x.job.isSome = true → x.active = true)
    ∧ (∀ x ∈ s.ctxs, x.state = .offline → x.heldPaths = [])
    ∧ ∀ i, i < Config.records → s.useCount i = (s.ctxs.flatMap Ctx.heldPaths).countP fun path => path.contains i

/-- The levels of a context's return records rise from bottom to top, and the last is below the in-service level (R167). -/
def Ctx.stackLaw (x : Ctx) : Bool :=
  decide ((x.stack.map (levelRank ·.level) ++ [levelRank x.isl]).Pairwise (· < ·))

/-- Every context's diversion stack keeps its law. -/
def State.stackLaw (s : State) : Bool := s.ctxs.all Ctx.stackLaw

/-- The wait list stands in the order of class and priority (R134). -/
def State.waitsOrdered (s : State) : Bool :=
  decide (s.waits.Pairwise fun a b => waitRank a.cls a.priority ≤ waitRank b.cls b.priority)

/-- The masks and levels of sources 0 to 3 are not programmable: no bit of theirs is set (R156). -/
def State.fixedSources (s : State) : Bool :=
  s.ctxs.all fun x => x.masks &&& 0x000F == 0 && x.highs &&& 0x000F == 0 && x.cfg.masks &&& 0x000F == 0
    && x.cfg.highs &&& 0x000F == 0

/-- No setpoint record of a FLOW or POWER point is forced (R33). -/
def State.hotUnforced (s : State) : Bool :=
  s.points.all fun p =>
    match p with
    | .set cfg r => !cfg.flowOrPower || r.forced.isNone
    | _ => true

end Sys2Proof.Machine
end

