-- ==== Sys2Proof/Certificates/Slice0/Obligations.lean ====
section
/-!
DEFINITION. Sys2Proof/Certificates/Slice0/Obligations.lean: the statements for the provers. Each docstring says which rule of spec/ the
statement formalises. `s.arrived dt` is the state on which a request is executed, `s.advance dt` the one on which a timer expires.
-/
section
open Sys2Proof Sys2Proof.Machine

/-! ### The machine -/

/-- A step takes the command that waits first and runs it on the state with the queue's rest; on an empty queue it idles (the model's
own queue, log 1). -/
def Obligations.StepRunsFrontCommand : Prop :=
  (∀ (c : Instr) (rest : List Instr) (s : State), step { s with pending := c :: rest } = exec c { s with pending := rest })
    ∧ ∀ s : State, step { s with pending := [] } = .next { s with pending := [] }

/-- Every command answers a next state, from every state: none faults, and none is refused. Every command leaves the queue of commands,
the straps and no work of its event behind (log 10), and moves the part time by its interval alone (R1): a soft reset does not change
the part time, and RESET sets it to 0. -/
def Obligations.CommandsAnswerAndTimeRunsOn : Prop :=
  (∀ (c : Instr) (s : State), ∃ t, exec c s = .next t)
    ∧ (∀ (c : Instr) (s t : State), exec c s = .next t →
      t.pending = s.pending ∧ t.straps = s.straps
        ∧ (c ≠ .reset → t.now = s.now + BitVec.ofNat 32 (intervalOf c)) ∧ (c = .reset → t.now = 0))
    ∧ (∀ (c : Instr) (s t : State), s.agenda = [] → exec c s = .next t → t.agenda = [])

/-! ### Laws that every step keeps -/

/-- RESET answers the model's reset state. The laws hold right after it, for every strap value, and the state holds what R19, R37, R48,
R72, R92, R140, R154, R176 and R202 give it. Of what the first clause says more, this is the model's choice: the page image of 0xFF,
nothing defaulted, CONFIG_FAULT clear, P 1000, N_gap 4 and status offset 0 until the load completes (log 6); the straps kept as they
stand (log 7); the queue kept (log 17), and the count of free values (log 4); and that no frame has left a port yet (log 21). Every
line is disabled at capacity 0 without reservation, every group without member and holder, and no step waits (R140); each request unit
has sources 14 and 15 masked, and sources 4, 7, 9 and 13 at level HIGH (R176, Table 9-1). -/
def Obligations.ResetMeetsTheLaws : Prop :=
  (∀ s : State, exec .reset s = .next { State.resetWith s.straps with pending := s.pending, free := s.free })
    ∧ ∀ straps : Byte,
    let s := State.resetWith straps
    s.sized = true ∧ s.bounded = true ∧ s.timersFollow = true ∧ s.budgetLaw = true ∧ s.stackLaw = true
      ∧ s.waitsOrdered = true ∧ s.fixedSources = true ∧ s.hotUnforced = true ∧ s.plantLaw = true ∧ s.jobLaw
      ∧ s.ring = .down ∧ s.gapTimer = none ∧ s.badRun = 0 ∧ s.degraded = false ∧ s.holder = none
      ∧ (∀ p, s.point p = .empty) ∧ (∀ n, s.node n = none) ∧ (∀ i, s.record i = .empty ∧ s.useCount i = 0)
      ∧ (∀ c, (s.ctx c).state = .offline ∧ (s.ctx c).flags = 0 ∧ (s.ctx c).isl = .none ∧ (s.ctx c).stack = []
          ∧ (s.ctx c).job = none ∧ (s.ctx c).queue = [] ∧ (s.ctx c).cfg = CtxCfg.default
          ∧ (s.ctx c).masks = 0xC000 ∧ (s.ctx c).highs = 0x2290 ∧ (s.ctx c).cur = none ∧ (s.ctx c).step = none
          ∧ (s.ctx c).loops = [] ∧ (s.ctx c).autoPark = none ∧ (s.ctx c).wakeDelay = none ∧ (s.ctx c).paths = []
          ∧ (s.ctx c).marker = false)
      ∧ (∀ l, s.line l = { budget := false, capacity := 0, reservations := [0, 0, 0, 0, 0, 0] })
      ∧ (∀ g, s.group g = { members := [], holder := none }) ∧ s.waits = []
      ∧ (∀ g, s.gate g = none) ∧ s.reports = [] ∧ s.lost = 0
      ∧ ∀ n, s.counter n = { value := 0, overflow := false }

/-- Sizes and bounds: every step keeps the tables' sizes, the bad-check run at 255 or less (R5), the report queue at 64 or less (R196),
the reports-lost count at 65,535 or less (R197), each job queue at 4 or less (R81), each counter at 2,147,483,647 or less (R199), the
wait list at one entry for each context at most (R134), and so at six, the use counts at 60 or less (R70), the ages of nodes at 3 or
less (R44), the loop levels of each context and of each return record at two or less, each at an iteration from 1 to its count
(R112), and the records within their ranges (R58). -/
def Obligations.EveryStepKeepsTheBounds : Prop :=
  (∀ s t : State, s.sized = true → s.bounded = true → step s = .next t → t.sized = true ∧ t.bounded = true)
    ∧ ∀ s : State, s.bounded = true →
        s.waits.length ≤ 6 ∧ (s.waits.map (·.ctx)).Nodup ∧ (∀ i, s.useCount i ≤ 60) ∧ (∀ n x, s.node n = some x → x.age ≤ 3)
          ∧ ∀ c, (s.ctx c).loops.length ≤ 2 ∧ ∀ l ∈ (s.ctx c).loops, 1 ≤ l.iteration ∧ l.iteration ≤ l.count

/-- Timers follow states: the gap timer runs exactly in UP (R10), and a gate's motion timer exactly in OPENING and CLOSING (R145 to R149).
The wait list stands in the order of class and priority (R134). -/
def Obligations.EveryStepKeepsTimersAndOrder : Prop :=
  (∀ s t : State, s.timersFollow = true → step s = .next t → t.timersFollow = true)
    ∧ (∀ s t : State, s.waitsOrdered = true → step s = .next t → t.waitsOrdered = true)

/-- The budget law (R119): on every budget-enabled line the reservations sum to no more than the capacity, and on every other line they
are 0. With it every step keeps the plant law: a context stands at a step only in RUNNING or DIVERTED, its step has demand and it
has a reservation only on a line of one of its own FLOW SET points, it has a reservation only in those two states (R95, R133), and
so has a roughing group's holder (R122). So every reservation of a line that WRITE_SUPPLY accepts is 0 (R120). -/
def Obligations.BudgetIsNeverExceeded : Prop :=
  (∀ s t : State, s.sized = true → s.budgetLaw = true → s.plantLaw = true → step s = .next t →
      t.budgetLaw = true ∧ t.plantLaw = true)
    ∧ ∀ (s : State) (e : SupplyWrite), s.sized = true → s.budgetLaw = true → s.plantLaw = true → s.checkSupply e = none →
        ∀ r ∈ (s.line e.line).reservations, r = 0

/-- The diversion stack (R167): levels rise strictly from bottom to top and the top's is below the in-service level, so a stack holds
at most three records. -/
def Obligations.EveryStepKeepsTheStackLaw : Prop :=
  (∀ s t : State, s.stackLaw = true → step s = .next t → t.stackLaw = true)
    ∧ ∀ x : Ctx, x.stackLaw = true → x.stack.length ≤ 3

/-- Sources 0 to 3 are never masked and never change level (R156), and no setpoint record of a FLOW or POWER point is ever forced (R33). -/
def Obligations.FixedSourcesAndUnforcedPointsStay : Prop :=
  ((∀ s t : State, s.fixedSources = true → step s = .next t → t.fixedSources = true)
      ∧ ∀ masks highs : BitVec 16,
          Source.emergencyInput.masked masks = false ∧ Source.gatePressure.masked masks = false
            ∧ Source.ringGap.masked masks = false ∧ Source.operatorAbort.masked masks = false
            ∧ Source.emergencyInput.level highs = .emergency ∧ Source.gatePressure.level highs = .emergency
            ∧ Source.ringGap.level highs = .emergency ∧ Source.operatorAbort.level highs = .high)
    ∧ (∀ s t : State, s.hotUnforced = true → step s = .next t → t.hotUnforced = true)

/-- A record with a use count above 0 is never changed (R58, R69); only reset empties the store. Every step keeps the use count of each
record at the number of held paths that hold it (R69 to R71), the tags of all jobs apart (R81), a running job in RUNNING or DIVERTED,
and an OFFLINE context without a path (R71). A path that the walk accepts is closed and runnable (R61 to R68): its start is a HEAD;
every record of it is defined; each of its steps has its kind's fields and item limits (R66), drives and reads only points that the
context may use, at targets in range, on its own gates and groups (R67), and keeps the rules of its purpose (R65, R68); the successor
of each step that does not end the path is in it (R64, R65). A start that is no HEAD is refused NOT_HEAD (R63); a rest path at a
LOOP_END that R63, R66 and R67 let pass is refused LOOP_UNBALANCED (R64). That R64 is asked there before R68 is the model's choice:
R62 puts R68 in the stage before the loop levels, R68 puts its own checks last, and the model follows R68 (log 15, DEDUCED). -/
def Obligations.HeldRecordsNeverChange : Prop :=
  (∀ (c : Instr) (s t : State) (i : Nat), c ≠ .reset → exec c s = .next t → 0 < s.useCount i → t.record i = s.record i)
    ∧ (∀ s t : State, s.sized = true → s.jobLaw → step s = .next t → t.jobLaw)
    ∧ (∀ (s : State) (c start : Nat) (purpose : Purpose) (path : List Nat), s.sized = true →
      s.walk c purpose start = .ok path →
      start ∈ path ∧ (∃ st, stepAt s.records start = some st)
        ∧ (∀ i ∈ path, i < 2048 ∧ s.record i ≠ .empty)
        ∧ ∀ h ∈ path, ∀ st, stepAt s.records h = some st →
            (∀ x ∈ st.sets, (∃ cfg r, s.point x.point = .set cfg r ∧ cfg.owner = .ctx c ∧ x.target ≤ quantityMax cfg.quantity)
                ∧ ∀ g y, s.gate g = some y → y.cfg.openOut ≠ x.point)
              ∧ (∀ b ∈ st.bands, s.reads c b.point = true ∧ (b.mode = .relative →
                  (∃ x ∈ st.sets, x.point = b.reference) ∧ s.quantityOf b.reference = s.quantityOf b.point))
              ∧ (∀ e ∈ st.ends, ∀ p, e.point = some p → s.reads c p = true)
              ∧ (∀ p v, EndItem.input p v ∈ st.ends → s.quantityOf p = some .digital)
              ∧ (st.sets.map (·.point)).Nodup ∧ st.sets.length ≤ 32 ∧ st.bands.length ≤ 8 ∧ st.ends.length ≤ 4
              ∧ (st.head.kind.conditioned = false → st.bands = [] ∧ st.ends = [])
              ∧ (st.head.kind ≠ .process → st.head.kind ≠ .pump → st.head.kind ≠ .ror → st.sets = [])
              ∧ (st.head.kind = .ror → 0 < st.head.rorSettle ∧ 0 < st.head.rorMeasure)
              ∧ (st.head.kind.gate = true → ∃ g x, st.head.gate = some g ∧ s.gate g = some x ∧ x.cfg.owner = c)
              ∧ (st.head.kind = .pump → ∀ g, st.head.group = some g → c ∈ (s.group g).members)
              ∧ (purpose = .job → st.head.kind ≠ .ret ∧ st.head.kind ≠ .halt ∧ st.head.kind ≠ .abandon)
              ∧ (purpose.handler = true → st.head.kind ≠ .jobEnd)
              ∧ (purpose = .handlerEmergency → st.head.kind ≠ .gateOpen ∧ st.head.kind ≠ .ret ∧ st.head.kind ≠ .abandon
                  ∧ (st.head.kind = .pump → st.head.group = none))
              ∧ (purpose.resting = true → st.head.kind = .process ∧ st.head.strikeWindow = 0 ∧ st.bands = [] ∧ st.ends = [])
              ∧ (purpose = .handlerEmergency ∨ purpose.resting = true →
                  ∀ x ∈ st.sets, s.hotPoint x.point = true → x.target = 0)
              ∧ (purpose.resting = false → st.head.kind ≠ .jobEnd → st.head.kind ≠ .ret → st.head.kind ≠ .halt →
                  st.head.kind ≠ .abandon → st.head.next.target st.after ∈ path))
    ∧ (∀ (s : State) (c start : Nat) (purpose : Purpose), stepAt s.records start = none →
        s.walk c purpose start = .error { reason := .notHead, record := start, slot := none })
    ∧ ∀ (s : State) (c start : Nat) (purpose : Purpose) (st : Step), purpose.resting = true →
        stepAt s.records start = some st → st.head.kind = .loopEnd → s.stepFault c start = none →
        s.walk c purpose start = .error { reason := .loopUnbalanced, record := start, slot := none }

/-! ### Records on the wire -/

/-- The wire form of a record in range is 208 bytes and reads back as the record (R194, Tables 10-10 and 10-11); a record that passes the
checks of WRITE_RECORDS lies in the ranges of Tables 4-1 to 4-4 (R58). -/
def Obligations.RecordReadsBack : Prop :=
  (∀ r : Record, r.inRange = true → (encodeRecord r).length = 208 ∧ decodeRecord (encodeRecord r) = .ok r)
    ∧ (∀ (bs : List Byte) (r : Record), decodeRecord bs = .ok r → r.inRange = true)

/-! ### Reset and the config memory -/

/-- The values in use that a load forms from a page, with the defaulted set, the straps' rule, and the defaults that a blank page and a
memory that does not answer give (R185, Table 10-4). -/
def Obligations.LoadFormsTheValuesInUse : Prop :=
  (∀ (straps : Byte) (f : PageFields),
    let u := inUseOf straps f
    let strapped := f.override = 1 ∨ f.address = 0 ∨ 254 < f.address
    u.address = (if strapped then strappedAddress straps else f.address)
      ∧ (u.stored = true ↔ ¬strapped)
      ∧ u.period = (if f.period = 0 then 250 else if f.period = 1 then 500 else if f.period = 3 then 2000 else 1000)
      ∧ u.nGap = (if 2 ≤ f.nGap ∧ f.nGap ≤ 15 then f.nGap else 4)
      ∧ u.offset = (if f.offset ≤ 1344 then f.offset else 0)
      ∧ (u.override = true ↔ f.override = 1)
      ∧ defaultedFields f =
          [decide (f.address = 0 ∨ 254 < f.address), decide (3 < f.period), decide (f.nGap < 2 ∨ 15 < f.nGap),
           decide (1344 < f.offset), decide (1 < f.override)])
    ∧ strappedAddress 0 = 1 ∧ strappedAddress 255 = 1
    ∧ (∀ straps : Byte, straps ≠ 0 → straps ≠ 255 → strappedAddress straps = straps.toNat)
    ∧ ∀ s : State,
        s.endLoad (some (List.replicate 32 0xFF)) =
            { s.endLoad none with loader := { (s.endLoad none).loader with fault := false } }
          ∧ (s.endLoad none).loader.fault = true
          ∧ (s.endLoad none).loader.defaulted = [true, true, true, true, true]
          ∧ (s.endLoad none).inUse =
              { address := strappedAddress s.straps, stored := false, period := 1000, nGap := 4, offset := 0,
                override := false }

/-- The load completion enters READY with the values in use and no store outcome (R184), and touches nothing else; outside LOADING the
command lets time pass (log 1). -/
def Obligations.LoadCompletes : Prop :=
  ∀ (s : State) (dt : Nat) (page : Option (List Byte)),
    (s.loader.state = .loading →
      ∃ t, exec (.loadCompletion dt page) s = .next t
        ∧ t.loader.state = .ready ∧ t.loader.fault = page.isNone ∧ t.loader.last = .none
        ∧ (∀ bs, page = some bs → bs.length = 32 → t.loader.page = bs)
        ∧ (page = none → t.loader.page = List.replicate 32 0xFF)
        ∧ t.inUse = inUseOf s.straps (pageFields t.loader.page)
        ∧ t.loader.defaulted = defaultedFields (pageFields t.loader.page)
        ∧ t = { s.advance dt with loader := t.loader, inUse := t.inUse })
      ∧ (s.loader.state ≠ .loading → exec (.loadCompletion dt page) s = .next (s.advance dt))

/-- STORE_CONFIG begins a store of the five fields, the rest of the page at 0xFF, where each lies in its range of Table 10-4; it is
refused BUSY while a store runs, and OUT_OF_RANGE for the first field in table order that does not (R187), whose position counts the
rows of that table (log 14). Its completion sets the page image and DONE, or FAILED and CONFIG_FAULT (R188); the values in use do not
change. -/
def Obligations.StoreBeginsAndCompletes : Prop :=
  (∀ (s : State) (dt : Nat) (m : Mailbox) (f : PageFields),
    let inRange : List Bool :=
      [decide (1 ≤ f.address ∧ f.address ≤ 254), decide (f.period ≤ 3), decide (2 ≤ f.nGap ∧ f.nGap ≤ 15),
       decide (f.offset ≤ 1344), decide (f.override ≤ 1)]
    (s.executes m 112 = true → s.agenda = [] → s.loader.state = .ready → (∀ k, k < 5 → inRange[k]? = some true) →
      exec (.storeConfig dt m f) s =
        .next ({ s.arrived dt with loader := { s.loader with state := .storing, writing := pageBytes f } }.answered m
          (okay .empty)))
      ∧ (∀ k, s.executes m 112 = true → s.loader.state = .ready → inRange[k]? = some false →
          (∀ j, j < k → inRange[j]? = some true) →
          exec (.storeConfig dt m f) s = .next ((s.arrived dt).answered m (refusal .outOfRange none (some k))))
      ∧ (s.executes m 112 = true → s.loader.state = .storing →
        exec (.storeConfig dt m f) s = .next ((s.arrived dt).answered m (refusal .busy none none)))
      ∧ (s.loader.state = .storing →
        exec (.storeCompletion dt true) s =
          .next { s.advance dt with
            loader := { s.loader with state := .ready, page := s.loader.writing, last := .done } })
      ∧ (s.loader.state = .storing →
        exec (.storeCompletion dt false) s =
          .next { s.advance dt with loader := { s.loader with state := .ready, last := .failed, fault := true } }))
    ∧ ∀ f : PageFields, f.address ≤ 254 → f.period ≤ 3 → f.nGap ≤ 15 → f.offset ≤ 1344 → f.override ≤ 1 →
        (pageBytes f).length = 32 ∧ pageFields (pageBytes f) = f
          ∧ ∀ k, 6 ≤ k → k < 32 → (pageBytes f)[k]? = some 0xFF

/-! ### Frames -/

/-- A frame with a bad check is forwarded as it came, counted in BAD_CHECK, and advances the run, which sets DEGRADED at 3; nothing
else changes (R4, R5). -/
def Obligations.BadFramesPassUnread : Prop :=
  ∀ (s : State) (dt : Nat) (f : Frame), goodCheck f = false →
    let run := min (s.badRun + 1) 255
    let b := { (s.advance dt).count 51 with badRun := run, degraded := s.degraded || decide (3 ≤ run) }
    exec (.badCheckArrival dt .u f) s = .next { b with sentD := some f }
      ∧ exec (.badCheckArrival dt .d f) s = .next { b with sentU := some f }
      ∧ exec (.processFrameOutbound dt f) s = .next { b with sentD := some f }
      ∧ exec (.processFrameReturn dt f) s = .next { b with sentU := some f }
      ∧ exec (.mailboxFrameReturn dt f) s = .next { b with sentU := some f }
      ∧ exec (.mailboxHolderFull dt f) s = .next { b with sentD := some f }

/-- A good frame of class OTHER passes as it came, counted in OTHER_FRAMES on its outbound pass (R2, R3, R18). A MAILBOX frame for the part
that meets a FULL holder, or the config load, is counted and forwarded unexecuted (R14, R17). -/
def Obligations.GoodFramesPassOn : Prop :=
  (∀ (s : State) (dt : Nat) (f : Frame), goodCheck f = true → classify s.inUse.address f = .other →
      exec (.otherFrame dt .u f) s = .next ((((s.advance dt).goodArrival).count 50).sendD f)
        ∧ exec (.otherFrame dt .d f) s = .next (((s.advance dt).goodArrival).sendU f))
    ∧ (∀ (s : State) (dt : Nat) (f : Frame), goodCheck f = true → classify s.inUse.address f = .mailbox →
      (s.holder.isSome = true ∨ s.loader.state = .loading) →
      exec (.mailboxHolderFull dt f) s = .next ((s.arrived dt).sendD f))

/-- A good PROCESS frame passes outbound. Every SET point of its image whose owner is not OFFLINE and whose field lies inside the frame is
stamped, in ascending index: its field holds the raw count of its current value, which becomes its last raw value, with its SATURATED
flag (R6, R26, R27). The touch byte of every defined node of the image inside the frame is 0 (R43). Every payload byte that no such
field and no such node names leaves as it came, and so do the headers and the bytes behind the payload; the frame leaves at port D with
a good check and its length (R3, R4), and is counted in PROCESS_FRAMES (R18). The contexts of clamping stamps are those in which
SATURATION may then be raised (R27): all points are stamped before any such raise acts (log 9, the model's choice). During the config
load the frame is forwarded unchanged (R17). -/
def Obligations.OutboundPassStamps : Prop :=
  (∀ (s : State) (dt : Nat) (f : Frame) (image : Nat),
    goodCheck f = true → classify s.inUse.address f = .process image → s.loader.state ≠ .loading →
    let a := s.advance dt
    let raw := fun (cfg : PointCfg) (r : SetRec) => cfg.stampOf (r.currentValue a.now)
    let stamped := fun q : Point =>
      match q with
      | .set cfg r =>
        if a.stamps image (payloadOf f).length cfg = true then
          .set cfg { r with saturated := (raw cfg r).2, lastRaw := some (raw cfg r).1 }
        else q
      | _ => q
    let written := fun (bs : List Byte) (q : Point) =>
      match q with
      | .set cfg r => if a.stamps image (payloadOf f).length cfg = true then writeField bs cfg (raw cfg r).1 else bs
      | _ => bs
    ∃ (t : State) (out : Frame) (clamped : List Nat),
      exec (.processFrameOutbound dt f) s = .next t
        ∧ t = (({ (a.goodArrival).count 48 with points := s.points.map stamped, sentD := some out } : State).saturate
              clamped).settle
        ∧ (∀ c, c ∈ clamped ↔ ∃ p cfg r, s.point p = .set cfg r ∧ cfg.owner = .ctx c
              ∧ a.stamps image (payloadOf f).length cfg = true ∧ (raw cfg r).2 = true)
        ∧ payloadOf out = zeroTouch image s.nodes (s.points.foldl written (payloadOf f))
        ∧ t.sentD = some out ∧ goodCheck out = true ∧ out.addresses = f.addresses ∧ out.etherType = f.etherType
        ∧ out.data.length = f.data.length ∧ out.data.take 5 = f.data.take 5
        ∧ out.data.drop (5 + payloadLength f) = f.data.drop (5 + payloadLength f)
        ∧ (∀ n x, s.node n = some x → x.cfg.image = image → byteAt (payloadOf out) x.cfg.touch = 0)
        ∧ (∀ k, (∀ p cfg r, s.point p = .set cfg r → a.stamps image (payloadOf f).length cfg = true →
                k < cfg.offset ∨ cfg.offset + encodingWidth cfg.encoding ≤ k) →
              (∀ n x, s.node n = some x → x.cfg.image = image → x.cfg.touch ≠ k) →
              (payloadOf out)[k]? = (payloadOf f)[k]?)
        ∧ (s.sized = true → t.counter 48 = (s.counter 48).count)
        ∧ ∀ (p : Nat) (cfg : PointCfg) (r : SetRec), s.point p = .set cfg r →
            a.stamps image (payloadOf f).length cfg = true →
            ∃ r', t.point p = .set cfg r' ∧ r'.lastRaw = some (raw cfg r).1 ∧ r'.saturated = (raw cfg r).2)
    ∧ ∀ (s : State) (dt : Nat) (f : Frame) (image : Nat), goodCheck f = true →
        classify s.inUse.address f = .process image → s.loader.state = .loading → s.agenda = [] →
        exec (.processFrameOutbound dt f) s = .next ((((s.advance dt).goodArrival).count 48).sendD f)

/-- The return pass of a good PROCESS frame makes the stages of R7 in their order, each piece with all that it brings about before the
next: an evaluation of each defined node of the image whose touch byte lies inside the frame, a collection of each SAMPLE point of
the image whose field does (R8), both in ascending index, the notices to the contexts, to the gates and to the arbiter, and the last
stage. The order of the notices within stage 3, and that each piece's raises act before the next piece, are the model's choice (log
18). In the last stage image 0 moves the ring to UP, starts the gap timer anew, and leaves with the status area, which shows the ring
state as it stood before; any other image leaves as it came, its check formed again (R7, R9, R10, R12). During the config load the
frame is forwarded unchanged (R17). Where the part has nothing in the image, stands at no step and has no gate, the last stage is all
that the pass does. -/
def Obligations.QuietReturnPass : Prop :=
  (∀ (s : State) (dt : Nat) (f : Frame) (image : Nat), goodCheck f = true → classify s.inUse.address f = .process image →
    let b := (s.advance dt).goodArrival
    let payload := payloadOf f
    let len := payload.length
    (s.loader.state = .loading → s.agenda = [] → exec (.processFrameReturn dt f) s = .next (b.sendU f))
      ∧ (s.loader.state ≠ .loading →
        ∃ ns ps : List Nat, ns.Pairwise (· < ·) ∧ ps.Pairwise (· < ·)
          ∧ (∀ n, n ∈ ns ↔ ∃ x, s.node n = some x ∧ x.cfg.image = image ∧ x.cfg.touch < len)
          ∧ (∀ p, p ∈ ps ↔ ∃ cfg st, s.point p = .sample cfg st ∧ cfg.image = image
              ∧ cfg.offset + encodingWidth cfg.encoding ≤ len)
          ∧ exec (.processFrameReturn dt f) s = .next (b.push
              ((ns.map fun n => Task.evalNode n (payload.getD (((s.node n).map (·.cfg.touch)).getD 0) 0))
                ++ (ps.map fun p => Task.collect p (match s.point p with
                    | .sample cfg _ => readField payload cfg
                    | _ => 0))
                ++ ([0, 1, 2, 3, 4, 5].map fun c => Task.notifyCtx c image len)
                ++ ([0, 1, 2, 3, 4, 5, 6, 7].flatMap fun g => [Task.readGate g image len, Task.compareGate g image len])
                ++ [.notifyArbiter image len, .finishReturn image f])).settle))
    ∧ (∀ (n : Nat) (s : State) (t : Task) (ts : List Task), s.agenda = t :: ts →
        settleFor (n + 1) s = settleFor n (doTask t { s with agenda := ts }))
    ∧ (∀ (s : State) (f : Frame) (image : Nat),
        let up := { s with ring := .up, gapTimer := some { start := s.now, dur := s.inUse.nGap * s.inUse.period } }
        s.finishReturn image f =
          if image = 0 then
            up.sendU (reform (if s.inUse.offset + 56 ≤ (payloadOf f).length then
              writePayload f s.inUse.offset (up.statusArea s.ring) else f))
          else s.sendU (reform f))
    ∧ ∀ (s : State) (dt : Nat) (f : Frame) (image : Nat),
    goodCheck f = true → classify s.inUse.address f = .process image → s.loader.state ≠ .loading → s.quiet = true →
    s.evaluations image (payloadOf f) = [] → s.collections image (payloadOf f) = [] →
    (∀ c, (s.ctx c).step = none) → (∀ g, s.gate g = none) →
    let b := (s.advance dt).goodArrival
    let up := { b with ring := .up, gapTimer := some { start := b.now, dur := s.inUse.nGap * s.inUse.period } }
    exec (.processFrameReturn dt f) s =
      .next (if image = 0 then
        up.sendU (reform (if s.inUse.offset + 56 ≤ (payloadOf f).length then
          writePayload f s.inUse.offset (up.statusArea s.ring) else f))
      else b.sendU (reform f))

/-- A good MAILBOX frame for the part that returns takes the held response with it where its tag is the holder's, and otherwise BUSY,
the holder being left (R15); a SOFT_RESET's response leaving the holder resets the part (R16, R190). One that returns with a bad check
has no response written, and leaves the holder. Where the frame's payload is too short for the held response, which R15 leaves open,
what is written is the model's choice (log 28). -/
def Obligations.MailboxReturnAnswers : Prop :=
  (∀ (s : State) (dt : Nat) (f : Frame), goodCheck f = true → classify s.inUse.address f = .mailbox →
    let b := (s.advance dt).goodArrival
    (∀ h, s.holder = some h → h.tag = requestTag f → h.softReset = false →
      exec (.mailboxFrameReturn dt f) s = .next { b with sentU := some (writeResponse f h.response), holder := none })
      ∧ (∀ h, s.holder = some h → h.tag = requestTag f → h.softReset = true →
        exec (.mailboxFrameReturn dt f) s =
          .next { b with sentU := some (writeResponse f h.response), holder := none }.softReset)
      ∧ ((∀ h, s.holder = some h → h.tag ≠ requestTag f) →
        exec (.mailboxFrameReturn dt f) s = .next { b with sentU := some (writeResponse f busy) })
      ∧ (∀ r, goodCheck (writeResponse f r) = true)
      ∧ busy.code = .busy ∧ busy.body.bytes = [])
    ∧ ∀ (s t : State) (dt : Nat) (f : Frame), goodCheck f = false → exec (.mailboxFrameReturn dt f) s = .next t →
        t.holder = s.holder ∧ t.sentU = some f

/-- The holder timer's expiry empties the holder, and the request stays executed; where the response is a SOFT_RESET's, the soft reset
takes effect (R16). An expiry that is not due changes nothing but the time (log 1). -/
def Obligations.HolderTimerEmptiesTheHolder : Prop :=
  ∀ (s : State) (dt : Nat) (h : Held), s.holder = some h →
    (h.timer.reached (s.advance dt).now = true → h.softReset = false →
      exec (.holderTimerExpiry dt) s = .next { s.advance dt with holder := none })
      ∧ (h.timer.reached (s.advance dt).now = true → h.softReset = true →
        exec (.holderTimerExpiry dt) s = .next { s.advance dt with holder := none }.softReset)
      ∧ (h.timer.reached (s.advance dt).now = false → exec (.holderTimerExpiry dt) s = .next (s.advance dt))

/-- The gap timer's expiry in UP moves the ring to GAP, stops the timer, counts GAPS, and leaves RING_GAP to be raised in exactly the
RUNNING and DIVERTED contexts with flow on a budget-enabled line or power on (R10, R11); where there is none, nothing else
changes. When the raises and what they bring about are done, the ring is in GAP, the timer stopped, and GAPS has counted once. -/
def Obligations.GapTimerEntersGap : Prop :=
  ∀ (s : State) (dt : Nat), s.ring = .up → timerDue s.gapTimer (s.advance dt).now = true →
    let a := s.advance dt
    exec (.gapTimerExpiry dt) s = .next a.enterGap.settle
      ∧ a.enterGap.ring = .gap ∧ a.enterGap.gapTimer = none ∧ a.enterGap.counter 52 = (({ s with ring := .gap }).count 52).counter 52
      ∧ (∀ c, (.raise c .ringGap ∈ a.enterGap.agenda ∧ .raise c .ringGap ∉ s.agenda →
          c < 6 ∧ (a.ctx c).active = true ∧ a.flowOn c = true))
      ∧ (∀ c, c < 6 → (a.ctx c).active = true → a.flowOn c = true → .raise c .ringGap ∈ a.enterGap.agenda)
      ∧ (s.agenda = [] → (∀ c, (a.ctx c).active = false ∨ a.flowOn c = false) →
          exec (.gapTimerExpiry dt) s = .next ({ a with ring := .gap, gapTimer := none }.count 52))
      ∧ (s.agenda = [] → s.sized = true →
          ∃ t, exec (.gapTimerExpiry dt) s = .next t ∧ t.ring = .gap ∧ t.gapTimer = none
            ∧ t.counter 52 = (s.counter 52).count ∧ t.agenda = [])

/-- The soft reset (R191, with R19, R38, R49, R73, R93, R118, R141, R155, R177 and R202): ring DOWN, reports, counters, requests, jobs,
waits, reservations and holders gone, while each line keeps its budget flag and capacity and each group its members; gates in FAULT,
nodes UNSEEN, samples stale. An enabled context whose six walks pass holds their paths and is IDLE on its idle step with its auto-park
timer started; one of which a walk fails is OFFLINE; an OFFLINE one stays so and holds no path; every marker is clear. Each use count
is the number of held paths that hold the record. Every setpoint record has start value 0, no force, SATURATED clear and no last raw
value, and is at 0 but for the points that the idle step of an IDLE owner sets, which run to their items' targets. The part time, the
records, the loader, the values in use, DEGRADED and the bad-check run stay as they stood. -/
def Obligations.SoftResetBringsThePartToRest : Prop :=
  ∀ s : State, s.sized = true →
    let t := s.softReset
    t.ring = .down ∧ t.gapTimer = none ∧ t.reports = [] ∧ t.lost = 0
      ∧ (∀ k ∈ t.counters, k.value = 0 ∧ k.overflow = false)
      ∧ t.waits = [] ∧ t.lines = s.lines.map (fun x => { x with reservations := [0, 0, 0, 0, 0, 0] })
      ∧ t.groups = s.groups.map (fun x => { x with holder := none })
      ∧ (∀ c, c < 6 → ((t.ctx c).state = .idle ∨ (t.ctx c).state = .offline)
          ∧ ((s.ctx c).state = .offline → (t.ctx c).state = .offline)
          ∧ (t.ctx c).flags = 0 ∧ (t.ctx c).isl = .none ∧ (t.ctx c).stack = [] ∧ (t.ctx c).job = none
          ∧ (t.ctx c).queue = [] ∧ (t.ctx c).step = none ∧ (t.ctx c).loops = [] ∧ (t.ctx c).masks = (s.ctx c).masks
          ∧ (t.ctx c).highs = (s.ctx c).highs ∧ (t.ctx c).cfg = (s.ctx c).cfg
          ∧ (t.ctx c).marker = false ∧ (t.ctx c).wakeDelay = none
          ∧ ((t.ctx c).state = .offline → (t.ctx c).paths = [] ∧ (t.ctx c).autoPark = none)
          ∧ ((t.ctx c).state = .idle → s.walkAll c (s.ctx c).cfg.starts = .ok (t.ctx c).paths
              ∧ (t.ctx c).cur = some (s.ctx c).cfg.idleStep ∧ (t.ctx c).lastRest = some (s.ctx c).cfg.idleStep
              ∧ (t.ctx c).autoPark = autoParkTimer s.now (s.ctx c).cfg)
          ∧ (∀ e, s.walkAll c (s.ctx c).cfg.starts = .error e → (t.ctx c).state = .offline)
          ∧ (∀ paths, (s.ctx c).state ≠ .offline → s.walkAll c (s.ctx c).cfg.starts = .ok paths → (t.ctx c).state = .idle))
      ∧ (∀ i, i < 2048 → t.useCount i = (t.ctxs.flatMap Ctx.heldPaths).countP fun path => path.contains i)
      ∧ (∀ p cfg r, s.point p = .set cfg r →
          (∀ c, c < 6 → cfg.owner = .ctx c → (t.ctx c).state = .idle →
            t.point p = .set cfg (match (s.restItems (s.ctx c).cfg.idleStep).find? fun i => i.point == p with
              | some i => { SetRec.fresh s.now with t := i.target, d := i.ramp * 1000 }
              | none => SetRec.fresh s.now))
            ∧ ((∀ c, c < 6 → cfg.owner = .ctx c → (t.ctx c).state ≠ .idle) → t.point p = .set cfg (SetRec.fresh s.now)))
      ∧ (∀ g x, s.gate g = some x →
          t.gate g = some { x with state := .fault, timer := none, last := none, tripRaised := false })
      ∧ (∀ n x, s.node n = some x →
          t.node n = some { x with age := 3, state := .unseen, conflict := false, lastSeen := none })
      ∧ (∀ p cfg st, s.point p = .sample cfg st →
          t.point p = .sample cfg { st with stale := true, baseline := none })
      ∧ t.now = s.now ∧ t.records = s.records ∧ t.loader = s.loader ∧ t.inUse = s.inUse ∧ t.degraded = s.degraded
      ∧ t.badRun = s.badRun

/-! ### Points, samples and nodes -/

/-- The ramp value lies between start and target, is the start at the ramp's start and the target from its end on; a retarget during a
ramp starts from the value reached (R24, R25). -/
def Obligations.RampsRunFromValueReached : Prop :=
  ∀ (r : SetRec) (now : Time),
    min r.s r.t ≤ r.rampValue now ∧ r.rampValue now ≤ max r.s r.t
      ∧ (0 < r.d → r.rampValue r.r = r.s)
      ∧ (r.d ≤ (now - r.r).toNat → r.rampValue now = r.t)
      ∧ (∀ t d, 0 < d → (r.retarget now t d).rampValue now = r.rampValue now)
      ∧ (∀ t now', (r.retarget now t 0).rampValue now' = t)

/-- A stamp's raw count never exceeds raw_full, clamps exactly when the scaled value does, rises with the value, and is raw_full at
eng_full where no gas factor applies (R26). The filter's next value lies between the filter and the collected value; a shift of 0, a
DIGITAL point and a stale sample take the collected value itself (R30). A clamping stamp of a context whose saturation marker is clear
sets the marker, counts once in SATURATIONS and leaves SATURATION to be raised in it; in any other context nothing of this is done
(R27), each context once for a frame (log 9). -/
def Obligations.ScalingStaysInRange : Prop :=
  (∀ (cfg : PointCfg) (v w : Nat), 0 < cfg.engFull → 0 < cfg.gas →
      (cfg.stampOf v).1 ≤ cfg.rawFull
        ∧ ((cfg.stampOf v).2 = true ↔ cfg.rawFull < cfg.rawOf v)
        ∧ (v ≤ w → (cfg.stampOf v).1 ≤ (cfg.stampOf w).1)
        ∧ (cfg.gas = 1000 → cfg.stampOf cfg.engFull = (cfg.rawFull, false)))
    ∧ (∀ (cfg : PointCfg) (st : Sample) (eng : Nat),
      min st.f eng ≤ st.filter cfg eng ∧ st.filter cfg eng ≤ max st.f eng
        ∧ (cfg.shift = 0 ∨ cfg.quantity = .digital ∨ st.stale = true → st.filter cfg eng = eng))
    ∧ ∀ (s : State) (clamped : List Nat), s.sized = true →
        let t := s.saturate clamped
        (∃ raised : List Nat, t.agenda = (raised.map fun c => .raise c .saturation) ++ s.agenda ∧ raised.Pairwise (· < ·)
            ∧ ∀ c, c ∈ raised ↔ c < 6 ∧ c ∈ clamped ∧ (s.ctx c).marker = false)
          ∧ (∀ c, c < 6 → c ∈ clamped → (s.ctx c).marker = false →
              t.ctx c = { s.ctx c with marker := true } ∧ t.counter (8 * c + 6) = (s.counter (8 * c + 6)).count)
          ∧ (∀ c, c < 6 → c ∉ clamped ∨ (s.ctx c).marker = true →
              t.ctx c = s.ctx c ∧ t.counter (8 * c + 6) = s.counter (8 * c + 6))

/-- A collection while the node is FRESH converts, filters and clears the stale flag; one while it is not keeps the values and sets the
flag, which removes the edge baseline (R28 to R31), and leaves a sample whose flag is set as it is: the model's reading, which has it
keep a baseline too, though no run reaches a stale sample with one (log 19, DEDUCED). No other point changes. A fresh bit of a DIGITAL
point that makes an edge of the selected sense against the baseline raises the point's source in its owner, or, for a SHARED point, in
every context that is not OFFLINE; no other collection raises anything (R31). -/
def Obligations.CollectionIsFreshOrStale : Prop :=
  ∀ (s : State) (p x : Nat) (cfg : PointCfg) (st : Sample), s.point p = .sample cfg st →
    (s.nodeFresh cfg.node = true →
      (s.collectPoint p x).point p =
        .sample cfg
          { x := x, eng := cfg.engOf x, f := st.filter cfg (cfg.engOf x), stale := false,
            overRange := decide (cfg.rawFull < x), lastFresh := s.now,
            baseline := if cfg.quantity = .digital then some (x != 0) else st.baseline })
      ∧ (s.nodeFresh cfg.node = false →
        (st.stale = false → (s.collectPoint p x).point p = .sample cfg { st with stale := true, baseline := none })
          ∧ (st.stale = true → (s.collectPoint p x).point p = .sample cfg st))
      ∧ (∀ q, q ≠ p → (s.collectPoint p x).point q = s.point q)
      ∧ (let rises := st.baseline = some false ∧ x ≠ 0 ∧ (cfg.edge = .rise ∨ cfg.edge = .both)
        let falls := st.baseline = some true ∧ x = 0 ∧ (cfg.edge = .fall ∨ cfg.edge = .both)
        let edge := s.nodeFresh cfg.node = true ∧ cfg.quantity = .digital ∧ (rises ∨ falls)
        let t := s.collectPoint p x
        (∀ src, edge → (cfg.source = .emergencyInput ∧ src = Source.emergencyInput)
              ∨ (cfg.source = .digitalInput ∧ src = Source.digitalInput) →
            (∀ c, cfg.owner = .ctx c → t.agenda = .raise c src :: s.agenda)
              ∧ (cfg.owner = .shared →
                t.agenda = ((contexts.filter fun c => (s.ctx c).state != .offline).map fun c => .raise c src) ++ s.agenda))
          ∧ (¬edge ∨ cfg.source = .none → t.agenda = s.agenda))

/-- A touch byte of 1 makes a node FRESH with age 0; any other ages it, counts a miss, latches CONFLICT where it is not 0, and makes a
FRESH node STALE at its stale_after (R44, R45). A node that becomes STALE makes every sample that names it stale, and no other
evaluation changes a point; the reports are RECOVERED of a STALE node seen, CONFLICT where it latches, and STALE after it (R46); that
each carries the node's fields as the evaluation leaves them is the model's reading (log 27). A required node that becomes STALE
leaves SAMPLE_STALE to be raised in its owner, or, SHARED, in every context, where these are in RUNNING or DIVERTED (R47). -/
def Obligations.TouchBytesMoveNodes : Prop :=
  ∀ (s : State) (n : Nat) (x : Node) (touch : Byte), s.sized = true → s.node n = some x →
    let age := min (x.age + 1) 3
    (touch = 1 →
      (s.evaluateNode n touch).node n = some { x with age := 0, state := .fresh, lastSeen := some s.now }
        ∧ (s.evaluateNode n touch).counters = s.counters)
      ∧ (touch ≠ 1 →
        (s.evaluateNode n touch).node n =
          some { x with age := age, conflict := x.conflict || touch != 0,
                        state := if x.state = .fresh ∧ x.cfg.staleAfter ≤ age then .stale else x.state }
          ∧ (s.evaluateNode n touch).counter (53 + n) = (s.counter (53 + n)).count)
      ∧ (∀ k, k ≠ n → (s.evaluateNode n touch).node k = s.node k)
      ∧ (let t := s.evaluateNode n touch
        let lost := touch ≠ 1 ∧ x.state = .fresh ∧ x.cfg.staleAfter ≤ age
        let record := fun (event : NodeEvent) (age : Nat) (seen : Option Time) =>
          ({ ctx := (match x.cfg.owner with
               | .ctx c => some c
               | .shared => none),
             step := none, time := s.now, tag := none, body := .node n event touch age seen } : Report)
        (lost → ∀ p, t.point p = match s.point p with
            | .sample cfg st =>
              if cfg.node = n then .sample cfg { st with stale := true, baseline := none } else .sample cfg st
            | q => q)
          ∧ (¬lost → t.points = s.points)
          ∧ (s.reports.length + 2 ≤ 64 →
              (touch = 1 → x.state = .stale → t.reports = s.reports ++ [record .recovered 0 (some s.now)])
                ∧ (touch = 1 → x.state ≠ .stale → t.reports = s.reports)
                ∧ (touch ≠ 1 →
                    t.reports = s.reports
                      ++ (if touch ≠ 0 ∧ x.conflict = false then [record .conflict age x.lastSeen] else [])
                      ++ (if x.state = .fresh ∧ x.cfg.staleAfter ≤ age then [record .stale age x.lastSeen] else [])))
          ∧ (lost → x.cfg.required = true → ∀ c, x.cfg.owner = .ctx c →
              t.agenda = if (s.ctx c).active = true then .raise c .sampleStale :: s.agenda else s.agenda)
          ∧ (lost → x.cfg.required = true → x.cfg.owner = .shared →
              t.agenda = (([0, 1, 2, 3, 4, 5].filter fun c => (s.ctx c).active).map fun c => Task.raise c .sampleStale) ++ s.agenda)
          ∧ (¬lost ∨ x.cfg.required = false → t.agenda = s.agenda))

/-- A write of a point entry has the effect of R23's table on the entry, and leaves every other entry. The last fresh time of a new
sample is a free value: the statement holds whatever it is (log 4). A request that carries entries is refused for the first of them
that fails a check, a repeated index being the first check (R21); an entry of WRITE_POINTS is then checked for its index, for the
ranges of its fields, and for its use (R22, and R153's two cases; a BAND item names its reference only in RELATIVE mode, log 23). The
check positions are those of log 14. RELEASE_POINT is refused for an index past the table and for an EMPTY entry (R34). -/
def Obligations.PointWritesFollowTheTable : Prop :=
  (∀ (s : State) (e : PointWrite), e.index < s.points.length →
    (e.content = none → (s.writePoint e).point e.index = .empty)
      ∧ (∀ f old r, e.content = some f → f.direction = some .set → s.point e.index = .set old r → old.owner = f.owner →
          f.quantity = some old.quantity →
          (s.writePoint e).point e.index =
            .set (pointCfgOf f) { r with forced := none, saturated := false, lastRaw := none })
      ∧ (∀ f, e.content = some f → f.direction = some .set →
          (∀ old r, s.point e.index = .set old r → old.owner ≠ f.owner ∨ f.quantity.getD .signal ≠ old.quantity) →
          (s.writePoint e).point e.index =
            .set (pointCfgOf f) { s := 0, t := 0, r := s.now, d := 0, forced := none, saturated := false, lastRaw := none })
      ∧ (∀ f, e.content = some f → f.direction = some .sample →
          ∃ time, (s.writePoint e).point e.index =
            .sample (pointCfgOf f)
              { x := 0, eng := 0, f := 0, stale := true, overRange := false, lastFresh := time, baseline := none })
      ∧ ∀ q, q ≠ e.index → (s.writePoint e).point q = s.point q)
    ∧ (∀ (index : PointWrite → Nat) (check : PointWrite → Option Response) (before after : List PointWrite) (e : PointWrite),
      (before.map index).Nodup → (∀ x ∈ before, check x = none) →
        (index e ∈ before.map index →
            checkEntries index check [] (before ++ e :: after) = some (refusal .badRequest (some (index e)) none))
          ∧ (∀ r, index e ∉ before.map index → check e = some r → checkEntries index check [] (before ++ e :: after) = some r)
          ∧ checkEntries index check [] before = none)
    ∧ (∀ (s : State) (e : PointWrite),
      (512 ≤ e.index → s.checkPoint e = some (refusal .outOfRange (some e.index) none))
        ∧ (∀ f k, e.index < 512 → e.content = some f → firstFailing (pointChecks f) = some k →
            s.checkPoint e = some (refusal .outOfRange (some e.index) (some k)))
        ∧ (e.index < 512 → (∀ f, e.content = some f → firstFailing (pointChecks f) = none) →
            s.checkPoint e =
              if s.pointInUse e.index (entryOf e) = true then some (refusal .inUse (some e.index) none) else none))
    ∧ (∀ (s : State) (p : Nat) (new : Option (Direction × PointCfg)),
      let old := s.pointEntry p
      let kindChanged := new = none ∨ entryKind new ≠ entryKind old
      let useChanged := kindChanged ∨ new.map (·.2.owner) ≠ old.map (·.2.owner)
        ∨ new.map (·.2.line.isSome) ≠ old.map (·.2.line.isSome)
      (s.pointInUse p new = true ↔
        (∃ x, (old = some x ∨ new = some x) ∧ s.ownerBusy x.2.owner = true)
          ∨ (kindChanged ∧ ((∃ g x, s.gate g = some x ∧ (x.cfg.openOut = p ∨ x.cfg.openSw = p ∨ x.cfg.closedSw = p))
              ∨ ∃ x ∈ s.ctxs, x.cfg.pressure = some p ∨ x.cfg.plasma = some p))
          ∨ (useChanged ∧ ∃ i, 0 < s.useCount i ∧ ∃ item ∈ (s.record i).items, item.names p = true)
          ∨ (∃ g x, s.gate g = some x ∧ (x.cfg.openOut = p ∨ x.cfg.openSw = p ∨ x.cfg.closedSw = p)
              ∧ (x.state ≠ .closed ∨ (x.cfg.openOut = p ∧ outputFits x.cfg.owner new = false)
                ∨ ((x.cfg.openSw = p ∨ x.cfg.closedSw = p) ∧ switchFits x.cfg.owner new = false)))
          ∨ ∃ was r cfg, s.point p = .set was r ∧ new = some (.set, cfg) ∧ was.owner = cfg.owner
              ∧ was.quantity = cfg.quantity ∧ cfg.quantity = .flow ∧ cfg.line ≠ none
              ∧ (0 < r.t ∨ 0 < r.currentValue s.now)
              ∧ ∃ g x, s.gate g = some x ∧ (cfg.owner = .ctx x.cfg.owner ∨ cfg.owner = .ctx x.cfg.partner)
                  ∧ x.state ≠ .closed)
        ∧ (∀ c, s.ownerBusy (.ctx c) = true ↔
            (s.ctx c).state = .running ∨ (s.ctx c).state = .diverted ∨ (s.ctx c).state = .waking)
        ∧ (s.ownerBusy .shared = true ↔ ∃ x ∈ s.ctxs, x.state = .running ∨ x.state = .diverted ∨ x.state = .waking))
    ∧ ∀ (s : State) (dt : Nat) (m : Mailbox) (p : Nat), s.executes m 20 = true →
        let answer := fun r => Host.Outcome.next ((s.arrived dt).answered m r)
        (512 ≤ p → exec (.releasePoint dt m p) s = answer (refusal .outOfRange (some p) none))
          ∧ (p < 512 → s.point p = .empty → exec (.releasePoint dt m p) s = answer (refusal .notFound (some p) none))

/-- A write of a node entry defines it UNSEEN with age 3, or undefines it, and makes every sample that names it stale; every other
entry of both tables stays (R41). An entry of WRITE_NODES is checked for its index, for the ranges of its fields, and for its use by a
context in RUNNING, DIVERTED or WAKING (R40); `required` has no value out of range (log 2). -/
def Obligations.NodeWritesMakeSamplesStale : Prop :=
  (∀ (s : State) (e : NodeWrite), e.index < s.nodes.length →
    (s.writeNode e).node e.index =
        e.content.map (fun f => { cfg := f, age := 3, state := .unseen, conflict := false, lastSeen := none })
      ∧ (∀ n, n ≠ e.index → (s.writeNode e).node n = s.node n)
      ∧ ∀ p, (s.writeNode e).point p =
          match s.point p with
          | .sample cfg st =>
            if cfg.node = e.index then .sample cfg { st with stale := true, baseline := none } else .sample cfg st
          | q => q)
    ∧ ∀ (s : State) (e : NodeWrite),
        let used := (∃ x, s.node e.index = some x ∧ s.ownerBusy x.cfg.owner = true)
          ∨ (∃ f, e.content = some f ∧ s.ownerBusy f.owner = true)
          ∨ ∃ p d cfg, s.pointEntry p = some (d, cfg) ∧ cfg.node = e.index ∧ s.ownerBusy cfg.owner = true
        let listed := e.index < 64 ∧ ∀ f, e.content = some f → firstFailing (nodeChecks f) = none
        (64 ≤ e.index → s.checkNode e = some (refusal .outOfRange (some e.index) none))
          ∧ (∀ f k, e.index < 64 → e.content = some f → firstFailing (nodeChecks f) = some k →
              s.checkNode e = some (refusal .outOfRange (some e.index) (some k)))
          ∧ (listed → used → s.checkNode e = some (refusal .inUse (some e.index) none))
          ∧ (listed → ¬used → s.checkNode e = none)

/-- The ramp end settles the record: s becomes t and D becomes 0, and the ramp value is t before and after (R25). In a quiet part
nothing else changes, and a ramp end that is not due lets time pass (log 1). -/
def Obligations.RampEndSettlesTheRecord : Prop :=
  ∀ (s : State) (dt p : Nat) (cfg : PointCfg) (r : SetRec), s.quiet = true → s.point p = .set cfg r →
    let a := s.advance dt
    (0 < r.d → r.d ≤ (a.now - r.r).toNat →
      exec (.rampEnd dt p) s = .next (a.setPoint p (.set cfg { r with s := r.t, d := 0 }))
        ∧ r.rampValue a.now = r.t ∧ ∀ now, ({ r with s := r.t, d := 0 } : SetRec).rampValue now = r.t)
      ∧ (r.d = 0 ∨ (a.now - r.r).toNat < r.d → exec (.rampEnd dt p) s = .next a)

/-! ### Steps -/

/-- The expiry of a TIME condition's timer sets its met flag (R98); where the end mode is not met the step goes on and nothing else
changes, and where it is met the step's end is taken next (R101, R115). The end mode ANY is met by one set flag, and ALL by every flag
set; the reason is the lowest condition whose flag the evaluation set, or, where it set none, the lowest set (R101; in ALL mode the
latter is the model's reading, log 13). An INPUT condition follows the bit of each collection of its point (R100). At a collection
notification in a phase after ADMIT the pressure extremes, the strike state, the bands and the conditions are evaluated; the step's
end, where the end mode is met, comes before the raises of lost plasma and of bands (R102). -/
def Obligations.TimeExpiryMeetsItsCondition : Prop :=
  (∀ (s : State) (dt c i : Nat) (st : StepState) (k : Cond), c < s.ctxs.length →
    ((s.advance dt).ctx c).step = some st → st.conds[i]? = some k → timerDue k.timer (s.advance dt).now = true →
    let a := s.advance dt
    let new := st.conds.set i { k with met := true, timer := none }
    let b := a.setCtx c { a.ctx c with step := some { st with conds := new } }
    (s.agenda = [] → endReason st.step.head.endAll st.conds new = none → exec (.timeExpiry dt c i) s = .next b)
      ∧ ∀ r, endReason st.step.head.endAll st.conds new = some r →
          exec (.timeExpiry dt c i) s = .next (b.push [.stepEnd c (.condition r)]).settle)
    ∧ (∀ (all : Bool) (old new : List Cond), old.length = new.length →
      let ends := new ≠ [] ∧ if all = true then ∀ k ∈ new, k.met = true else ∃ k ∈ new, k.met = true
      let sets := fun j : Nat => ∃ o k : Cond, old[j]? = some o ∧ new[j]? = some k ∧ o.met = false ∧ k.met = true
      (endReason all old new = none ↔ ¬ends)
        ∧ (∀ r, ends → sets r → (∀ j, j < r → ¬sets j) → endReason all old new = some r)
        ∧ ∀ r k, ends → (∀ j, ¬sets j) → new[r]? = some k → k.met = true →
            (∀ j k', j < r → new[j]? = some k' → k'.met = false) → endReason all old new = some r)
    ∧ (∀ (s : State) (image len p : Nat) (b : Bool) (k : Cond), k.item = .input p b →
      (∀ fresh, s.collected image len p = some fresh →
        ∃ met, s.evalCond image len k = { k with met := met } ∧ (met = true ↔ fresh = true ∧ (s.fOf p = 1 ↔ b = true)))
        ∧ (s.collected image len p = none → s.evalCond image len k = k))
    ∧ ∀ (s : State) (c image len : Nat), c < s.ctxs.length →
        let t := s.notifyCtx c image len
        let x := s.ctx c
        (x.step = none ∨ x.active = false → t = s)
          ∧ (∀ st, x.step = some st → st.phase = .waiting → t = s)
          ∧ ∀ st, x.step = some st → x.active = true → st.phase ≠ .waiting →
              let plasma := s.evalPlasma x.cfg image len (s.seePressure x.cfg image len st)
              let bands := st.bands.map (s.evalBand image len st.elapsed)
              let conds := st.conds.map (s.evalCond image len)
              let raises := (if plasma.2 = true then [Source.plasmaLost] else []) ++ firedSources st.bands bands
              let touched := ∃ k ∈ st.conds, ∃ p fresh, k.item.point = some p ∧ s.collected image len p = some fresh
              (t.ctx c).step = some { plasma.1 with bands := bands, conds := conds } ∧ (∀ d, d ≠ c → t.ctx d = s.ctx d)
                ∧ (∀ r, touched → endReason st.step.head.endAll st.conds conds = some r →
                    t.agenda = .stepEnd c (.condition r) :: (raises.map fun src => .raise c src) ++ s.agenda)
                ∧ (¬touched ∨ endReason st.step.head.endAll st.conds conds = none →
                    t.agenda = (raises.map fun src => .raise c src) ++ s.agenda)

/-- A step's normal end counts STEPS_DONE, reports where it is asked to, and takes up the step that its next field names (R115); the
setpoint records stay. A JOB_END ends the running job COMPLETED: its JOB_END report, its path released, JOBS_DONE counted (R86, R114);
and makes idle entry: the idle step's items retargeted, every other FLOW and POWER point of the context at 0, reservations and group
released, and then the oldest queued job started, or the auto-park timer (R79). That a scan of idle entry, where one is triggered, is run
before the queued job is started is the model's choice (log 12, DESIGN CHOICE). -/
def Obligations.StepEndTakesUpTheSuccessor : Prop :=
  (∀ (s : State) (c : Nat) (st : StepState) (reason : EndReason), s.sized = true → c < 6 → (s.ctx c).step = some st →
    let t := s.endStep c reason
    t.agenda = .takeUp c (st.step.head.next.target st.step.after) 0 :: s.agenda
      ∧ t.counter (8 * c) = (s.counter (8 * c)).count ∧ (t.ctx c).step = none ∧ t.points = s.points
      ∧ t.lines = s.lines ∧ t.groups = s.groups ∧ t.waits = s.waits
      ∧ ((s.ctx c).reportsStep st = false → t.reports = s.reports)
      ∧ ((s.ctx c).reportsStep st = true → s.reports.length < 64 →
          t.reports = s.reports ++
            [{ ctx := some c, step := (s.ctx c).cur, time := s.now, tag := (s.ctx c).jobTag,
               body := .stepEnd reason st.strike (st.bands.map (·.fired)) st.elapsed st.admitWait st.pressure }])
      ∧ ∀ d, d ≠ c → t.ctx d = s.ctx d)
    ∧ (∀ (s : State) (c : Nat) (j : RunningJob), s.sized = true → c < 6 → (s.ctx c).job = some j →
      let t := s.jobEndStep c
      (t.ctx c).state = .idle ∧ (t.ctx c).job = none ∧ (t.ctx c).queue = (s.ctx c).queue ∧ (t.ctx c).step = none
        ∧ (t.ctx c).loops = [] ∧ (t.ctx c).cur = some (s.ctx c).cfg.idleStep ∧ (t.ctx c).marker = false
        ∧ t.holdsPlant c = false ∧ t.useCounts = releasePath s.useCounts j.job.path
        ∧ t.counter (8 * c + 1) = (s.counter (8 * c + 1)).count
        ∧ (s.reports.length < 64 →
            t.reports = s.reports ++
              [{ ctx := some c, step := (s.ctx c).cur, time := s.now, tag := some j.job.tag,
                 body := .jobEnd .completed j.job.priority j.job.start j.runTime }])
        ∧ t.points = (s.applyRest c (s.ctx c).cfg.idleStep).points
        ∧ (t.agenda = .restStart c :: s.agenda ∨ t.agenda = .trigger :: .restStart c :: s.agenda)
        ∧ ∀ d, d ≠ c → t.ctx d = s.ctx d)
    ∧ (∀ (s : State) (c : Nat), c < s.ctxs.length → (s.ctx c).state = .idle →
      ((s.ctx c).queue = [] →
          ((s.ctx c).cfg.autoPark = 0 → s.restStart c = s.setCtx c { s.ctx c with autoPark := none })
            ∧ ((s.ctx c).cfg.autoPark ≠ 0 → s.restStart c = s.setCtx c
                { s.ctx c with autoPark := some { start := s.now, dur := (s.ctx c).cfg.autoPark * 1000000 } }))
        ∧ ((s.ctx c).queue ≠ [] → s.restStart c = s.startJob c))
    ∧ ∀ (s : State) (c h p : Nat) (cfg : PointCfg) (r : SetRec), s.point p = .set cfg r →
        (∀ before i after, s.restItems h = before ++ i :: after → i.point = p →
            (∀ k ∈ before ++ after, k.point ≠ p) →
            (s.applyRest c h).point p = .set cfg (r.retarget s.now i.target (i.ramp * 1000)))
          ∧ ((∀ k ∈ s.restItems h, k.point ≠ p) →
              (s.applyRest c h).point p =
                .set cfg (if cfg.owner = .ctx c ∧ (cfg.quantity = .flow ∨ cfg.quantity = .power) then r.retarget s.now 0 0
                  else r))

/-- At a step's ramp completion RAMP becomes HOLD (R97), and the context's reservation on each budget-enabled line becomes the smaller of
itself and the step's demand: R132 sets it to the demand, which it is not below once the step has been admitted, so the smaller is the
model's reading of that rule (log 20, DEDUCED). In a quiet part nothing else changes. -/
def Obligations.RampCompletionLowersReservations : Prop :=
  ∀ (s : State) (dt c : Nat) (st : StepState), s.quiet = true → c < s.ctxs.length →
    ((s.advance dt).ctx c).step = some st → timerDue st.rampEnd (s.advance dt).now = true →
    let a := s.advance dt
    ∃ t, exec (.rampCompletion dt c) s = .next t
      ∧ (t.ctx c) = { a.ctx c with
          step := some { st with rampEnd := none, phase := if st.phase = .ramp then .hold else st.phase } }
      ∧ (∀ (l : Nat) (x : Supply), s.lines[l]? = some x →
          t.lines[l]? = some (if x.budget = true then
            { x with reservations := x.reservations.set c (min (x.reserved c) (st.demandOn l)) } else x))
      ∧ t = { a with ctxs := t.ctxs, lines := t.lines } ∧ ∀ d, d ≠ c → t.ctx d = a.ctx d

/-- The expiry of a step's max time, of its strike window and of an entry's admit timeout raise STEP_TIMEOUT, STRIKE_FAIL and
ADMIT_TIMEOUT (R103, R106, R138). Where no request is then taken, the flag and its report are all that the raise leaves, and the step
or the entry stands. At a collection: a band's limits are those of its admission (R104), and it fires where a fresh sample has stayed
out of them for its persist time, and its source is then raised (R105); a fresh sample of the plasma point at the strike threshold
strikes an UNSTRUCK step, and one below the lost threshold raises PLASMA_LOST once in a STRUCK one (R106, R107); a fresh sample of the
pressure point widens the extremes (R102). -/
def Obligations.StepTimersRaiseRequests : Prop :=
  (∀ (s : State) (dt c : Nat), s.agenda = [] →
    let a := s.advance dt
    (∀ st, (a.ctx c).step = some st → timerDue st.maxTimer a.now = true →
      let b := a.modStep c fun st => { st with maxTimer := none, timeoutRaised := true }
      (b.raiseFlag c .stepTimeout).toTake c = none →
        exec (.maxTimeExpiry dt c) s = .next (b.raiseFlag c .stepTimeout))
      ∧ (∀ st, (a.ctx c).step = some st → timerDue st.strikeTimer a.now = true → st.strike = .unstruck →
        let b := a.modStep c fun st => { st with strikeTimer := none, strike := .failed }
        (b.raiseFlag c .strikeFail).toTake c = none →
          exec (.strikeWindowExpiry dt c) s = .next (b.raiseFlag c .strikeFail))
      ∧ ∀ e, (a.waits.find? fun e => e.ctx == c) = some e → timerDue e.timer a.now = true →
        let b := { a with waits := a.waits.map fun (e : WaitEntry) =>
          if e.ctx = c then { e with timer := none, raised := true } else e }
        (b.raiseFlag c .admitTimeout).toTake c = none →
          exec (.admitTimeoutExpiry dt c) s = .next (b.raiseFlag c .admitTimeout))
    ∧ (∀ (sets : List SetItem) (i : BandItem),
      let b := bandAt sets i
      b.item = i ∧ b.outStart = none ∧ b.fired = false
        ∧ (i.mode = .absolute → b.low = max 0 i.low ∧ b.high = i.high)
        ∧ ∀ x, i.mode = .relative → (sets.find? fun x => x.point == i.reference) = some x →
            b.low = max 0 ((x.target : Int) + i.low) ∧ b.high = (x.target : Int) + i.high)
    ∧ (∀ (s : State) (image len elapsed : Nat) (b : Band),
      let f : Int := s.fOf b.item.point
      let u := s.evalBand image len elapsed b
      (s.collected image len b.item.point = none ∨ b.fired = true ∨ elapsed < b.item.settle * 1000 → u = b)
        ∧ ∀ fresh, s.collected image len b.item.point = some fresh → b.fired = false → b.item.settle * 1000 ≤ elapsed →
            (fresh = false ∨ (b.low ≤ f ∧ f ≤ b.high) → u = { b with outStart := none })
              ∧ (fresh = true → f < b.low ∨ b.high < f →
                  u.outStart = some (b.outStart.getD s.now) ∧ u.item = b.item ∧ u.low = b.low ∧ u.high = b.high
                    ∧ (u.fired = true ↔ b.item.persist * 1000 ≤ (s.now - b.outStart.getD s.now).toNat)))
    ∧ (∀ (old new : List Band) (src : Source), src ∈ firedSources old new ↔
      ∃ (j : Nat) (o k : Band), old[j]? = some o ∧ new[j]? = some k ∧ o.fired = false ∧ k.fired = true
        ∧ src = match k.item.source with
          | .pressure => .pressureBand
          | .flow => .flowBand
          | .rf => .rfBand)
    ∧ (∀ (s : State) (cfg : CtxCfg) (image len : Nat) (st : StepState),
      let e := s.evalPlasma cfg image len st
      (∀ p, cfg.plasma = some p → s.collectedFresh image len p = true →
        (st.strike = .unstruck → cfg.strike ≤ s.fOf p → e = ({ st with strike := .struck, strikeTimer := none }, false))
          ∧ (st.strike = .unstruck → s.fOf p < cfg.strike → e = (st, false))
          ∧ (st.strike = .struck → s.fOf p < cfg.lost → st.lostRaised = false → e = ({ st with lostRaised := true }, true))
          ∧ (st.strike = .struck → cfg.lost ≤ s.fOf p ∨ st.lostRaised = true → e = (st, false))
          ∧ (st.strike = .failed ∨ st.strike = .notPlasma → e = (st, false)))
        ∧ ((∀ p, cfg.plasma = some p → s.collectedFresh image len p = false) → e = (st, false)))
    ∧ ∀ (s : State) (cfg : CtxCfg) (image len : Nat) (st : StepState),
        let u := s.seePressure cfg image len st
        (∀ p, cfg.pressure = some p → s.collectedFresh image len p = true →
          (st.pressure = none → u = { st with pressure := some (s.fOf p, s.fOf p) })
            ∧ ∀ lo hi, st.pressure = some (lo, hi) → u = { st with pressure := some (min lo (s.fOf p), max hi (s.fOf p)) })
          ∧ ((∀ p, cfg.pressure = some p → s.collectedFresh image len p = false) → u = st)

/-- At the settle expiry an ROR step takes its first reading and starts its measure time (R108). At the measure expiry it reports its
result, ends with reason NONE, and raises LEAK_RATE afterwards unless the result is PASS (R110). P1 is the pressure point's f and the
span the time from t0 to its last fresh collection; the result is INVALID exactly where the first reading was, the sample is stale, or
the span is 0 or reaches back before t0; a valid result is PASS exactly where the truncated rate is at most the limit (R109). In a
context without a pressure point what is read is free, and the result is INVALID (log 11). -/
def Obligations.RorStepsReadTwiceAndJudge : Prop :=
  (∀ (s : State) (dt c : Nat) (st : StepState) (p : Nat) (cfg : PointCfg) (x : Sample), c < s.ctxs.length →
      ((s.advance dt).ctx c).step = some st → st.phase = .settle → timerDue st.rorTimer (s.advance dt).now = true →
      (s.ctx c).cfg.pressure = some p → s.point p = .sample cfg x →
      let a := s.advance dt
      exec (.settleExpiry dt c) s =
        .next (a.setCtx c { a.ctx c with step := some { st with
          p0 := x.f, t0 := x.lastFresh,
          valid0 := !x.stale && decide ((x.lastFresh - st.admission.getD 0).toNat ≤ st.elapsed),
          settleAt := a.now, phase := .measure,
          rorTimer := some { start := a.now, dur := st.step.head.rorMeasure * 1000 } } }))
    ∧ (∀ (s : State) (dt c : Nat) (st : StepState), c < s.ctxs.length → ((s.advance dt).ctx c).step = some st →
      st.phase = .settle → timerDue st.rorTimer (s.advance dt).now = true → s.pressureSample (s.ctx c).cfg.pressure = none →
      let a := s.advance dt
      exec (.settleExpiry dt c) s =
        .next { a.setCtx c { a.ctx c with step := some { st with
          p0 := (Config.noPressure s.free).toNat, t0 := Config.noFreshTime s.free, valid0 := false, settleAt := a.now,
          phase := .measure, rorTimer := some { start := a.now, dur := st.step.head.rorMeasure * 1000 } } } with
          free := s.free + 1 })
    ∧ (∀ (s : State) (dt c : Nat) (st : StepState), ((s.advance dt).ctx c).step = some st → st.phase = .measure →
      timerDue st.rorTimer (s.advance dt).now = true →
      let a := s.advance dt
      let o := a.rorOutcome (a.ctx c).cfg.pressure st
      exec (.measureExpiry dt c) s =
          .next (((a.report (some c) (a.ctx c).cur (a.ctx c).jobTag
            (.rorResult o.1 st.p0 o.2.1 o.2.2.1 o.2.2.2)).afterReading (a.ctx c).cfg.pressure).push
              (.stepEnd c .none :: if o.1 = .pass then [] else [.raise c .leakRate])).settle
        ∧ (o.1 = .pass → o.2.2.2 = min ((o.2.1 - st.p0) * 60000000 / o.2.2.1) 4294967295
            ∧ o.2.2.2 ≤ st.step.head.rorLimit)
        ∧ (o.1 = .fail → o.2.2.2 = min ((o.2.1 - st.p0) * 60000000 / o.2.2.1) 4294967295
            ∧ st.step.head.rorLimit < o.2.2.2)
        ∧ (o.1 = .invalid → o.2.2.2 = 0)
        ∧ (a.pressureSample (a.ctx c).cfg.pressure = none → o.1 = .invalid)
        ∧ ∀ p cfg x, (s.ctx c).cfg.pressure = some p → s.point p = .sample cfg x →
            let span := (x.lastFresh - st.t0).toNat
            o.2.1 = x.f ∧ o.2.2.1 = span
              ∧ (o.1 = .invalid ↔ st.valid0 = false ∨ x.stale = true ∨ span = 0
                  ∨ (a.now - st.settleAt).toNat + (st.settleAt - st.t0).toNat < span))

/-- A BELOW condition at a fresh collection of its point is met where f has stayed at or below its value for its hold time; above it,
or at a stale collection, the met flag and the hold start are cleared (R99). ABOVE is the mirror. -/
def Obligations.ThresholdsHoldTheirTime : Prop :=
  ∀ (s : State) (image len p v h : Nat) (k : Cond),
    (∀ fresh, s.collected image len p = some fresh → k.item = .below p v h →
      ((fresh = true ∧ s.fOf p ≤ v) → (s.evalCond image len k).holdStart = some (k.holdStart.getD s.now)
          ∧ ((s.evalCond image len k).met = true ↔
              k.met = true ∨ h * 1000 ≤ (s.now - k.holdStart.getD s.now).toNat))
        ∧ (¬(fresh = true ∧ s.fOf p ≤ v) →
            (s.evalCond image len k).met = false ∧ (s.evalCond image len k).holdStart = none))
      ∧ (∀ fresh, s.collected image len p = some fresh → k.item = .above p v h →
        ((fresh = true ∧ v ≤ s.fOf p) → (s.evalCond image len k).holdStart = some (k.holdStart.getD s.now)
            ∧ ((s.evalCond image len k).met = true ↔
                k.met = true ∨ h * 1000 ≤ (s.now - k.holdStart.getD s.now).toNat))
          ∧ (¬(fresh = true ∧ v ≤ s.fOf p) →
              (s.evalCond image len k).met = false ∧ (s.evalCond image len k).holdStart = none))
      ∧ (s.collected image len p = none → k.item = .below p v h ∨ k.item = .above p v h → s.evalCond image len k = k)

/-- A timed step taken up enters ADMIT with the prospective targets and the demand of R95, and is presented (R94). Its admission (R130, R96)
removes its entry from the wait list; raises each budget-enabled line's reservation to the larger of itself and the demand, and lowers
it to the demand at once where all ramps are 0 (R97, R132); holds the group it claims and releases any other; clears the saturation
marker; and, for a PROCESS, PUMP or ROR step, retargets each SET item's point, and with ZERO_OTHERS the context's other FLOW and POWER
points to 0. A GATE step moves no point. It starts timers, conditions, bands, strike state and phase by R96, R97, R98, R103, R104, R106
and R108; a step without END item ends at admission, and one whose TIME conditions are due is evaluated then (R98, R101). At EMERGENCY
level it is admitted untested, and raises and releases nothing (R131); else it is admitted at once exactly where its needs are met and
no entry ahead of its place blocks it (R129), and otherwise enters the wait list at that place, with its admit timeout, ADMIT_WAITS
counted and a scan triggered (R134, R136, R138). Its needs are those of R125 to R128; a waiting step blocks it with an unmet need on a
line or group that it contests (R124, R129). A scan takes the next entry behind those left waiting, admits it where its needs are met
and none of those blocks it, else leaves it waiting; at the list's end it ends, or runs again where it met a trigger (R135). The model's
own: that a reservation falls to the lesser of itself and the demand (log 20, DEDUCED); that the scan of an admission comes behind a
gate's motion and before the end at admission, and when points come to zero in it, and that an entry made in a scan's run behind those
left waiting is tested in that run (log 12, DESIGN CHOICE); that the place is behind all of the step's class and priority, no times
compared (log 24, DEDUCED); that an earlier entry of the context gives way, in no state reached (log 31, DEDUCED). -/
def Obligations.AdmissionRaisesReservations : Prop :=
  (∀ (s : State) (c h credit : Nat) (st : Step), s.sized = true → c < 6 → (s.ctx c).active = true →
    stepAt s.records h = some st → st.head.kind.timed = true →
    let moves := st.head.kind.gate = false
    ∃ a : StepState,
      s.takeUp c h credit = (s.setCtx c { s.ctx c with cur := some h, step := some a }).present c a
        ∧ a.step = st ∧ a.phase = .waiting ∧ a.admitEntry = s.now ∧ a.admitWait = 0 ∧ a.admission = none ∧ a.credit = credit
        ∧ a.conds = [] ∧ a.bands = [] ∧ a.rampEnd = none ∧ a.maxTimer = none ∧ a.strikeTimer = none ∧ a.rorTimer = none
        ∧ (a.targets.map (·.1)).Pairwise (· < ·)
        ∧ (∀ p v, (p, v) ∈ a.targets ↔ ∃ cfg r, s.point p = .set cfg r ∧ cfg.owner = .ctx c
            ∧ ((moves ∧ ∃ i, (st.sets.find? fun i => i.point == p) = some i ∧ v = i.target)
              ∨ (¬(moves ∧ ∃ k ∈ st.sets, k.point = p)
                ∧ v = if moves ∧ st.head.zeroOthers = true ∧ (cfg.quantity = .flow ∨ cfg.quantity = .power) then 0 else r.t)))
        ∧ (∀ l, l < 12 → a.demandOn l = ((a.targets.filter fun t => s.onLine l t.1).map (·.2)).sum)
        ∧ ∀ l p, s.onLine l p = true ↔ ∃ cfg r, s.point p = .set cfg r ∧ cfg.quantity = .flow ∧ cfg.line = some l)
    ∧ (∀ (s : State) (c : Nat) (st : StepState) (emergency : Bool), s.sized = true → c < 6 → (s.ctx c).step = some st →
      let hd := st.step.head
      let sets := st.step.sets
      let moves := hd.kind.gate = false
      let ramped := moves ∧ st.step.longestRamp = 0
      let t := s.admitStep c st emergency
      (∀ (l : Nat) (x : Supply), s.lines[l]? = some x →
          let raised := if emergency = true then x.reserved c else max (x.reserved c) (st.demandOn l)
          t.lines[l]? = some (if x.budget = true then
            { x with reservations := x.reservations.set c (if ramped then min raised (st.demandOn l) else raised) } else x))
        ∧ (∀ (g : Nat) (x : Roughing), s.groups[g]? = some x →
            t.groups[g]? = some (if emergency = true then x else if st.claim = some g then { x with holder := some c }
              else if x.holder = some c then { x with holder := none } else x))
        ∧ t.waits = s.waits.filter (fun e => e.ctx != c)
        ∧ t.ctx c = { s.ctx c with step := some (st.admitted s.now), marker := false }
        ∧ (¬moves → t.points = s.points)
        ∧ (moves →
            (∀ p, (∀ cfg r, s.point p ≠ .set cfg r) → t.point p = s.point p)
              ∧ ∀ p cfg r, s.point p = .set cfg r →
                (∀ before i after, sets = before ++ i :: after → i.point = p → (∀ k ∈ before ++ after, k.point ≠ p) →
                    t.point p = .set cfg (r.retarget s.now i.target (i.ramp * 1000)))
                  ∧ ((∀ k ∈ sets, k.point ≠ p) →
                    t.point p = .set cfg
                      (if hd.zeroOthers = true ∧ cfg.owner = .ctx c ∧ (cfg.quantity = .flow ∨ cfg.quantity = .power) then
                        r.retarget s.now 0 0 else r)))
        ∧ (∃ scan : Bool,
            t.agenda = (match hd.gate with
                | some g => if hd.kind.gate then [.gateStart c g (hd.kind == .gateOpen)] else []
                | none => [])
              ++ (if scan then [.trigger] else []) ++ (if hd.kind.conditioned then [.admitEnd c] else []) ++ s.agenda
            ∧ (scan = true ↔ (∃ e ∈ s.waits, e.ctx = c)
                ∨ (emergency = false ∧ ∃ g, (s.group g).holder = some c ∧ st.claim ≠ some g)
                ∨ (ramped ∧ ∃ l, l < 12 ∧ (s.line l).budget = true ∧ st.demandOn l < (s.line l).reserved c)
                ∨ (moves ∧ s.bringsZero c sets hd.zeroOthers = true)))
        ∧ (∀ d, d ≠ c → t.ctx d = s.ctx d)
        ∧ t = { s with points := t.points, ctxs := t.ctxs, lines := t.lines, groups := t.groups, waits := t.waits,
                       agenda := t.agenda })
    ∧ (∀ (st : StepState) (now : Time),
      let hd := st.step.head
      let sets := st.step.sets
      let longest := st.step.longestRamp
      let ms : Nat → Option Timer := fun n => if n = 0 then none else some { start := now, dur := n * 1000 }
      let watched := hd.kind = .process ∨ hd.kind = .pump
      let a := st.admitted now
      (∀ x ∈ sets, x.ramp ≤ longest) ∧ (longest ≠ 0 → ∃ x ∈ sets, x.ramp = longest)
        ∧ a.step = st.step ∧ a.admission = some now ∧ a.elapsed = 0 ∧ a.admitWait = st.admitWait ∧ a.credit = st.credit
        ∧ a.demand = st.demand ∧ a.lostRaised = false ∧ a.timeoutRaised = false ∧ a.pressure = none
        ∧ a.rampEnd = (if hd.kind.gate then none else ms longest)
        ∧ (watched →
            a.phase = (if longest = 0 then .hold else .ramp)
              ∧ a.maxTimer = ms hd.maxTime ∧ a.strikeTimer = ms hd.strikeWindow
              ∧ a.strike = (if hd.strikeWindow = 0 then .notPlasma else .unstruck)
              ∧ a.conds = st.step.ends.map (fun e =>
                  { item := e, met := false, holdStart := none,
                    timer := match e with
                      | .time n => some { start := now, dur := n * 1000 - st.credit }
                      | _ => none })
              ∧ a.bands.length = st.step.bands.length
              ∧ ∀ (i : Nat) (b : BandItem), st.step.bands[i]? = some b → ∃ low high : Int,
                  a.bands[i]? = some ({ item := b, low := low, high := high, outStart := none, fired := false } : Band)
                    ∧ (b.mode = .absolute → low = max 0 b.low ∧ high = b.high)
                    ∧ (∀ x, b.mode = .relative → (sets.find? fun x => x.point == b.reference) = some x →
                        low = max 0 (x.target + b.low) ∧ high = x.target + b.high))
        ∧ (¬watched → a.conds = [] ∧ a.bands = [] ∧ a.maxTimer = none ∧ a.strikeTimer = none ∧ a.strike = .notPlasma)
        ∧ (hd.kind = .ror → a.phase = .settle ∧ a.rorTimer = some { start := now, dur := hd.rorSettle * 1000 })
        ∧ (hd.kind ≠ .ror → a.rorTimer = none)
        ∧ (hd.kind.gate = true → a.phase = .motion))
    ∧ (∀ (s : State) (c : Nat) (st : StepState), c < s.ctxs.length → (s.ctx c).step = some st → st.phase ≠ .waiting →
      st.step.head.kind = .process ∨ st.step.head.kind = .pump →
      let due := fun k : Cond => timerDue k.timer s.now = true
      let new := st.conds.map fun k => if timerDue k.timer s.now then { k with met := true, timer := none } else k
      let b := s.setCtx c { s.ctx c with step := some { st with conds := new } }
      (st.conds = [] → s.admitEnd c = s.push [.stepEnd c .none])
        ∧ (st.conds ≠ [] → (∀ k ∈ st.conds, ¬due k) → s.admitEnd c = s)
        ∧ ((∃ k ∈ st.conds, due k) →
            (∀ i, endReason st.step.head.endAll st.conds new = some i → s.admitEnd c = b.push [.stepEnd c (.condition i)])
              ∧ (endReason st.step.head.endAll st.conds new = none → s.admitEnd c = b)))
    ∧ (∀ (s : State) (c : Nat) (st : StepState), s.sized = true → c < 6 →
      let x := s.ctx c
      let cls := if x.isl = .none then Class.job else Class.handler
      let priority := (x.job.map (·.job.priority)).getD .normal
      let others := s.waits.filter fun e => e.ctx != c
      let ahead := others.takeWhile fun e => decide (waitRank e.cls e.priority ≤ waitRank cls priority)
      let passes := s.needsMet c st = true ∧ ∀ e ∈ ahead, s.blocks e.ctx c st = false
      let timer : Option Timer :=
        if st.step.head.admitTimeout = 0 then none
        else some { start := st.admitEntry, dur := st.step.head.admitTimeout * 1000 }
      let entry : WaitEntry :=
        { ctx := c, cls := cls, priority := priority, entryTime := st.admitEntry, waited := 0, timer := timer, raised := false }
      let t := s.present c st
      (x.isl = .emergency → t = s.admitStep c st true)
        ∧ (x.isl ≠ .emergency → passes → t = s.admitStep c st false)
        ∧ (x.isl ≠ .emergency → ¬passes →
            t.waits = ahead ++ entry :: others.drop ahead.length
              ∧ t.counter (8 * c + 7) = (s.counter (8 * c + 7)).count ∧ t.agenda = .trigger :: s.agenda
              ∧ t = { s with waits := t.waits, counters := t.counters, agenda := t.agenda }))
    ∧ (∀ (s : State) (c : Nat) (st : StepState), s.needsMet c st = true ↔
      (∀ l, l < 12 → (s.line l).budget = true → (s.line l).reserved c < st.demandOn l →
          (s.line l).reservations.sum - (s.line l).reserved c + st.demandOn l ≤ (s.line l).capacity)
        ∧ (∀ g h, st.step.head.kind = .pump → st.step.head.group = some g → (s.group g).holder = some h → h = c)
        ∧ ((∃ p v, (p, v) ∈ st.targets ∧ 0 < v ∧ s.hotPoint p = true) →
            ∀ g x, s.gate g = some x → x.cfg.owner = c ∨ x.cfg.partner = c → x.state = .closed)
        ∧ (st.step.head.kind = .gateOpen →
            ∃ g x a b, st.step.head.gate = some g ∧ s.gate g = some x ∧ x.state = .closed
              ∧ (s.ctx x.cfg.partner).state ≠ .offline
              ∧ s.freshF (s.ctx x.cfg.owner).cfg.pressure = some a ∧ s.freshF (s.ctx x.cfg.partner).cfg.pressure = some b
              ∧ a ≤ b + x.cfg.openDelta ∧ b ≤ a + x.cfg.openDelta
              ∧ s.ctxAtZero x.cfg.owner = true ∧ s.ctxAtZero x.cfg.partner = true))
    ∧ (∀ (s : State) (w c : Nat) (st : StepState), s.blocks w c st = true ↔
      ∃ sw, (s.ctx w).step = some sw
        ∧ ((∃ l, l < 12 ∧ (s.line l).budget = true ∧ (s.line l).reserved c < st.demandOn l
              ∧ (s.line l).reserved w < sw.demandOn l
              ∧ (s.line l).capacity < (s.line l).reservations.sum - (s.line l).reserved w + sw.demandOn l)
          ∨ ∃ g h, st.step.head.kind = .pump ∧ st.step.head.group = some g ∧ sw.step.head.kind = .pump
              ∧ sw.step.head.group = some g ∧ (s.group g).holder = some h ∧ h ≠ c ∧ h ≠ w))
    ∧ (∀ (s : State) (left : List Nat) (front behind : List WaitEntry) (e : WaitEntry) (st : StepState),
      s.waits = front ++ e :: behind → (∀ y ∈ e :: behind, y.ctx ∉ left) →
      (∀ y, front.getLast? = some y → y.ctx ∈ left) → (s.ctx e.ctx).step = some st →
      let passes := s.needsMet e.ctx st = true ∧ ∀ w ∈ left, s.blocks w e.ctx st = false
      (passes → s.scanOn left = (s.push [.scan left]).admitStep e.ctx st false)
        ∧ (¬passes → s.scanOn left = s.push [.scan (e.ctx :: left)]))
    ∧ ∀ (s : State) (left : List Nat),
        ((∀ y, s.waits.getLast? = some y → y.ctx ∈ left) →
          (s.scanAgain = true → s.scanOn left = { s with scanAgain := false }.push [.scan []])
            ∧ (s.scanAgain = false → s.scanOn left = { s with scanning := false }))
          ∧ (s.scanning = true → s.trigger = { s with scanAgain := true })
          ∧ (s.scanning = false → s.trigger = { s with scanning := true }.push [.scan []])

/-- A LOOP_END below its count raises the iteration and goes back behind the LOOP_BEGIN; at its count it closes the level and goes on
(R113). A LOOP_BEGIN opens a level at iteration 1 as the innermost one (R112), where fewer than two are open, as every validated path
has it (log 31). -/
def Obligations.LoopEndsRepeatOrClose : Prop :=
  (∀ (s : State) (c h credit : Nat) (st b : Step) (outer : List LoopLevel) (l : LoopLevel), c < s.ctxs.length →
    (s.ctx c).active = true → stepAt s.records h = some st → st.head.kind = .loopEnd → (s.ctx c).loops = outer ++ [l] →
    stepAt s.records l.begin = some b →
    let t := s.takeUp c h credit
    (l.iteration < l.count →
      (t.ctx c).loops = outer ++ [{ l with iteration := l.iteration + 1 }]
        ∧ t.agenda = .takeUp c (b.head.next.target b.after) 0 :: s.agenda)
      ∧ (l.count ≤ l.iteration →
        (t.ctx c).loops = outer ∧ t.agenda = .takeUp c (st.head.next.target st.after) 0 :: s.agenda)
      ∧ (t.ctx c).cur = some h ∧ t.points = s.points ∧ t.reports = s.reports ∧ t.counters = s.counters)
    ∧ ∀ (s : State) (c h credit : Nat) (st : Step), c < s.ctxs.length → (s.ctx c).active = true →
        stepAt s.records h = some st → st.head.kind = .loopBegin → (s.ctx c).loops.length < 2 →
        let t := s.takeUp c h credit
        (t.ctx c).loops = (s.ctx c).loops ++ [{ begin := h, count := st.head.loopCount, iteration := 1 }]
          ∧ t.agenda = .takeUp c (st.head.next.target st.after) 0 :: s.agenda
          ∧ (t.ctx c).cur = some h ∧ t.points = s.points ∧ t.reports = s.reports ∧ t.counters = s.counters

/-! ### Requests and diversion -/

/-- A raise in a context that is OFFLINE does nothing; in any other it sets the source's flag and no other, and offers one REQUEST report
(R157). -/
def Obligations.RaisesSetOneFlag : Prop :=
  ∀ (s : State) (c : Nat) (src : Source), c < s.ctxs.length →
    ((s.ctx c).state = .offline → s.raiseFlag c src = s)
      ∧ ((s.ctx c).state ≠ .offline →
        (s.raiseFlag c src).ctx c = { s.ctx c with flags := (s.ctx c).flags ||| src.bit }
          ∧ ((s.raiseFlag c src).ctx c).flag src = true
          ∧ (s.reports.length < 64 →
              (s.raiseFlag c src).reports = s.reports ++
                [{ ctx := some c, step := (s.ctx c).cur, time := s.now, tag := (s.ctx c).jobTag,
                   body := .request src (src.level (s.ctx c).highs) (src.masked (s.ctx c).masks) ((s.ctx c).flag src) }]))
      ∧ ∀ d, d ≠ c → (s.raiseFlag c src).ctx d = s.ctx d

/-- An attempt takes the candidate of highest level, and among those of that level the one of lowest number; it takes none exactly where
there is none (R160). A candidate is a set flag whose source is unmasked and of a level above the in-service level, of level EMERGENCY
or not held by an owned gate in OPENING or CLOSING (R162), in a context in RUNNING or DIVERTED, or, at EMERGENCY, at rest in IDLE,
PARKED or WAKING (R160). -/
def Obligations.AttemptsTakeTheHighest : Prop :=
  ∀ (s : State) (c : Nat),
    (∀ src, s.toTake c = some src → s.candidate c src = true
      ∧ ∀ other, s.candidate c other = true →
          levelRank (other.level (s.ctx c).highs) ≤ levelRank (src.level (s.ctx c).highs)
            ∧ (other.level (s.ctx c).highs = src.level (s.ctx c).highs → src.num ≤ other.num))
      ∧ (s.toTake c = none ↔ ∀ src, s.candidate c src = false)
      ∧ ∀ src, s.candidate c src = true ↔
          let x := s.ctx c
          let level := src.level x.highs
          x.flags.getLsbD src.num = true ∧ ¬(4 ≤ src.num ∧ x.masks.getLsbD src.num = true)
            ∧ levelRank x.isl < levelRank level
            ∧ (level = .emergency ∨ ∀ g y, s.gate g = some y → y.cfg.owner = c → y.state ≠ .opening ∧ y.state ≠ .closing)
            ∧ (x.state = .running ∨ x.state = .diverted
              ∨ (level = .emergency ∧ (x.state = .idle ∨ x.state = .waking ∨ ∃ park, x.state = .parked park)))

/-- The taking of a request (R163 to R168): the flag is cleared, the standing step leaves a return record, the in-service level is the
request's, the context is DIVERTED with no loop level open and takes up the level's handler. An EMERGENCY request brings the context's
budgeted FLOW points and its POWER points to 0 and releases its reservations and its group (R164, R133); another leaves them. Every
taking releases the forces of the context's SET points (R34), and no other point changes. The wait-list entry of the step that is
abandoned is removed (R137), and its STEP_END report of reason ABORTED is made where it is asked for (R117), before the FAULT_TAKEN
report with the fields of R168. The removal, the release and a coming to zero are scan triggers (R136); that one scan answers them all,
and is run before the handler's first step is taken up, is the model's choice (log 12, DESIGN CHOICE). -/
def Obligations.TakingDiverts : Prop :=
  ∀ (s : State) (c : Nat) (src : Source), s.sized = true → c < 6 →
    let x := s.ctx c
    let level := src.level x.highs
    let t := s.take c src
    t.ctx c = { x with
        flags := x.flags &&& ~~~src.bit, isl := level, state := .diverted, loops := [], step := none, autoPark := none,
        wakeDelay := none,
        stack := x.stack ++ (match x.step, x.cur with
          | some st, some h => [{ head := h, loops := x.loops, runTime := st.ran, level := x.isl }]
          | _, _ => []) }
      ∧ (∃ scan : Bool, t.agenda = (if scan then [.trigger] else []) ++ .takeUp c (x.cfg.handler level) 0 :: s.agenda
          ∧ (scan = true ↔ (∃ e ∈ s.waits, e.ctx = c)
              ∨ (level = .emergency ∧ (s.holdsPlant c = true ∨ s.cameToZero (s.zeroHot c) c = true))))
      ∧ (∀ p, t.point p = match s.point p with
          | .set cfg r =>
            if cfg.owner = .ctx c then
              .set cfg { (if level = .emergency ∧ (cfg.quantity = .power ∨ (cfg.quantity = .flow ∧ cfg.line ≠ none))
                then r.retarget s.now 0 0 else r) with forced := none }
            else .set cfg r
          | q => q)
      ∧ (level = .emergency → t.ctxAtZero c = true ∧ t.holdsPlant c = false
          ∧ t.lines = s.lines.map (fun l => { l with reservations := l.reservations.set c 0 })
          ∧ t.groups = s.groups.map fun g => if g.holder = some c then { g with holder := none } else g)
      ∧ (level ≠ .emergency → t.lines = s.lines ∧ t.groups = s.groups)
      ∧ t.counter (diversionCounter c level) = (s.counter (diversionCounter c level)).count
      ∧ (x.step = none → t.waits = s.waits) ∧ (x.step ≠ none → t.waits = s.waits.filter fun e => e.ctx != c)
      ∧ (s.reports.length + 2 ≤ 64 →
          t.reports = s.reports
            ++ (match x.step with
              | some st =>
                if st.step.head.report = true ∨ (x.isl = .none ∧ ∃ j, x.job = some j ∧ j.job.reportAll = true) then
                  [({ ctx := some c, step := x.cur, time := s.now, tag := x.jobTag,
                      body := .stepEnd .aborted st.strike (st.bands.map (·.fired)) st.elapsed st.admitWait st.pressure } : Report)]
                else []
              | none => [])
            ++ [({ ctx := some c, step := x.step.bind fun _ => x.cur, time := s.now, tag := x.jobTag,
                   body := .faultTaken src level x.state x.isl (x.step.map (·.phase)) (t.ctx c).stack.length
                     (x.cfg.handler level)
                     (x.step.map fun st =>
                       if st.phase = .waiting then st.credit else min (st.credit + st.elapsed) 3600000000) } : Report)])
      ∧ ∀ d, d ≠ c → t.ctx d = s.ctx d

/-- RETURN pops the top record, restores its level and loop levels and restarts its step with its credit (R170, R171); HALT empties the
stack, ends the running job HALTED and releases the context (R172); ABANDON empties the stack, ends the running job ABORTED and makes
idle entry, and an attempt at taking follows (R173). That a scan of this idle entry, where one is triggered, is run before the queued job
is started is the model's choice (log 12, DESIGN CHOICE). The job's end reports JOB_END, releases its path and counts in JOBS_ABORTED; a
context without a running job ends none (R86). -/
def Obligations.HandlersReturnOrHalt : Prop :=
  ∀ (s : State) (c : Nat), s.sized = true → c < 6 →
    (∀ below r, (s.ctx c).stack = below ++ [r] →
      let t := s.returnStep c
      (t.ctx c).stack = below ∧ (t.ctx c).isl = r.level ∧ (t.ctx c).loops = r.loops
        ∧ (t.ctx c).state = (if r.level = .none then .running else .diverted)
        ∧ t.agenda = .takeUp c r.head (creditOf (stepAt s.records r.head) r.runTime) :: .attempt c :: s.agenda
        ∧ t.points = s.points ∧ t.reports = s.reports ∧ t.counters = s.counters)
      ∧ (let t := s.haltStep c
        (t.ctx c).stack = [] ∧ (t.ctx c).isl = .none ∧ (t.ctx c).state = .halted ∧ (t.ctx c).job = none
          ∧ (t.ctx c).loops = [] ∧ (t.ctx c).step = none ∧ (t.ctx c).cur = (s.ctx c).lastRest
          ∧ (t.ctx c).flags = (s.ctx c).flags ∧ (s.hotUnforced = true → t.ctxAtZero c = true) ∧ t.holdsPlant c = false
          ∧ ∀ d, d ≠ c → t.ctx d = s.ctx d)
      ∧ (let t := s.abandonStep c
        (t.ctx c).stack = [] ∧ (t.ctx c).isl = .none ∧ (t.ctx c).state = .idle ∧ (t.ctx c).job = none
          ∧ (t.ctx c).loops = [] ∧ (t.ctx c).step = none ∧ (t.ctx c).cur = some (s.ctx c).cfg.idleStep
          ∧ (t.ctx c).flags = (s.ctx c).flags ∧ (t.ctx c).queue = (s.ctx c).queue
          ∧ t.points = (s.applyRest c (s.ctx c).cfg.idleStep).points ∧ t.holdsPlant c = false
          ∧ (t.agenda = .restStart c :: .attempt c :: s.agenda
              ∨ t.agenda = .trigger :: .restStart c :: .attempt c :: s.agenda)
          ∧ ∀ d, d ≠ c → t.ctx d = s.ctx d)
      ∧ ∀ t outcome, (t = s.haltStep c ∧ outcome = JobOutcome.halted) ∨ (t = s.abandonStep c ∧ outcome = JobOutcome.aborted) →
          (∀ j, (s.ctx c).job = some j →
            t.useCounts = releasePath s.useCounts j.job.path ∧ t.counter (8 * c + 2) = (s.counter (8 * c + 2)).count
              ∧ (s.reports.length < 64 →
                t.reports = s.reports ++
                  [{ ctx := some c, step := (s.ctx c).cur, time := s.now, tag := some j.job.tag,
                     body := .jobEnd outcome j.job.priority j.job.start j.runTime }]))
            ∧ ((s.ctx c).job = none →
                t.useCounts = s.useCounts ∧ t.counters = s.counters ∧ t.reports = s.reports ∧ t.lost = s.lost)

/-! ### Gates -/

/-- A switch reading is formed of the two switch points' bits where one of them was collected fresh and neither is stale (R144), and moves
a gate as Table 8-4 gives: a motion that completes stops its timer; entry into FAULT stops it and drives the output to 0 (R145, R146);
in the nine other places it is stored and moves nothing. A gate that moves makes its GATE report and hands the change on to its
owner's sequencer, where the gate step that awaits the state ends (R111), to its owner's request unit, which raises GATE_MOTION at
FAULT and otherwise attempts taking where the hold has ended (R146, R162), and to the arbiter, in this order (R151). Where a CLOSED
gate enters FAULT, R146 brings points to 0, a trigger of its own (R136): that it runs no scan of its own, and one scan stands at the
end for both, is the model's choice (log 12, DESIGN CHOICE). A fresh collection of either pressure point of an OPEN gate, with both
samples fresh, raises GATE_PRESSURE in the owner and the partner where they differ by more than the trip delta, once in an OPEN
episode (R150); the gate stays OPEN. -/
def Obligations.ReadingsMoveGates : Prop :=
  (∀ (s : State) (g image len : Nat) (x : Gate) (r : Reading), s.sized = true → s.gate g = some x →
    s.formReading x image len = some r →
    let t := s.readGate g image len
    (x.state = .opening → r = .openSw → t.gate g = some { x with state := .open, timer := none, last := some r })
      ∧ (x.state = .closing → r = .closedSw → t.gate g = some { x with state := .closed, timer := none, last := some r })
      ∧ (x.state = .fault → r = .closedSw → t.gate g = some { x with state := .closed, timer := none, last := some r })
      ∧ (x.state = .closed → r ≠ .closedSw →
          t.gate g = some { x with state := .fault, timer := none, last := some r } ∧ t.targetOf x.cfg.openOut = 0
            ∧ (s.hotUnforced = true → t.ctxAtZero x.cfg.owner = true ∧ t.ctxAtZero x.cfg.partner = true))
      ∧ (x.state = .open → r ≠ .openSw →
          t.gate g = some { x with state := .fault, timer := none, last := some r } ∧ t.targetOf x.cfg.openOut = 0)
      ∧ (x.state = .opening ∨ x.state = .closing → r = .both →
          t.gate g = some { x with state := .fault, timer := none, last := some r } ∧ t.targetOf x.cfg.openOut = 0)
      ∧ ((x.state = .closed ∧ r = .closedSw) ∨ (x.state = .opening ∧ (r = .closedSw ∨ r = .mid)) ∨ (x.state = .open ∧ r = .openSw)
            ∨ (x.state = .closing ∧ (r = .openSw ∨ r = .mid)) ∨ (x.state = .fault ∧ r ≠ .closedSw) →
          t = s.setGate g (some { x with last := some r }))
      ∧ (∀ y, t.gate g = some y → y.state ≠ x.state →
          let c := x.cfg.owner
          t.agenda = .tellSequencer g :: .tellUnit g (s.hold c) :: .trigger :: s.agenda
            ∧ (s.reports.length < 64 →
              t.reports = s.reports ++
                [{ ctx := some c, step := (s.ctx c).cur, time := s.now, tag := (s.ctx c).jobTag,
                   body := .gate g x.state y.state .reading (some r) (s.freshF (s.ctx c).cfg.pressure)
                     (s.freshF (s.ctx x.cfg.partner).cfg.pressure) }]))
      ∧ ∀ k, k ≠ g → t.gate k = s.gate k)
    ∧ (∀ (s : State) (x : Gate) (image len : Nat) (r : Reading), s.formReading x image len = some r ↔
      (s.collectedFresh image len x.cfg.closedSw = true ∨ s.collectedFresh image len x.cfg.openSw = true)
        ∧ ∃ kc k oc o, s.point x.cfg.closedSw = .sample kc k ∧ s.point x.cfg.openSw = .sample oc o
            ∧ k.stale = false ∧ o.stale = false
            ∧ r = if k.f = 1 then (if o.f = 1 then .both else .closedSw) else if o.f = 1 then .openSw else .mid)
    ∧ (∀ (s : State) (g : Nat) (x : Gate), s.gate g = some x →
      let c := x.cfg.owner
      let awaits := ∃ st, (s.ctx c).step = some st ∧ st.phase = .motion ∧ st.step.head.gate = some g
        ∧ ((st.step.head.kind = .gateOpen ∧ x.state = .open) ∨ (st.step.head.kind = .gateClose ∧ x.state = .closed))
      let holds := ∃ k y, s.gate k = some y ∧ y.cfg.owner = c ∧ (y.state = .opening ∨ y.state = .closing)
      (awaits → s.tellSequencer g = s.push [.stepEnd c .none])
        ∧ (¬awaits → s.tellSequencer g = s)
        ∧ (s.hold c = true ↔ holds)
        ∧ (∀ held, x.state = .fault → s.tellUnit g held = (s.raiseFlag c .gateMotion).attempt c)
        ∧ (x.state ≠ .fault → ¬holds → s.tellUnit g true = s.attempt c)
        ∧ (∀ held, x.state ≠ .fault → holds ∨ held = false → s.tellUnit g held = s)
        ∧ (∀ src, s.toTake c = some src → s.attempt c = s.take c src)
        ∧ (s.toTake c = none → s.attempt c = s))
    ∧ ∀ (s : State) (g image len : Nat) (x : Gate), s.gate g = some x →
        let a := (s.ctx x.cfg.owner).cfg.pressure
        let b := (s.ctx x.cfg.partner).cfg.pressure
        let trips := x.state = .open ∧ x.tripRaised = false
          ∧ (∃ p, (a = some p ∨ b = some p) ∧ s.collectedFresh image len p = true)
          ∧ ∃ fa fb, s.freshF a = some fa ∧ s.freshF b = some fb
              ∧ (fa + x.cfg.tripDelta < fb ∨ fb + x.cfg.tripDelta < fa)
        (trips → s.compareGate g image len =
            (s.setGate g (some { x with tripRaised := true })).push
              [.raise x.cfg.owner .gatePressure, .raise x.cfg.partner .gatePressure])
          ∧ (¬trips → s.compareGate g image len = s)

/-- The expiry of a motion timer takes the gate to FAULT with its output at 0 and GATE_MOTION raised in its owner (R148, R146). Here where
no request is then taken, in a quiet part. -/
def Obligations.MotionTimeoutFaultsTheGate : Prop :=
  ∀ (s : State) (dt g : Nat) (x : Gate), s.quiet = true → s.sized = true → s.gate g = some x →
    x.state = .opening ∨ x.state = .closing → timerDue x.timer (s.advance dt).now = true →
    let a := s.advance dt
    let c := x.cfg.owner
    let b := ((if a.targetOf x.cfg.openOut = 0 then a else a.retarget x.cfg.openOut 0 0).setGate g
        (some { x with state := .fault, timer := none })).report (some c) (a.ctx c).cur (a.ctx c).jobTag
        (.gate g x.state .fault .timeout none (a.freshF (a.ctx c).cfg.pressure) (a.freshF (a.ctx x.cfg.partner).cfg.pressure))
    (b.raiseFlag c .gateMotion).toTake c = none →
      exec (.motionTimerExpiry dt g) s = .next (b.raiseFlag c .gateMotion)

/-- GATE_REQUEST to open, with every condition of R152 met, starts the opening of R147: output to 1, motion timer, OPENING, and its GATE
report. GATE_REQUEST to close starts the closing of R149 from OPEN, OPENING and FAULT, and is answered OK without effect on a gate
that is CLOSING or CLOSED (R152). In a quiet part nothing else changes. The refusals stand in the order of R152: an index past the
table or a direction that is neither; a gate that is not defined; then to open, the first of the six conditions that fails, and to
close, a GATE step of this gate at which its owner stands in MOTION. A GATE step that is admitted hands its gate and direction over
(R111): a GATE_OPEN makes the same opening, a GATE_CLOSE the same closing, each with cause STEP and the change handed on as R151 gives; a
GATE_CLOSE ends at once where its gate is CLOSED, and does nothing where it is CLOSING. That this end stands before the scan of the
admission, which is left as work behind it, is the model's choice (log 12, DESIGN CHOICE). -/
def Obligations.GateRequestsMoveGates : Prop :=
  (∀ (s : State) (dt : Nat) (m : Mailbox) (g : Nat) (x : Gate), s.quiet = true → s.executes m 40 = true → s.sized = true →
      g < 8 → s.gate g = some x → ((s.arrived dt).requestConditions x).all id = true → (s.ctx x.cfg.owner).step = none →
      let a := s.arrived dt
      let c := x.cfg.owner
      exec (.gateRequestOpen dt m g true) s =
        .next ((((a.retarget x.cfg.openOut 1 0).setGate g
            (some { x with state := .opening, timer := some { start := a.now, dur := x.cfg.motionTimeout * 1000 },
                           tripRaised := false })).report (some c) (a.ctx c).cur (a.ctx c).jobTag
          (.gate g .closed .opening .request none (a.freshF (a.ctx c).cfg.pressure)
            (a.freshF (a.ctx x.cfg.partner).cfg.pressure))).answered m (okay .empty)))
    ∧ (∀ (s : State) (dt : Nat) (m : Mailbox) (g : Nat) (x : Gate), s.quiet = true → s.executes m 40 = true → s.sized = true →
      g < 8 → s.gate g = some x → (s.arrived dt).gateStepStands g x = false →
      let a := s.arrived dt
      let c := x.cfg.owner
      (x.state = .open ∨ x.state = .opening ∨ x.state = .fault →
        exec (.gateRequestClose dt m g true) s =
          .next ((((a.retarget x.cfg.openOut 0 0).setGate g
              (some { x with state := .closing, timer := some { start := a.now, dur := x.cfg.motionTimeout * 1000 } })).report
            (some c) (a.ctx c).cur (a.ctx c).jobTag
            (.gate g x.state .closing .request none (a.freshF (a.ctx c).cfg.pressure)
              (a.freshF (a.ctx x.cfg.partner).cfg.pressure))).answered m (okay .empty)))
        ∧ (x.state = .closing ∨ x.state = .closed →
          exec (.gateRequestClose dt m g true) s = .next (a.answered m (okay .empty))))
    ∧ (∀ (s : State) (dt : Nat) (m : Mailbox) (g : Nat), s.executes m 40 = true →
      let a := s.arrived dt
      let answer := fun r => Host.Outcome.next (a.answered m r)
      (∀ listed, 8 ≤ g ∨ listed = false →
          exec (.gateRequestOpen dt m g listed) s = answer (refusal .outOfRange (some g) none)
            ∧ exec (.gateRequestClose dt m g listed) s = answer (refusal .outOfRange (some g) none))
        ∧ (g < 8 → s.gate g = none →
          exec (.gateRequestOpen dt m g true) s = answer (refusal .notFound (some g) none)
            ∧ exec (.gateRequestClose dt m g true) s = answer (refusal .notFound (some g) none))
        ∧ (∀ x k, g < 8 → s.gate g = some x → (a.requestConditions x)[k]? = some false →
            (∀ j, j < k → (a.requestConditions x)[j]? = some true) →
            exec (.gateRequestOpen dt m g true) s = answer (refusal .notAllowedInState (some g) (some k)))
        ∧ (∀ x, g < 8 → s.gate g = some x → a.gateStepStands g x = true →
            exec (.gateRequestClose dt m g true) s = answer (notAllowed g (a.ctx x.cfg.owner).state)))
    ∧ (∀ (s : State) (c g : Nat) (x : Gate), s.gate g = some x →
      let own := x.cfg.owner
      let told := fun (b : State) (after : GateState) =>
        (b.report (some own) (s.ctx own).cur (s.ctx own).jobTag
          (.gate g x.state after .step none (s.freshF (s.ctx own).cfg.pressure)
            (s.freshF (s.ctx x.cfg.partner).cfg.pressure))).push [.tellSequencer g, .tellUnit g (s.hold own), .trigger]
      let timer : Option Timer := some { start := s.now, dur := x.cfg.motionTimeout * 1000 }
      (s.gateStart c g true =
          told ((s.retarget x.cfg.openOut 1 0).setGate g
            (some { x with state := .opening, timer := timer, tripRaised := false })) .opening)
        ∧ (x.state = .open ∨ x.state = .opening ∨ x.state = .fault →
          s.gateStart c g false =
            told ((s.retarget x.cfg.openOut 0 0).setGate g (some { x with state := .closing, timer := timer })) .closing)
        ∧ (x.state = .closed → s.gateStart c g false = s.push [.stepEnd c .none])
        ∧ (x.state = .closing → s.gateStart c g false = s))
    ∧ ∀ (s : State) (g : Nat) (x : Gate),
        let conds := s.requestConditions x
        let a := s.freshF (s.ctx x.cfg.owner).cfg.pressure
        let b := s.freshF (s.ctx x.cfg.partner).cfg.pressure
        conds.length = 6
          ∧ (conds[0]? = some true ↔ (s.ctx x.cfg.owner).state = .idle) ∧ (conds[1]? = some true ↔ x.state = .closed)
          ∧ (conds[2]? = some true ↔ (s.ctx x.cfg.partner).state ≠ .offline)
          ∧ (conds[3]? = some true ↔ a ≠ none ∧ b ≠ none)
          ∧ (∀ u v, a = some u → b = some v →
              (conds[4]? = some true ↔ u ≤ v + x.cfg.openDelta ∧ v ≤ u + x.cfg.openDelta))
          ∧ (conds[5]? = some true ↔ s.ctxAtZero x.cfg.owner = true ∧ s.ctxAtZero x.cfg.partner = true)
          ∧ (s.gateStepStands g x = true ↔ ∃ st, (s.ctx x.cfg.owner).step = some st ∧ st.phase = .motion
              ∧ (st.step.head.kind = .gateOpen ∨ st.step.head.kind = .gateClose) ∧ st.step.head.gate = some g)

/-! ### Requests of the tool controller -/

/-- A request that its rule refuses has no effect: only its refusal enters the holder (R179). Before that, BAD_REQUEST answers a frame
that is too short for its body or for the largest response of its code, a body shorter than the fields the request carries, and a
count out of range (R178); how short a body is beyond what the manual lays out is an operand (log 2). -/
def Obligations.RefusedRequestsHaveNoEffect : Prop :=
  (∀ (s : State) (dt : Nat) (m : Mailbox) (q : Request) (r : Response), s.executes m q.code = true → q.bodyHeld m = true →
    q.counted = true → q.check (s.arrived dt) = some r → r.code ≠ .ok →
    (s.advance dt).arriveU m (some q) = .next ((s.arrived dt).answered m r))
    ∧ ∀ (s : State) (dt : Nat) (m : Mailbox), goodCheck m.frame = true → classify s.inUse.address m.frame = .mailbox →
        s.holder = none → s.loader.state ≠ .loading →
        let answer := Host.Outcome.next ((s.arrived dt).answered m badRequest)
        (∀ q, (payloadOf m.frame).length - 8 < bodyLength m.frame →
            (s.advance dt).arriveU m q = answer)
          ∧ (∀ q most, largestBody (requestCode m.frame) = some most → (payloadOf m.frame).length < 8 + most →
            (s.advance dt).arriveU m q = answer)
          ∧ ∀ q : Request, requestCode m.frame = q.code →
              (0 < q.least ∧ (m.complete = false ∨ bodyLength m.frame < q.least)) ∨ q.counted = false →
              (s.advance dt).arriveU m (some q) = answer

/-- The requests that read answer what stands at T, and change nothing but the holder (R182, R35, R36, R42, R121, R123, R153, R60, R91). A
count out of range is refused with BAD_REQUEST (R178); a start plus count past the end of the table, and a context index above 5, with
OUT_OF_RANGE, which names the context, and no subject of a span (log 14, DEDUCED). The last part says what each entry of an answer
shows of the state; that a SET point shows no forced value while its forced flag is clear is the model's choice (log 33, DESIGN
CHOICE). The vendor code and the design revision of IDENTIFY are constants without a value (log 3). -/
def Obligations.ReadsAnswerAndChangeNothing : Prop :=
  (∀ (s : State) (dt : Nat) (m : Mailbox) (start count c : Nat),
    let a := s.arrived dt
    let read := fun (code most size : Nat) (run : Host.Outcome State Fault Refusal) (body : Body) => s.executes m code = true →
      (s.agenda = [] → 1 ≤ count → count ≤ most → start + count ≤ size → run = .next (a.answered m (okay body)))
        ∧ (1 ≤ count → count ≤ most → size < start + count → run = .next (a.answered m (refusal .outOfRange none none)))
        ∧ (count = 0 ∨ most < count → run = .next (a.answered m badRequest))
    (s.executes m 1 = true → s.agenda = [] → exec (.identify dt m) s = .next (a.answered m (okay (.identify a.identifyView))))
      ∧ read 17 32 512 (exec (.readPoints dt m start count) s) (.points (slice start count a.pointEntry))
      ∧ read 18 64 512 (exec (.readSamples dt m start count) s) (.samples (slice start count a.sampleView))
      ∧ read 33 64 64 (exec (.readNodes dt m start count) s) (.nodes (slice start count a.node))
      ∧ read 35 12 12 (exec (.readSupply dt m start count) s) (.supply (slice start count a.supplyView))
      ∧ read 37 3 3 (exec (.readRoughing dt m start count) s) (.roughing (slice start count a.group))
      ∧ read 39 8 8 (exec (.readGates dt m start count) s) (.gates (slice start count a.gateView))
      ∧ read 49 7 2048 (exec (.readRecords dt m start count) s)
          (.records (slice start count fun i => (a.record i, a.useCount i)))
      ∧ (s.executes m 51 = true → s.agenda = [] → c < 6 →
        exec (.readContext dt m c) s = .next (a.answered m (okay (.context ((a.ctx c).view a.now)))))
      ∧ (s.executes m 51 = true → 6 ≤ c →
        exec (.readContext dt m c) s = .next (a.answered m (refusal .outOfRange (some c) none))))
    ∧ (∀ (s : State) (p : Nat),
      (s.point p = .empty → s.pointEntry p = none ∧ s.sampleView p = .empty)
        ∧ (∀ cfg r, s.point p = .set cfg r → s.pointEntry p = some (.set, cfg)
            ∧ s.sampleView p = .set (r.currentValue s.now) (r.rampValue s.now) r.t
                (if r.d ≤ (s.now - r.r).toNat then 0 else r.d - (s.now - r.r).toNat) r.forced r.saturated r.lastRaw
                (match s.node cfg.node with
                 | some n => some n.state
                 | none => none))
        ∧ ∀ cfg st, s.point p = .sample cfg st → s.pointEntry p = some (.sample, cfg) ∧ s.sampleView p = .sample st)
    ∧ (∀ (s : State) (l : Nat), s.supplyView l =
      { budget := (s.line l).budget, capacity := (s.line l).capacity, reservations := (s.line l).reservations,
        sum := (s.line l).reservations.sum,
        free := if (s.line l).budget = true then (s.line l).capacity - (s.line l).reservations.sum else 0 })
    ∧ (∀ (s : State) (g : Nat),
      (s.gate g = none → s.gateView g = none)
        ∧ ∀ x, s.gate g = some x → ∃ v, s.gateView g = some v
            ∧ v.cfg = x.cfg ∧ v.state = x.state ∧ v.last = x.last ∧ v.tripRaised = x.tripRaised
            ∧ (x.timer = none → v.left = none)
            ∧ (∀ t, x.timer = some t → v.left = some (t.dur - (s.now - t.start).toNat))
            ∧ (∀ cfg r, s.point x.cfg.openOut = .set cfg r → v.output = r.currentValue s.now)
            ∧ ∀ c seen, (c = x.cfg.owner ∧ seen = v.ownerPressure) ∨ (c = x.cfg.partner ∧ seen = v.partnerPressure) →
                ((s.ctx c).cfg.pressure = none → seen = none)
                  ∧ ∀ p cfg st, (s.ctx c).cfg.pressure = some p → s.point p = .sample cfg st → seen = some (st.f, st.stale))
    ∧ (∀ (x : Ctx) (now : Time),
      let v := x.view now
      let job := fun (j : Job) (time : Option Time) =>
        ({ tag := j.tag, start := j.start, priority := j.priority, reportAll := j.reportAll, startTime := time } : JobView)
      let left := fun t : Timer => t.dur - (now - t.start).toNat
      v.cfg = x.cfg ∧ (v.enabled = true ↔ x.state ≠ .offline) ∧ v.state = x.state ∧ v.phase = x.step.map (·.phase)
        ∧ v.step = x.cur ∧ v.running = x.job.map (fun j => job j.job (some j.startTime)) ∧ v.queue = x.queue.map (job · none)
        ∧ v.autoParkLeft = x.autoPark.map left ∧ v.wakeLeft = x.wakeDelay.map left ∧ v.loops = x.loops ∧ v.flags = x.flags
        ∧ v.masks = x.masks ∧ v.highs = x.highs ∧ v.isl = x.isl ∧ v.stackDepth = x.stack.length)
    ∧ ∀ s : State,
      let v := s.identifyView
      v.part = 6412 ∧ v.capacities = [512, 64, 2048, 6, 12, 3, 8, 4, 6, 64] ∧ v.inUse = s.inUse ∧ v.straps = s.straps
        ∧ v.loader = s.loader.state ∧ v.configFault = s.loader.fault ∧ v.defaulted = s.loader.defaulted
        ∧ v.lastStore = s.loader.last ∧ v.page = pageFields s.loader.page ∧ v.time = s.now

/-- READ_STATUS answers the status at T and then clears DEGRADED and the reports-lost count (R183). The status shows the ring, the loader,
the report queue, the wait list in order with the needs of each entry that are unmet at T (R139), and the context fields of the status
area (Table 1-3). -/
def Obligations.ReadStatusClears : Prop :=
  (∀ (s : State) (dt : Nat) (m : Mailbox), s.executes m 2 = true → s.agenda = [] →
    let a := s.arrived dt
    exec (.readStatus dt m) s =
      .next ({ a with degraded := false, lost := 0 }.answered m (okay (.status a.statusView))))
    ∧ (∀ s : State,
      let v := s.statusView
      v.ring = s.ring ∧ v.degraded = s.degraded ∧ v.loader = s.loader.state ∧ v.configFault = s.loader.fault
        ∧ v.queueDepth = s.reports.length ∧ v.lost = s.lost ∧ v.waits = s.waits.map s.waitView
        ∧ v.contexts = s.ctxs.map fun x =>
            { state := x.state, phase := x.step.map (·.phase), step := x.cur, isl := x.isl, highestPending := x.highestPending,
              queueDepth := x.queue.length,
              iteration := match x.loops.getLast? with
                | some l => l.iteration
                | none => 0 })
    ∧ ∀ (s : State) (e : WaitEntry) (st : StepState), (s.ctx e.ctx).step = some st →
      let v := s.waitView e
      v.ctx = e.ctx ∧ v.head = (s.ctx e.ctx).cur ∧ v.cls = e.cls ∧ v.priority = e.priority ∧ v.entryTime = e.entryTime
        ∧ v.waited = e.waited ∧ v.raised = e.raised
        ∧ (∀ l, l ∈ v.unmetLines ↔ l < 12 ∧ s.lineUnmet e.ctx st l = true)
        ∧ (∀ g, v.unmetGroup = some g ↔ st.claim = some g ∧ s.groupUnmet e.ctx g = true)
        ∧ (v.unmetGate = true ↔ s.closedUnmet e.ctx st = true ∨ s.openUnmet st = true)

/-- READ_REPORTS with a count from 1 to 8 removes the oldest records and returns them in 32 bytes each, with the depth after the removal
and the reports-lost count; any other count is refused with BAD_REQUEST (R198). -/
def Obligations.ReadReportsDrainsTheQueue : Prop :=
  (∀ (s : State) (dt : Nat) (m : Mailbox) (count : Nat), s.executes m 96 = true →
    let a := s.arrived dt
    (s.agenda = [] → 1 ≤ count → count ≤ 8 →
      exec (.readReports dt m count) s =
        .next ({ a with reports := s.reports.drop count }.answered m
          (okay (.reports (s.reports.length - count) s.lost ((s.reports.take count).map Report.bytes)))))
      ∧ (count = 0 ∨ 8 < count → exec (.readReports dt m count) s = .next (a.answered m badRequest)))
    ∧ ∀ r : Report, r.bytes.length = 32

/-- READ_COUNTERS returns each counter of its range in four bytes, the overflow flag in the top bit, and clears them where it is asked to;
a count out of range is refused with BAD_REQUEST and a range past the bank with OUT_OF_RANGE (R201). -/
def Obligations.ReadCountersReturnsAndClears : Prop :=
  ∀ (s : State) (dt : Nat) (m : Mailbox) (start count : Nat), s.executes m 97 = true →
    let a := s.arrived dt
    let answer := okay (.counters start count (slice start count fun n => (a.counter n).word))
    (s.agenda = [] → 1 ≤ count → count ≤ 64 → start + count ≤ 117 →
      exec (.readCounters dt m start count false) s = .next (a.answered m answer)
        ∧ ∃ t, exec (.readCounters dt m start count true) s = .next t
          ∧ t = { a.answered m answer with counters := t.counters }
          ∧ ∀ n k, a.counters[n]? = some k →
              t.counters[n]? = some (if start ≤ n ∧ n < start + count then { value := 0, overflow := false } else k))
      ∧ (∀ clear, count = 0 ∨ 64 < count →
        exec (.readCounters dt m start count clear) s = .next (a.answered m badRequest))
      ∧ (∀ clear, 1 ≤ count → count ≤ 64 → 117 < start + count →
        exec (.readCounters dt m start count clear) s = .next (a.answered m (refusal .outOfRange none none)))
      ∧ ∀ k : Counter, k.value ≤ 2147483647 →
          k.word.toNat % 2147483648 = k.value ∧ (2147483648 ≤ k.word.toNat ↔ k.overflow = true)

/-- The writes of point, node, roughing and record entries, and the forcing and releasing of a point, are made at once where every check
passes, and change nothing else (R21, R33, R34, R40, R58, R59, R123). A record write puts each record it carries at its own index, and
one whose count is out of range, or whose body is shorter than 208 bytes for each record, is refused with BAD_REQUEST (R58, R194), one
that runs past the store with OUT_OF_RANGE at its start index, and any other at its first record that fails, in ascending index: for
a field, kind or form out of range (R58, which statement RecordReadsBack has every accepted record meet), HEAD fields before slots
and slots ascending, and then for a use count above 0. A roughing write sets the member set it carries and leaves the holder; it is
refused at its first failing entry for a group that stands earlier in it, a group or a member out of range, and a member left out that is
not OFFLINE (R123). Every other entry stays. The subjects and check positions are those of log 14 (DEDUCED). -/
def Obligations.TableWritesAreMade : Prop :=
  (∀ (s : State) (dt : Nat) (m : Mailbox), s.agenda = [] →
    let a := s.arrived dt
    (∀ entries : List PointWrite, s.executes m 16 = true → 1 ≤ entries.length → entries.length ≤ 32 →
      checkEntries PointWrite.index a.checkPoint [] entries = none →
      exec (.writePoints dt m entries) s = .next ((entries.foldl State.writePoint a).answered m (okay .empty)))
      ∧ (∀ entries : List NodeWrite, s.executes m 32 = true → 1 ≤ entries.length → entries.length ≤ 16 →
        checkEntries NodeWrite.index a.checkNode [] entries = none →
        exec (.writeNodes dt m entries) s = .next ((entries.foldl State.writeNode a).answered m (okay .empty)))
      ∧ (∀ entries : List RoughingWrite, s.executes m 36 = true → 1 ≤ entries.length → entries.length ≤ 3 →
        checkEntries RoughingWrite.group a.checkRoughing [] entries = none →
        exec (.writeRoughing dt m entries) s = .next ((entries.foldl State.writeRoughing a).answered m (okay .empty)))
      ∧ (∀ (start : Nat) (records : List (List Byte)), s.executes m 48 = true → 1 ≤ records.length → records.length ≤ 7 →
        (208 * records.length ≤ bodyLength m.frame → start + records.length ≤ 2048 → a.checkRecords start records = none →
          exec (.writeRecords dt m start records) s = .next ((a.writeRecords start records).answered m (okay .empty)))
          ∧ (208 * records.length ≤ bodyLength m.frame → 2048 < start + records.length →
            exec (.writeRecords dt m start records) s = .next (a.answered m (refusal .outOfRange (some start) none)))
          ∧ (∀ r, 208 * records.length ≤ bodyLength m.frame → start + records.length ≤ 2048 →
            a.checkRecords start records = some r → exec (.writeRecords dt m start records) s = .next (a.answered m r))
          ∧ (bodyLength m.frame < 208 * records.length →
            exec (.writeRecords dt m start records) s = .next (a.answered m badRequest)))
      ∧ (∀ (start : Nat) (records : List (List Byte)), s.executes m 48 = true → records.length = 0 ∨ 7 < records.length →
        exec (.writeRecords dt m start records) s = .next (a.answered m badRequest))
      ∧ (∀ entries : List RoughingWrite, s.executes m 36 = true →
        (∀ r, 1 ≤ entries.length → entries.length ≤ 3 → checkEntries RoughingWrite.group a.checkRoughing [] entries = some r →
          exec (.writeRoughing dt m entries) s = .next (a.answered m r))
          ∧ (entries.length = 0 ∨ 3 < entries.length → exec (.writeRoughing dt m entries) s = .next (a.answered m badRequest)))
      ∧ (∀ (start : Nat) (records : List (List Byte)), s.sized = true →
        (∀ k bs r, records[k]? = some bs → decodeRecord bs = .ok r → start + k < 2048 →
            (s.writeRecords start records).record (start + k) = r)
          ∧ (∀ i, i < start ∨ start + records.length ≤ i → (s.writeRecords start records).record i = s.record i)
          ∧ s.writeRecords start records = { s with records := (s.writeRecords start records).records })
      ∧ (∀ e : RoughingWrite, s.sized = true → e.group < 3 →
        (∀ c, c ∈ ((s.writeRoughing e).group e.group).members ↔ c < 6 ∧ c ∈ e.members)
          ∧ ((s.writeRoughing e).group e.group).holder = (s.group e.group).holder
          ∧ (∀ g, g ≠ e.group → (s.writeRoughing e).group g = s.group g)
          ∧ s.writeRoughing e = { s with groups := (s.writeRoughing e).groups })
      ∧ (∀ p v cfg r, s.executes m 19 = true → a.checkForce p v = none → s.point p = .set cfg r →
        exec (.forcePoint dt m p v) s =
          .next ((a.setPoint p (.set cfg { r with forced := some (min v cfg.engFull) })).answered m (okay .empty)))
      ∧ ∀ p cfg r, s.executes m 20 = true → s.point p = .set cfg r → p < 512 →
        exec (.releasePoint dt m p) s =
          .next ((a.setPoint p (.set cfg { r with forced := none })).answered m (okay .empty)))
    ∧ (∀ (s : State) (start : Nat) (records before after : List (List Byte)) (bs : List Byte),
      let good := fun k b => (∃ r, decodeRecord b = .ok r) ∧ s.useCount (start + k) = 0
      let i := start + before.length
      ((∀ k b, records[k]? = some b → good k b) → s.checkRecords start records = none)
        ∧ (records = before ++ bs :: after → (∀ k b, before[k]? = some b → good k b) →
          (∀ e, decodeRecord bs = .error e →
              s.checkRecords start records = some
                { code := .outOfRange,
                  body := .refusal { subject := some i, slot := e.slot, check := e.check, purpose := none, reason := none } })
            ∧ ∀ r, decodeRecord bs = .ok r → 0 < s.useCount i → s.checkRecords start records = some (refusal .inUse (some i) none)))
    ∧ (∀ bs : List Byte,
      let kind := byteAt bs 0 % 4
      let slot := fun from' k => decodeItem ((bs.drop (from' + 20 * k)).take 20)
      (kind = 3 → decodeRecord bs = .error { slot := none, check := none })
        ∧ (10 < byteAt bs 1 → kind = 1 → decodeRecord bs = .error { slot := none, check := some 0 })
        ∧ (∀ k, kind = 1 → decodeHead bs = .error k → decodeRecord bs = .error { slot := none, check := some k })
        ∧ ∀ from' slots k e, (kind = 1 ∧ (∃ h, decodeHead bs = .ok h) ∧ from' = 32 ∧ slots = 6)
              ∨ (kind = 2 ∧ from' = 8 ∧ slots = 10) → k < slots → (∀ j, j < k → ∃ i, slot from' j = .ok i) →
            slot from' k = .error e → decodeRecord bs = .error { slot := some k, check := some e })
    ∧ ∀ (s : State) (before after : List RoughingWrite) (e : RoughingWrite),
        let check := checkEntries RoughingWrite.group s.checkRoughing []
        let here := fun code => some (refusal code (some e.group) none)
        (check before = none →
            (e.group ∈ before.map (·.group) → check (before ++ e :: after) = here .badRequest)
              ∧ ∀ r, e.group ∉ before.map (·.group) → s.checkRoughing e = some r → check (before ++ e :: after) = some r)
          ∧ ((before.map (·.group)).Nodup → (∀ x ∈ before, s.checkRoughing x = none) → check before = none)
          ∧ (3 ≤ e.group ∨ (∃ c ∈ e.members, 6 ≤ c) → s.checkRoughing e = here .outOfRange)
          ∧ (e.group < 3 → (∀ c ∈ e.members, c < 6) →
              ((∃ c ∈ (s.group e.group).members, c ∉ e.members ∧ (s.ctx c).state ≠ .offline) →
                  s.checkRoughing e = here .inUse)
                ∧ ((∀ c ∈ (s.group e.group).members, c ∈ e.members ∨ (s.ctx c).state = .offline) →
                    s.checkRoughing e = none))

/-- FORCE_POINT's checks, in their order (R33). -/
def Obligations.ForcePointChecksInOrder : Prop :=
  ∀ (s : State) (p v : Nat),
    let here := fun code => some (refusal code (some p) none)
    (512 ≤ p → s.checkForce p v = here .outOfRange)
      ∧ (p < 512 → s.point p = .empty → s.checkForce p v = here .notFound)
      ∧ (∀ cfg st, p < 512 → s.point p = .sample cfg st → s.checkForce p v = here .badRequest)
      ∧ (∀ cfg r, p < 512 → s.point p = .set cfg r → cfg.quantity = .flow ∨ cfg.quantity = .power →
        s.checkForce p v = here .kindNotForceable)
      ∧ ∀ cfg r c, p < 512 → s.point p = .set cfg r → cfg.quantity ≠ .flow → cfg.quantity ≠ .power → cfg.owner = .ctx c →
        (s.isOpenOutput p = true → s.checkForce p v = here .inUse)
          ∧ (s.isOpenOutput p = false → (s.ctx c).busy = true →
            s.checkForce p v = some (notAllowed p (s.ctx c).state))
          ∧ (s.isOpenOutput p = false → (s.ctx c).busy = false → quantityMax cfg.quantity < v →
            s.checkForce p v = here .outOfRange)
          ∧ (s.isOpenOutput p = false → (s.ctx c).busy = false → v ≤ quantityMax cfg.quantity → s.checkForce p v = none)

/-- The writes of supply lines and gates are made, and trigger a scan, which in a quiet part admits nothing (R120, R153). A line is written
with the budget flag and the capacity of its entry, and keeps its reservations; a gate is written CLOSED with its output released and
at 0, or undefined; every other line and gate stays. An entry is checked for its index, its fields and its use: of a line by a FLOW SET
point of a context in RUNNING or DIVERTED (R120); of a gate by its state, by its output's other users, and by the GATE steps of held
records (R153). The check positions are those of log 14. -/
def Obligations.SupplyAndGateWritesAreMade : Prop :=
  (∀ (s : State) (dt : Nat) (m : Mailbox), s.quiet = true →
    let a := s.arrived dt
    (∀ entries : List SupplyWrite, s.executes m 34 = true → 1 ≤ entries.length → entries.length ≤ 12 →
      checkEntries SupplyWrite.line a.checkSupply [] entries = none →
      exec (.writeSupply dt m entries) s = .next ((entries.foldl State.writeSupply a).answered m (okay .empty)))
      ∧ (∀ entries : List GateWrite, s.executes m 38 = true → 1 ≤ entries.length → entries.length ≤ 8 →
        checkEntries GateWrite.index a.checkGate [] entries = none →
        exec (.writeGates dt m entries) s = .next ((entries.foldl State.writeGate a).answered m (okay .empty)))
      ∧ (∀ (g : Nat) (f : GateFields) (cfg : PointCfg) (r : SetRec), s.sized = true → g < 8 →
          s.point f.openOut = .set cfg r →
          (a.writeGate { index := g, content := some f }).gate g =
              some { cfg := f, state := .closed, timer := none, last := none, tripRaised := false }
            ∧ (∃ r', (a.writeGate { index := g, content := some f }).point f.openOut = .set cfg r' ∧ r'.t = 0
                ∧ r'.currentValue a.now = 0))
      ∧ (∀ e : SupplyWrite, s.sized = true → e.line < 12 →
        (a.writeSupply e).line e.line =
            { budget := e.budget, capacity := e.capacity, reservations := (s.line e.line).reservations }
          ∧ (∀ l, l ≠ e.line → (a.writeSupply e).line l = s.line l)
          ∧ a.writeSupply e = { a with lines := (a.writeSupply e).lines })
      ∧ ∀ e : GateWrite, (∀ k, k ≠ e.index → (a.writeGate e).gate k = s.gate k)
          ∧ (e.content = none → a.writeGate e = a.setGate e.index none)
          ∧ (s.sized = true → e.index < 8 → e.content = none → (a.writeGate e).gate e.index = none))
    ∧ (∀ (s : State) (e : SupplyWrite),
      let fed := ∃ p cfg r c, s.point p = .set cfg r ∧ cfg.quantity = .flow ∧ cfg.line = some e.line ∧ cfg.owner = .ctx c
        ∧ ((s.ctx c).state = .running ∨ (s.ctx c).state = .diverted)
      (12 ≤ e.line ∨ 100000 < e.capacity → s.checkSupply e = some (refusal .outOfRange (some e.line) none))
        ∧ (e.line < 12 → e.capacity ≤ 100000 → fed → s.checkSupply e = some (refusal .inUse (some e.line) none))
        ∧ (e.line < 12 → e.capacity ≤ 100000 → ¬fed → s.checkSupply e = none))
    ∧ ∀ (s : State) (e : GateWrite),
        let held := fun test : Record → Prop => ∃ i, 0 < s.useCount i ∧ test (s.record i)
        let used := (∃ x, s.gate e.index = some x ∧ x.state ≠ .closed ∧ ¬(x.state = .fault ∧ e.content = none))
          ∨ (∃ f, e.content = some f
              ∧ ((∃ k x, k < 8 ∧ k ≠ e.index ∧ s.gate k = some x ∧ x.cfg.openOut = f.openOut)
                ∨ held fun r => ∃ i, Item.set i ∈ r.items ∧ i.point = f.openOut))
          ∨ (e.content.map (·.owner) ≠ (s.gate e.index).map (·.cfg.owner)
              ∧ held fun r => ∃ h is more, r = .head h is more ∧ (h.kind = .gateOpen ∨ h.kind = .gateClose)
                  ∧ h.gate = some e.index)
        let listed := e.index < 8
          ∧ ∀ f, e.content = some f → firstFailing (gateChecks f) = none ∧ firstFailing (s.gatePoints f) = none
        (8 ≤ e.index → s.checkGate e = some (refusal .outOfRange (some e.index) none))
          ∧ (∀ f k, e.index < 8 → e.content = some f → firstFailing (gateChecks f) = some k →
              s.checkGate e = some (refusal .outOfRange (some e.index) (some k)))
          ∧ (∀ f k, e.index < 8 → e.content = some f → firstFailing (gateChecks f) = none →
              firstFailing (s.gatePoints f) = some k → s.checkGate e = some (refusal .outOfRange (some e.index) (some k)))
          ∧ (listed → used → s.checkGate e = some (refusal .inUse (some e.index) none))
          ∧ (listed → ¬used → s.checkGate e = none)
          ∧ ∀ f, firstFailing (s.gatePoints f) = none ↔
              (∃ cfg, s.pointEntry f.openOut = some (.set, cfg) ∧ cfg.quantity = .digital ∧ cfg.owner = .ctx f.owner)
                ∧ ∀ p, p = f.openSw ∨ p = f.closedSw → ∃ cfg, s.pointEntry p = some (.sample, cfg) ∧ cfg.quantity = .digital
                    ∧ (cfg.owner = .ctx f.owner ∨ cfg.owner = .shared)

/-- WRITE_CONTEXT with enable yes on an OFFLINE or IDLE context whose checks and walks pass stores the configuration, counts the
paths, loads masks and levels, and makes idle entry (R76, R77, R79); on a PARKED or HALTED one it replaces configuration and paths and
leaves the state (R77). With enable no it stores the configuration of an OFFLINE context, and disables an IDLE, PARKED or HALTED one:
OFFLINE, no step shown, no flag, no path and no force of its own, each queued job reported DISCARDED and its path released (R78). In a
quiet part, and to enable with no job queued. The points move as idle entry moves them, and not at all on a disable but for the forces.
The checks stand in the order of R75; the positions are those of log 14. -/
def Obligations.WriteContextEnablesAndDisables : Prop :=
  (∀ (s : State) (dt : Nat) (m : Mailbox) (c : Nat) (f : CtxFields) (paths : List (List Nat)) (counts : List Nat),
      s.quiet = true → s.sized = true → s.executes m 50 = true →
      (s.arrived dt).checkContext c f true = none → (s.arrived dt).validate c (ctxCfgOf f) = .ok (paths, counts) →
      (s.ctx c).queue = [] →
      let a := s.arrived dt
      let cfg := ctxCfgOf f
      ((s.ctx c).state = .offline ∨ (s.ctx c).state = .idle →
        ∃ t, exec (.writeContextEnable dt m c f) s = .next t
          ∧ (t.ctx c).state = .idle ∧ (t.ctx c).cfg = cfg ∧ (t.ctx c).paths = paths ∧ t.useCounts = counts
          ∧ (t.ctx c).cur = some cfg.idleStep ∧ (t.ctx c).masks = cfg.masks ∧ (t.ctx c).highs = cfg.highs
          ∧ (t.ctx c).autoPark = autoParkTimer a.now cfg ∧ (∀ d, d ≠ c → t.ctx d = a.ctx d)
          ∧ t.reports = s.reports ∧ t.gates = s.gates ∧ t.nodes = s.nodes
          ∧ t.points = (a.applyRest c cfg.idleStep).points ∧ t.holder = (a.answered m (okay .empty)).holder)
        ∧ ((∃ level, (s.ctx c).state = .parked level) ∨ (s.ctx c).state = .halted →
          exec (.writeContextEnable dt m c f) s =
            .next (({ a with useCounts := counts }.setCtx c
              { a.ctx c with cfg := cfg, paths := paths, masks := cfg.masks, highs := cfg.highs }).answered m (okay .empty))))
    ∧ (∀ (s : State) (dt : Nat) (m : Mailbox) (c : Nat) (f : CtxFields), s.quiet = true → s.sized = true →
      s.executes m 50 = true → (s.arrived dt).checkContext c f false = none →
      let a := s.arrived dt
      ((s.ctx c).state = .offline →
        exec (.writeContextDisable dt m c f) s =
          .next ((a.setCtx c { a.ctx c with cfg := ctxCfgOf f }).answered m (okay .empty)))
        ∧ ((s.ctx c).state ≠ .offline →
          ∃ t, exec (.writeContextDisable dt m c f) s = .next t
            ∧ (t.ctx c).state = .offline ∧ (t.ctx c).cur = none ∧ (t.ctx c).flags = 0 ∧ (t.ctx c).paths = []
            ∧ (t.ctx c).autoPark = none ∧ (t.ctx c).cfg = ctxCfgOf f ∧ (t.ctx c).queue = []
            ∧ t.useCounts = (s.ctx c).paths.foldl releasePath (((s.ctx c).queue.map (·.path)).foldl releasePath s.useCounts)
            ∧ (∀ p cfg r, t.point p = .set cfg r → cfg.owner = .ctx c → r.forced = none)
            ∧ t.points = (a.releaseForces c).points
            ∧ (s.reports.length + (s.ctx c).queue.length ≤ 64 →
                t.reports = s.reports ++ (s.ctx c).queue.map fun j =>
                  ({ ctx := some c, step := none, time := a.now, tag := some j.tag,
                     body := .jobEnd .discarded j.priority j.start 0 } : Report))
            ∧ (∀ d, d ≠ c → t.ctx d = a.ctx d) ∧ t.gates = s.gates))
    ∧ (∀ (s : State) (c : Nat) (f : CtxFields) (enable : Bool),
      let inRange := c < 6 ∧ firstFailing (ctxChecks f) = none ∧ firstFailing (s.ctxPoints c f) = none
      let barred := (s.ctx c).state ≠ .offline ∧ (enable = false ∨ f.pressure ≠ (s.ctx c).cfg.pressure)
        ∧ ∃ g x, s.gate g = some x ∧ (x.cfg.owner = c ∨ x.cfg.partner = c) ∧ x.state ≠ .closed
      (6 ≤ c → s.checkContext c f enable = some (refusal .outOfRange (some c) none))
        ∧ (∀ k, c < 6 → firstFailing (ctxChecks f) = some k →
            s.checkContext c f enable = some (refusal .outOfRange (some c) (some k)))
        ∧ (∀ k, c < 6 → firstFailing (ctxChecks f) = none → firstFailing (s.ctxPoints c f) = some k →
            s.checkContext c f enable = some (refusal .outOfRange (some c) (some k)))
        ∧ (inRange → (s.ctx c).busy = true → s.checkContext c f enable = some (notAllowed c (s.ctx c).state))
        ∧ (inRange → (s.ctx c).busy = false → barred → s.checkContext c f enable = some (refusal .inUse (some c) none))
        ∧ (inRange → (s.ctx c).busy = false → ¬barred → s.checkContext c f enable = none)
        ∧ (firstFailing (s.ctxPoints c f) = none ↔
            (∀ p, f.pressure = some p → s.reads c p = true ∧ s.quantityOf p = some .pressure)
              ∧ ∀ p, f.plasma = some p → s.reads c p = true ∧ s.quantityOf p = some .signal))
    ∧ ∀ (s : State) (dt : Nat) (m : Mailbox) (c : Nat) (f : CtxFields), s.executes m 50 = true →
        let a := s.arrived dt
        let answer := fun r => Host.Outcome.next (a.answered m r)
        (∀ r, a.checkContext c f true = some r → exec (.writeContextEnable dt m c f) s = answer r)
          ∧ (∀ r, a.checkContext c f false = some r → exec (.writeContextDisable dt m c f) s = answer r)
          ∧ ∀ p e, a.checkContext c f true = none → a.validate c (ctxCfgOf f) = .error (p, e) →
              exec (.writeContextEnable dt m c f) s = answer (invalidRecipe p e)

/-- SET_MASK writes the masks and levels of sources 4 to 15 into the request unit and the configuration, in any state of the context, and
an attempt at taking follows (R158): where it takes nothing, that is all; where it takes a request, that taking is carried to its end, as
far as log 10 carries it. The answer gives the masks and levels as written. The fields of sources 0 to 3 are not read. A context index
above 5, or a level of a source 4 to 15 that is neither LOW nor HIGH, is refused with OUT_OF_RANGE, which names the context and no
check position (log 14). -/
def Obligations.SetMaskWritesMasksAndLevels : Prop :=
  ∀ (s : State) (dt : Nat) (m : Mailbox) (c : Nat) (masks : BitVec 16) (levels : List Level), s.executes m 64 = true →
    let a := s.arrived dt
    let listed := ∀ l ∈ levels.drop 4, l = .low ∨ l = .high
    let mk := masks &&& programmable
    let hi := highBits (levels.drop 4) 4
    let b := a.setCtx c { a.ctx c with masks := mk, highs := hi, cfg := { (a.ctx c).cfg with masks := mk, highs := hi } }
    let run := exec (.setMask dt m c masks levels) s
    (s.agenda = [] → s.sized = true → c < 6 → listed →
        (b.toTake c = none → run = .next (b.answered m (okay (.masks mk hi))))
          ∧ (∀ src, b.toTake c = some src →
              run = .next ((settleFor (2 ^ 64 - 1) (b.take c src)).answered m (okay (.masks mk hi)))))
      ∧ (6 ≤ c ∨ ¬listed → run = .next (a.answered m (refusal .outOfRange (some c) none)))
      ∧ (∀ k, k < 4 → mk.getLsbD k = false ∧ hi.getLsbD k = false)
      ∧ ∀ k, 4 ≤ k → k < 16 → mk.getLsbD k = masks.getLsbD k ∧ (hi.getLsbD k = true ↔ levels[k]? = some .high)

/-- CLEAR_REQUEST clears the flags of the sources it names in any state of the context, and answers the flags before and after; nothing
else changes. A context index above 5 is refused with OUT_OF_RANGE (R159). -/
def Obligations.ClearRequestClearsFlags : Prop :=
  ∀ (s : State) (dt : Nat) (m : Mailbox) (c : Nat) (sources : BitVec 16), s.agenda = [] → s.sized = true →
    s.executes m 65 = true →
    let a := s.arrived dt
    (c ≤ 5 →
      exec (.clearRequest dt m c sources) s =
        .next ((a.setCtx c { a.ctx c with flags := (s.ctx c).flags &&& ~~~sources }).answered m
          (okay (.flags (s.ctx c).flags ((s.ctx c).flags &&& ~~~sources)))))
      ∧ (5 < c →
        exec (.clearRequest dt m c sources) s = .next (a.answered m (refusal .outOfRange (some c) none)))

/-- SUBMIT_JOB accepted counts the job's path and puts the job at the tail of the queue (R82). In WAKING, RUNNING, DIVERTED, HALTED, and
PARKED with wake-on-job clear, nothing else follows; in IDLE the job starts, and in PARKED with wake-on-job set the context is woken;
where its wake delay is 0, a scan that the wake triggers is run before the job's start (log 12, DESIGN CHOICE). The job start takes
the oldest job, which becomes the running one (R83). The refusals of SUBMIT_JOB stand in the order of R82; that each names the
context, and no check position, also where the tag, the start or the priority is out of range, is the model's reading of R180 (log 14,
DEDUCED). -/
def Obligations.SubmittedJobsQueueAndStart : Prop :=
  (∀ (s : State) (dt : Nat) (m : Mailbox) (c : Nat) (tag : BitVec 32) (start : Nat) (priority : Priority) (reportAll : Bool)
      (path counts : List Nat), s.agenda = [] → s.sized = true → s.executes m 80 = true →
    (s.arrived dt).checkSubmit c tag start (some priority) = none → (s.arrived dt).countJob c start = .ok (path, counts) →
    let a := s.arrived dt
    let b := { a with useCounts := counts }.setCtx c
      { a.ctx c with queue := (s.ctx c).queue ++
          [({ tag := tag, start := start, priority := priority, reportAll := reportAll, path := path } : Job)] }
    let answer := fun t : State =>
      t.answered m (okay (.submitted (t.ctx c).queue.length (!(t.ctx c).queue.any fun j => j.tag == tag)))
    let run := exec (.submitJob dt m c tag start (some priority) reportAll) s
    (((s.ctx c).state = .waking ∨ (s.ctx c).state = .running ∨ (s.ctx c).state = .diverted ∨ (s.ctx c).state = .halted →
        run = .next (b.answered m (okay (.submitted ((s.ctx c).queue.length + 1) false))))
      ∧ (∀ level, (s.ctx c).state = .parked level → (s.ctx c).cfg.wakeOnJob = false →
        run = .next (b.answered m (okay (.submitted ((s.ctx c).queue.length + 1) false))))
      ∧ ((s.ctx c).state = .idle → run = .next (answer (b.startJob c).settle))
      ∧ ∀ level, (s.ctx c).state = .parked level → (s.ctx c).cfg.wakeOnJob = true →
        run = .next (answer (b.wakeFrom c level).settle)))
    ∧ (∀ (s : State) (c : Nat) (j : Job) (rest : List Job), s.sized = true → c < 6 → (s.ctx c).queue = j :: rest →
      let t := s.startJob c
      (t.ctx c).job = some { job := j, startTime := s.now, runTime := 0 } ∧ (t.ctx c).queue = rest
        ∧ (t.ctx c).state = .running ∧ (t.ctx c).autoPark = none ∧ (t.ctx c).loops = [] ∧ (t.ctx c).cur = some j.start
        ∧ t.agenda = .takeUp c j.start 0 :: .attempt c :: s.agenda ∧ t.useCounts = s.useCounts
        ∧ (∀ p cfg r, t.point p = .set cfg r → cfg.owner = .ctx c → r.forced = none)
        ∧ t.reports = s.reports ∧ t.counters = s.counters)
    ∧ (∀ (s : State) (c : Nat) (tag : BitVec 32) (start : Nat) (priority : Option Priority),
      let run := s.checkSubmit c tag start priority
      let here := fun code => some (refusal code (some c) none)
      let inRange := c < 6 ∧ tag ≠ 0 ∧ start < 2048 ∧ priority ≠ none
      let held := ∃ x ∈ s.ctxs, (∃ j ∈ x.queue, j.tag = tag) ∨ ∃ j, x.job = some j ∧ j.job.tag = tag
      let queued := (s.ctx c).queue.length
      (¬inRange → run = here .outOfRange)
        ∧ (inRange → (s.ctx c).state = .offline → run = some (notAllowed c .offline))
        ∧ (inRange → (s.ctx c).state ≠ .offline → held → run = here .duplicateTag)
        ∧ (inRange → (s.ctx c).state ≠ .offline → ¬held → 4 ≤ queued → run = here .queueFull)
        ∧ (∀ e, inRange → (s.ctx c).state ≠ .offline → ¬held → queued < 4 → s.countJob c start = .error e →
            run = some (invalidRecipe .job e))
        ∧ (∀ ok, inRange → (s.ctx c).state ≠ .offline → ¬held → queued < 4 → s.countJob c start = .ok ok → run = none))
    ∧ ∀ (s : State) (dt : Nat) (m : Mailbox) (c : Nat) (tag : BitVec 32) (start : Nat) (priority : Option Priority)
        (reportAll : Bool) (r : Response), s.executes m 80 = true → (s.arrived dt).checkSubmit c tag start priority = some r →
        exec (.submitJob dt m c tag start priority reportAll) s = .next ((s.arrived dt).answered m r)

/-- CANCEL_JOB of a queued job takes it out and ends it CANCELLED (R84, R86); of the running job it raises OPERATOR_ABORT, as ABORT does
(R84, R85). Where a request is then taken, which in a context without in-service level or hold is OPERATOR_ABORT unless a request of
EMERGENCY level is pending, what its taking brings is carried to its end, as far as log 10 carries it; where none is, the flag and its
report are all. CANCEL_JOB is refused for an index above 5 and for a tag that no job of the context has; ABORT for an index above 5 and
in a context that is not in RUNNING or DIVERTED. -/
def Obligations.CancelAndAbort : Prop :=
  (∀ (s : State) (dt : Nat) (m : Mailbox) (c : Nat) (tag : BitVec 32), s.agenda = [] → s.sized = true → c < 6 →
    let a := s.arrived dt
    let x := a.ctx c
    let b := a.raiseFlag c .operatorAbort
    (∀ j, s.executes m 81 = true → (x.queue.find? fun j => j.tag == tag) = some j →
      exec (.cancelJob dt m c tag) s =
        .next (((a.setCtx c { x with queue := x.queue.filter fun k => k.tag != tag }).endJob c j .cancelled none 0).answered m
          (okay (.cancelled false))))
      ∧ (s.executes m 81 = true → (x.queue.any fun j => j.tag == tag) = false → x.jobTag = some tag → b.toTake c = none →
        exec (.cancelJob dt m c tag) s = .next (b.answered m (okay (.cancelled true))))
      ∧ (s.executes m 82 = true → x.active = true → b.toTake c = none →
        exec (.abort dt m c) s = .next (b.answered m (okay .empty)))
      ∧ (s.executes m 82 = true → x.active = false →
        exec (.abort dt m c) s = .next (a.answered m (notAllowed c x.state)))
      ∧ (∀ src, s.executes m 82 = true → x.active = true → b.toTake c = some src →
        exec (.abort dt m c) s = .next ((settleFor (2 ^ 64 - 2) (b.take c src)).answered m (okay .empty)))
      ∧ (∀ src, s.executes m 81 = true → (x.queue.any fun j => j.tag == tag) = false → x.jobTag = some tag →
        b.toTake c = some src →
        exec (.cancelJob dt m c tag) s =
          .next ((settleFor (2 ^ 64 - 2) (b.take c src)).answered m (okay (.cancelled true))))
      ∧ (x.active = true → x.isl = .none → a.hold c = false → x.flags.getLsbD 0 = false → x.flags.getLsbD 1 = false →
          x.flags.getLsbD 2 = false → b.toTake c = some .operatorAbort))
    ∧ ∀ (s : State) (dt : Nat) (m : Mailbox) (c : Nat) (tag : BitVec 32),
        let a := s.arrived dt
        let answer := fun r => Host.Outcome.next (a.answered m r)
        (s.executes m 81 = true → 6 ≤ c → exec (.cancelJob dt m c tag) s = answer (refusal .outOfRange (some c) none))
          ∧ (s.executes m 81 = true → c < 6 → ((s.ctx c).queue.any fun j => j.tag == tag) = false →
              (s.ctx c).jobTag ≠ some tag → exec (.cancelJob dt m c tag) s = answer (refusal .notFound (some c) none))
          ∧ (s.executes m 82 = true → 6 ≤ c → exec (.abort dt m c) s = answer (refusal .outOfRange (some c) none))

/-- CLEAR of a HALTED context discards its flags and makes idle entry (R90, R79), which moves the points as the idle step gives; here with
no job queued, in a quiet part. With jobs queued it makes the same idle entry, whose work is carried to its end, a scan that it
triggers before the queued job's start (log 12, DESIGN CHOICE). With an EMERGENCY flag set it is refused with REQUEST_PENDING, in
another state with NOT_ALLOWED_IN_STATE, and for an index above 5 with OUT_OF_RANGE. -/
def Obligations.ClearBringsHaltedToIdle : Prop :=
  (∀ (s : State) (dt : Nat) (m : Mailbox) (c : Nat), s.executes m 83 = true → 6 ≤ c →
      exec (.clear dt m c) s = .next ((s.arrived dt).answered m (refusal .outOfRange (some c) none)))
    ∧ ∀ (s : State) (dt : Nat) (m : Mailbox) (c : Nat), s.quiet = true → s.sized = true → s.executes m 83 = true → c < 6 →
    let a := s.arrived dt
    ((s.ctx c).state = .halted → (s.ctx c).flags &&& 7 = 0 → (s.ctx c).queue = [] →
      ∃ t, exec (.clear dt m c) s = .next t
        ∧ (t.ctx c).state = .idle ∧ (t.ctx c).flags = 0 ∧ (t.ctx c).cur = some (s.ctx c).cfg.idleStep
        ∧ (t.ctx c).loops = [] ∧ t.holdsPlant c = false ∧ (∀ d, d ≠ c → t.ctx d = a.ctx d) ∧ t.reports = s.reports
        ∧ t.points = (a.applyRest c (s.ctx c).cfg.idleStep).points)
      ∧ ((s.ctx c).state = .halted → (s.ctx c).flags &&& 7 = 0 →
        exec (.clear dt m c) s =
          .next (((a.setCtx c { a.ctx c with flags := 0 }).idleEntry c).settle.answered m (okay .empty)))
      ∧ ((s.ctx c).state = .halted → (s.ctx c).flags &&& 7 ≠ 0 →
        exec (.clear dt m c) s = .next (a.answered m (refusal .requestPending (some c) none)))
      ∧ ((s.ctx c).state ≠ .halted →
        exec (.clear dt m c) s = .next (a.answered m (notAllowed c (s.ctx c).state)))

/-- PARK in IDLE or WAKING, and the auto-park expiry in IDLE, bring the context to PARKED on its park step with both its timers stopped
(R80, R87); the points move as the park step gives, those of FLOW and POWER that it does not name to 0. PARK is refused for an index
above 5, then for a level that is neither, then in any other state. In a quiet part. -/
def Obligations.ParkBringsToRest : Prop :=
  (∀ (s : State) (dt : Nat) (m : Mailbox) (c : Nat) (level : Option ParkLevel), s.executes m 84 = true → 6 ≤ c ∨ level = none →
      exec (.park dt m c level) s = .next ((s.arrived dt).answered m (refusal .outOfRange (some c) none)))
    ∧ ∀ (s : State) (dt c : Nat), s.quiet = true → s.sized = true → c < 6 →
    (∀ m level, s.executes m 84 = true → (s.ctx c).state = .idle ∨ (s.ctx c).state = .waking →
      ∃ t, exec (.park dt m c (some level)) s = .next t
        ∧ (t.ctx c).state = .parked level ∧ (t.ctx c).cur = some ((s.ctx c).cfg.parkStep level)
        ∧ (t.ctx c).autoPark = none ∧ (t.ctx c).wakeDelay = none ∧ (t.ctx c).marker = false
        ∧ (t.ctx c).queue = (s.ctx c).queue ∧ (∀ d, d ≠ c → t.ctx d = (s.arrived dt).ctx d)
        ∧ t.points = ((s.arrived dt).applyRest c ((s.ctx c).cfg.parkStep level)).points
        ∧ t.reports = s.reports ∧ t.lines = s.lines)
      ∧ (∀ m level, s.executes m 84 = true → (s.ctx c).state ≠ .idle → (s.ctx c).state ≠ .waking →
        exec (.park dt m c (some level)) s = .next ((s.arrived dt).answered m (notAllowed c (s.ctx c).state)))
      ∧ ((s.ctx c).state = .idle → timerDue (s.ctx c).autoPark (s.advance dt).now = true →
        ∃ t, exec (.autoParkExpiry dt c) s = .next t
          ∧ (t.ctx c).state = .parked .light ∧ (t.ctx c).cur = some (s.ctx c).cfg.parkLight
          ∧ (t.ctx c).autoPark = none ∧ (t.ctx c).wakeDelay = none ∧ (∀ d, d ≠ c → t.ctx d = (s.advance dt).ctx d)
          ∧ t.points = ((s.advance dt).applyRest c (s.ctx c).cfg.parkLight).points
          ∧ t.reports = s.reports ∧ t.lines = s.lines)

/-- WAKE in PARKED brings the context to WAKING on its idle step, its points moved as that step gives and its forces released, with the
wake delay of the level it leaves, and to IDLE at once where that delay is 0; in any other state it changes nothing, and an index above
5 is refused (R88). The end of the delay brings it to IDLE (R89). In a quiet part, with no job queued. -/
def Obligations.WakeBringsToIdle : Prop :=
  (∀ (s : State) (dt : Nat) (m : Mailbox) (c : Nat), s.executes m 85 = true → 6 ≤ c →
      exec (.wake dt m c) s = .next ((s.arrived dt).answered m (refusal .outOfRange (some c) none)))
    ∧ ∀ (s : State) (dt c : Nat), s.quiet = true → s.sized = true → c < 6 →
    (∀ m level, s.executes m 85 = true → (s.ctx c).state = .parked level → (s.ctx c).cfg.wakeCode level ≠ 0 →
      (s.ctx c).cfg.wakeCode level ≤ 7 →
      ∃ t, exec (.wake dt m c) s = .next t
        ∧ (t.ctx c).state = .waking ∧ (t.ctx c).cur = some (s.ctx c).cfg.idleStep
        ∧ (t.ctx c).wakeDelay =
            some { start := (s.arrived dt).now, dur := wakeSeconds ((s.ctx c).cfg.wakeCode level) * 1000000 }
        ∧ (∀ p cfg r, t.point p = .set cfg r → cfg.owner = .ctx c → r.forced = none)
        ∧ t.points = (((s.arrived dt).applyRest c (s.ctx c).cfg.idleStep).releaseForces c).points
        ∧ (∀ d, d ≠ c → t.ctx d = (s.arrived dt).ctx d) ∧ t.reports = s.reports)
      ∧ (∀ m level, s.executes m 85 = true → (s.ctx c).state = .parked level → (s.ctx c).cfg.wakeCode level = 0 →
        (s.ctx c).queue = [] →
        ∃ t, exec (.wake dt m c) s = .next t
          ∧ (t.ctx c).state = .idle ∧ (t.ctx c).cur = some (s.ctx c).cfg.idleStep ∧ (t.ctx c).wakeDelay = none
          ∧ (t.ctx c).autoPark = autoParkTimer (s.arrived dt).now (s.ctx c).cfg
          ∧ t.points = (((s.arrived dt).applyRest c (s.ctx c).cfg.idleStep).releaseForces c).points
          ∧ (∀ d, d ≠ c → t.ctx d = (s.arrived dt).ctx d) ∧ t.reports = s.reports)
      ∧ (∀ m, s.executes m 85 = true → (∀ level, (s.ctx c).state ≠ .parked level) →
        exec (.wake dt m c) s = .next ((s.arrived dt).answered m (okay .empty)))
      ∧ ((s.ctx c).state = .waking → timerDue (s.ctx c).wakeDelay (s.advance dt).now = true → (s.ctx c).queue = [] →
        ∃ t, exec (.wakeDelayExpiry dt c) s = .next t
          ∧ (t.ctx c).state = .idle ∧ (t.ctx c).wakeDelay = none
          ∧ (t.ctx c).autoPark = autoParkTimer (s.advance dt).now (s.ctx c).cfg ∧ t.points = s.points
          ∧ (∀ d, d ≠ c → t.ctx d = (s.advance dt).ctx d) ∧ t.reports = s.reports)

/-- SOFT_RESET changes no state at T: its OK enters the holder, marked to reset the part when it leaves (R190); a code that Table 10-2
does not list is refused with BAD_REQUEST (R178). A frame whose request is executed (R14) is executed as the request of its own code also
with a command that carries another request or none; its fields are then what its body spells, to which the manual gives no places:
a free value, whatever it is (log 2). -/
def Obligations.SoftResetWaitsAndUnknownCodesAreRefused : Prop :=
  (∀ (s : State) (dt : Nat) (m : Mailbox),
    (s.executes m 113 = true → s.agenda = [] →
      exec (.softReset dt m) s = .next ((s.arrived dt).holdResponse m.frame (okay .empty) true))
      ∧ (goodCheck m.frame = true → classify s.inUse.address m.frame = .mailbox → s.holder = none →
          s.loader.state ≠ .loading → largestBody (requestCode m.frame) = none →
          exec (.unknownRequestCode dt m) s = .next ((s.arrived dt).answered m badRequest)))
    ∧ ∀ (s : State) (dt : Nat) (m : Mailbox), s.executesFrame m.frame = true →
        let t := (s.arrived dt).executeSpelled m.frame
        exec (.mailboxHolderFull dt m.frame) s = .next t ∧ exec (.unknownRequestCode dt m) s = .next t
          ∧ (requestCode m.frame ≠ 113 → exec (.softReset dt m) s = .next t)
          ∧ ∃ q : Request, requestOf (Config.fields m.frame) (requestCode m.frame) = some q ∧ q.code = requestCode m.frame
              ∧ t = (s.arrived dt).perform { frame := m.frame, complete := (Config.fields m.frame).complete } q

end
end

