-- ==== Sys2Proof/Laws/Kept.lean ====
section
/-!
SUPPORT. Sys2Proof/Laws/Kept.lean: what no piece of an event's work touches: the queue of commands, the free values, the part time, the
straps, what left at port D, the bad-check run and DEGRADED, the mailbox holder, the loader and its values, and the recipe store's
records. One lemma for each operation, and from them one for the whole cascade.
-/
namespace Sys2Proof.Machine

/-- The parts of the state that no piece of work touches. -/
def State.kept (s : State) :=
  (s.pending, s.free, s.now, s.straps, s.sentD, s.badRun, s.degraded, s.holder, s.loader, s.inUse, s.records)

section
variable (s : State)

@[simp] theorem State.kept_setPoint (p : Nat) (x : Point) : (s.setPoint p x).kept = s.kept := rfl
@[simp] theorem State.kept_setNode (n : Nat) (x : Option Node) : (s.setNode n x).kept = s.kept := rfl
@[simp] theorem State.kept_setCtx (c : Nat) (x : Ctx) : (s.setCtx c x).kept = s.kept := rfl
@[simp] theorem State.kept_setGate (g : Nat) (x : Option Gate) : (s.setGate g x).kept = s.kept := rfl
@[simp] theorem State.kept_push (ts : List Task) : (s.push ts).kept = s.kept := rfl
@[simp] theorem State.kept_count (n : Nat) : (s.count n).kept = s.kept := rfl
@[simp] theorem State.kept_sendU (f : Frame) : (s.sendU f).kept = s.kept := rfl
@[simp] theorem State.kept_removeEntry (c : Nat) : (s.removeEntry c).kept = s.kept := rfl
@[simp] theorem State.kept_zeroHot (c : Nat) : (s.zeroHot c).kept = s.kept := rfl
@[simp] theorem State.kept_zeroOthers (c : Nat) (is : List SetItem) : (s.zeroOthers c is).kept = s.kept := rfl
@[simp] theorem State.kept_releaseForces (c : Nat) : (s.releaseForces c).kept = s.kept := rfl
@[simp] theorem State.kept_staleNode (n : Nat) : (s.staleNode n).kept = s.kept := rfl
@[simp] theorem State.kept_release (c : Nat) : (s.release c).kept = s.kept := rfl
@[simp] theorem State.kept_modStep (c : Nat) (f : StepState → StepState) : (s.modStep c f).kept = s.kept := rfl
@[simp] theorem State.kept_setReservations (c : Nat) (f : Nat → Nat → Nat) : (s.setReservations c f).kept = s.kept := rfl
@[simp] theorem State.kept_claimGroups (c : Nat) (g : Option Nat) : (s.claimGroups c g).kept = s.kept := rfl
@[simp] theorem State.kept_lowerReservations (c : Nat) (st : StepState) : (s.lowerReservations c st).kept = s.kept := rfl
@[simp] theorem State.kept_raisePlant (c : Nat) (st : StepState) : (s.raisePlant c st).kept = s.kept := rfl
@[simp] theorem State.kept_reformNeeds (c : Nat) : (s.reformNeeds c).kept = s.kept := rfl
@[simp] theorem State.kept_ringUp : s.ringUp.kept = s.kept := rfl
@[simp] theorem State.kept_agenda (ts : List Task) : { s with agenda := ts }.kept = s.kept := rfl
@[simp] theorem State.kept_waits (ws : List WaitEntry) : { s with waits := ws }.kept = s.kept := rfl
@[simp] theorem State.kept_useCounts (us : List Nat) : { s with useCounts := us }.kept = s.kept := rfl
@[simp] theorem State.kept_enterGap : s.enterGap.kept = s.kept := rfl

@[simp] theorem State.kept_triggerIf (b : Bool) : (s.triggerIf b).kept = s.kept := by
  unfold State.triggerIf; split <;> rfl

@[simp] theorem State.kept_report (c st : Option Nat) (tag : Option (BitVec 32)) (b : ReportBody) :
    (s.report c st tag b).kept = s.kept := by
  unfold State.report; split <;> rfl

@[simp] theorem State.kept_retarget (p t d : Nat) : (s.retarget p t d).kept = s.kept := by
  unfold State.retarget; split <;> rfl

@[simp] theorem State.kept_applyItems (is : List SetItem) : (s.applyItems is).kept = s.kept := by
  induction is generalizing s with
  | nil => rfl
  | cons i is ih => simp [State.applyItems, ih]

@[simp] theorem State.kept_applyRest (c h : Nat) : (s.applyRest c h).kept = s.kept := by simp [State.applyRest]

@[simp] theorem State.kept_startStep (c : Nat) (st : StepState) : (s.startStep c st).kept = s.kept := by
  unfold State.startStep; dsimp only; split <;> (try split) <;> simp

@[simp] theorem State.kept_admitStep (c : Nat) (st : StepState) (e : Bool) : (s.admitStep c st e).kept = s.kept := by
  unfold State.admitStep; simp only [State.kept_push]; split <;> split <;> simp

@[simp] theorem State.kept_present (c : Nat) (st : StepState) : (s.present c st).kept = s.kept := by
  unfold State.present; dsimp only; split <;> (try split) <;> simp

@[simp] theorem State.kept_trigger : s.trigger.kept = s.kept := by unfold State.trigger; split <;> rfl

@[simp] theorem State.kept_scanOn (left : List Nat) : (s.scanOn left).kept = s.kept := by
  unfold State.scanOn; split
  · split <;> rfl
  · split
    · rfl
    · split <;> simp

@[simp] theorem State.kept_endJob (c : Nat) (j : Job) (o : JobOutcome) (st : Option Nat) (r : Nat) :
    (s.endJob c j o st r).kept = s.kept := by
  unfold State.endJob; dsimp only; split <;> simp

@[simp] theorem State.kept_endRunning (c : Nat) (o : JobOutcome) : (s.endRunning c o).kept = s.kept := by
  unfold State.endRunning; dsimp only; split <;> simp

@[simp] theorem State.kept_startJob (c : Nat) : (s.startJob c).kept = s.kept := by
  unfold State.startJob; dsimp only; split <;> simp

@[simp] theorem State.kept_rest (c h : Nat) (st : CtxState) : (s.rest c h st).kept = s.kept := by simp [State.rest]

@[simp] theorem State.kept_idleRest (c : Nat) : (s.idleRest c).kept = s.kept := by simp [State.idleRest]

@[simp] theorem State.kept_idleEntry (c : Nat) : (s.idleEntry c).kept = s.kept := by simp [State.idleEntry]

@[simp] theorem State.kept_restStart (c : Nat) : (s.restStart c).kept = s.kept := by
  unfold State.restStart; dsimp only; split <;> (try split) <;> simp

@[simp] theorem State.kept_parkAt (c : Nat) (l : ParkLevel) : (s.parkAt c l).kept = s.kept := by simp [State.parkAt]

@[simp] theorem State.kept_wakeEnd (c : Nat) : (s.wakeEnd c).kept = s.kept := by simp [State.wakeEnd]

@[simp] theorem State.kept_wakeFrom (c : Nat) (l : ParkLevel) : (s.wakeFrom c l).kept = s.kept := by
  unfold State.wakeFrom; dsimp only; split <;> simp

@[simp] theorem State.kept_reportStep (c : Nat) (st : StepState) (r : EndReason) : (s.reportStep c st r).kept = s.kept := by
  unfold State.reportStep; dsimp only; split <;> simp

@[simp] theorem State.kept_endStep (c : Nat) (r : EndReason) : (s.endStep c r).kept = s.kept := by
  unfold State.endStep; split <;> simp

@[simp] theorem State.kept_returnStep (c : Nat) : (s.returnStep c).kept = s.kept := by
  unfold State.returnStep; dsimp only; split <;> simp

@[simp] theorem State.kept_haltStep (c : Nat) : (s.haltStep c).kept = s.kept := by simp [State.haltStep]

@[simp] theorem State.kept_abandonStep (c : Nat) : (s.abandonStep c).kept = s.kept := by simp [State.abandonStep]

@[simp] theorem State.kept_jobEndStep (c : Nat) : (s.jobEndStep c).kept = s.kept := by
  unfold State.jobEndStep; split <;> simp

@[simp] theorem State.kept_loopEnd (c : Nat) (st : Step) : (s.loopEnd c st).kept = s.kept := by
  unfold State.loopEnd; dsimp only; split <;> (try split) <;> simp

@[simp] theorem State.kept_loopBegin (c h : Nat) (st : Step) : (s.loopBegin c h st).kept = s.kept := by
  simp [State.loopBegin]

@[simp] theorem State.kept_takeUpStep (c h k : Nat) (st : Step) : (s.takeUpStep c h k st).kept = s.kept := by
  unfold State.takeUpStep; split <;> simp

@[simp] theorem State.kept_takeUp (c h k : Nat) : (s.takeUp c h k).kept = s.kept := by
  unfold State.takeUp; split
  · rfl
  · split <;> simp

@[simp] theorem State.kept_evaluateEnd (c : Nat) (st : StepState) (new : List Cond) :
    (s.evaluateEnd c st new).kept = s.kept := by
  unfold State.evaluateEnd; dsimp only; split <;> simp

@[simp] theorem State.kept_admitEnd (c : Nat) : (s.admitEnd c).kept = s.kept := by
  unfold State.admitEnd; split
  · rfl
  · split <;> (try split) <;> (try split) <;> simp

@[simp] theorem State.kept_notifyCtx (c i l : Nat) : (s.notifyCtx c i l).kept = s.kept := by
  unfold State.notifyCtx; dsimp only; split
  · rfl
  · split
    · rfl
    · split <;> simp

@[simp] theorem State.kept_raiseFlag (c : Nat) (src : Source) : (s.raiseFlag c src).kept = s.kept := by
  unfold State.raiseFlag; dsimp only; split <;> simp

@[simp] theorem State.kept_raise (c : Nat) (src : Source) : (s.raise c src).kept = s.kept := by simp [State.raise]

@[simp] theorem State.kept_abandonStanding (c : Nat) : (s.abandonStanding c).kept = s.kept := by
  unfold State.abandonStanding; split <;> simp

@[simp] theorem State.kept_emergencyZero (c : Nat) (l : Level) : (s.emergencyZero c l).kept = s.kept := by
  unfold State.emergencyZero; split <;> simp

@[simp] theorem State.kept_take (c : Nat) (src : Source) : (s.take c src).kept = s.kept := by simp [State.take]

@[simp] theorem State.kept_attempt (c : Nat) : (s.attempt c).kept = s.kept := by unfold State.attempt; split <;> simp

@[simp] theorem State.kept_changeGate (g : Nat) (x y : Gate) (cause : GateCause) (r : Option Reading) :
    (s.changeGate g x y cause r).kept = s.kept := by simp [State.changeGate]

@[simp] theorem State.kept_enterFault (g : Nat) (x : Gate) (cause : GateCause) (r : Option Reading) :
    (s.enterFault g x cause r).kept = s.kept := by
  unfold State.enterFault; dsimp only; simp only [State.kept_changeGate]; split <;> split <;> simp

@[simp] theorem State.kept_openGate (g : Nat) (x : Gate) (cause : GateCause) : (s.openGate g x cause).kept = s.kept := by
  simp [State.openGate]

@[simp] theorem State.kept_closeGate (g : Nat) (x : Gate) (cause : GateCause) : (s.closeGate g x cause).kept = s.kept := by
  unfold State.closeGate; split <;> simp

@[simp] theorem State.kept_gateStart (c g : Nat) (o : Bool) : (s.gateStart c g o).kept = s.kept := by
  unfold State.gateStart; split <;> (try split) <;> (try split) <;> simp

@[simp] theorem State.kept_tellSequencer (g : Nat) : (s.tellSequencer g).kept = s.kept := by
  unfold State.tellSequencer; split
  · rfl
  · split
    · rfl
    · dsimp only; split <;> split <;> simp

@[simp] theorem State.kept_tellUnit (g : Nat) (h : Bool) : (s.tellUnit g h).kept = s.kept := by
  unfold State.tellUnit; split
  · rfl
  · dsimp only; split <;> (try split) <;> simp

@[simp] theorem State.kept_nodeReport (n : Nat) (x : Node) (e : NodeEvent) (t : Byte) :
    (s.nodeReport n x e t).kept = s.kept := by simp [State.nodeReport]

@[simp] theorem State.kept_seeNode (n : Nat) (x : Node) (t : Byte) : (s.seeNode n x t).kept = s.kept := by
  unfold State.seeNode; dsimp only; split <;> simp

@[simp] theorem State.kept_missNode (n : Nat) (x : Node) (t : Byte) (k : Bool) : (s.missNode n x t k).kept = s.kept := by
  unfold State.missNode; dsimp only; split <;> split <;> (try split) <;> simp

@[simp] theorem State.kept_evaluateNode (n : Nat) (t : Byte) : (s.evaluateNode n t).kept = s.kept := by
  unfold State.evaluateNode; split <;> (try split) <;> simp

@[simp] theorem State.kept_collectPoint (p x : Nat) : (s.collectPoint p x).kept = s.kept := by
  unfold State.collectPoint; split
  · split
    · dsimp only; split <;> (try split) <;> simp
    · simp
  · rfl

@[simp] theorem State.kept_readGate (g i l : Nat) : (s.readGate g i l).kept = s.kept := by
  unfold State.readGate; split
  · rfl
  · split
    · rfl
    · split <;> simp

@[simp] theorem State.kept_compareGate (g i l : Nat) : (s.compareGate g i l).kept = s.kept := by
  unfold State.compareGate; split
  · rfl
  · dsimp only; split
    · split <;> simp
    · rfl

@[simp] theorem State.kept_motionExpiry (g : Nat) : (s.motionExpiry g).kept = s.kept := by
  unfold State.motionExpiry; split <;> (try split) <;> simp

@[simp] theorem State.kept_notifyArbiter (i l : Nat) : (s.notifyArbiter i l).kept = s.kept := by
  simp [State.notifyArbiter]

@[simp] theorem State.kept_finishReturn (i : Nat) (f : Frame) : (s.finishReturn i f).kept = s.kept := by
  unfold State.finishReturn; dsimp only; split <;> simp

/-- No piece of work touches what is kept. -/
@[simp] theorem doTask_kept (t : Task) : (doTask t s).kept = s.kept := by cases t <;> simp [doTask]

/-- What every piece of work keeps, the cascade keeps. -/
theorem settleFor_induction (P : State → Prop) (hd : ∀ t s, P s → P (doTask t s))
    (ha : ∀ (s : State) ts, P s → P { s with agenda := ts }) (n : Nat) : ∀ s, P s → P (settleFor n s) := by
  induction n with
  | zero => intro s h; exact ha s [] h
  | succ n ih =>
    intro s h
    unfold settleFor
    split
    · exact h
    · exact ih _ (hd _ _ (ha s _ h))

/-- What every piece of work keeps, an event keeps. -/
theorem State.settle_induction (P : State → Prop) (hd : ∀ t s, P s → P (doTask t s))
    (ha : ∀ (s : State) ts, P s → P { s with agenda := ts }) (h : P s) : P s.settle :=
  settleFor_induction P hd ha _ s h

/-- The cascade touches nothing of what is kept. -/
@[simp] theorem State.kept_settle : s.settle.kept = s.kept :=
  s.settle_induction (fun t => t.kept = s.kept) (fun t u h => by simpa using h) (fun u ts h => by simpa using h) rfl

/-- With no work left, settling changes nothing. -/
theorem State.settle_of_nil (h : s.agenda = []) : s.settle = s := by
  unfold State.settle cascadeLimit
  rw [show (2 : Nat) ^ 64 = (2 ^ 64 - 1) + 1 from rfl, settleFor, h]

/-- An event leaves no work behind. -/
theorem settleFor_agenda (n : Nat) : ∀ s : State, (settleFor n s).agenda = [] := by
  induction n with
  | zero => intro s; rfl
  | succ n ih =>
    intro s
    unfold settleFor
    split
    · assumption
    · exact ih _

/-- An event leaves no work behind. -/
@[simp] theorem State.settle_agenda : s.settle.agenda = [] := settleFor_agenda _ s

end

end Sys2Proof.Machine
end

