-- ==== Sys2Proof/Laws/State.lean ====
section
/-!
SUPPORT. Sys2Proof/Laws/State.lean: what each shared update of the state does to each of its fields, and reading a table entry after
writing one.
-/
namespace Sys2Proof.Machine

/-! ### `State.setPoint` -/

@[simp] theorem State.setPoint_pending (s : State) (p : Nat) (x : Point) : (s.setPoint p x).pending = s.pending := rfl
@[simp] theorem State.setPoint_agenda (s : State) (p : Nat) (x : Point) : (s.setPoint p x).agenda = s.agenda := rfl
@[simp] theorem State.setPoint_free (s : State) (p : Nat) (x : Point) : (s.setPoint p x).free = s.free := rfl
@[simp] theorem State.setPoint_now (s : State) (p : Nat) (x : Point) : (s.setPoint p x).now = s.now := rfl
@[simp] theorem State.setPoint_straps (s : State) (p : Nat) (x : Point) : (s.setPoint p x).straps = s.straps := rfl
@[simp] theorem State.setPoint_sentU (s : State) (p : Nat) (x : Point) : (s.setPoint p x).sentU = s.sentU := rfl
@[simp] theorem State.setPoint_sentD (s : State) (p : Nat) (x : Point) : (s.setPoint p x).sentD = s.sentD := rfl
@[simp] theorem State.setPoint_ring (s : State) (p : Nat) (x : Point) : (s.setPoint p x).ring = s.ring := rfl
@[simp] theorem State.setPoint_gapTimer (s : State) (p : Nat) (x : Point) : (s.setPoint p x).gapTimer = s.gapTimer := rfl
@[simp] theorem State.setPoint_badRun (s : State) (p : Nat) (x : Point) : (s.setPoint p x).badRun = s.badRun := rfl
@[simp] theorem State.setPoint_degraded (s : State) (p : Nat) (x : Point) : (s.setPoint p x).degraded = s.degraded := rfl
@[simp] theorem State.setPoint_holder (s : State) (p : Nat) (x : Point) : (s.setPoint p x).holder = s.holder := rfl
@[simp] theorem State.setPoint_loader (s : State) (p : Nat) (x : Point) : (s.setPoint p x).loader = s.loader := rfl
@[simp] theorem State.setPoint_inUse (s : State) (p : Nat) (x : Point) : (s.setPoint p x).inUse = s.inUse := rfl
@[simp] theorem State.setPoint_points (s : State) (p : Nat) (x : Point) : (s.setPoint p x).points = s.points.set p x := rfl
@[simp] theorem State.setPoint_nodes (s : State) (p : Nat) (x : Point) : (s.setPoint p x).nodes = s.nodes := rfl
@[simp] theorem State.setPoint_records (s : State) (p : Nat) (x : Point) : (s.setPoint p x).records = s.records := rfl
@[simp] theorem State.setPoint_useCounts (s : State) (p : Nat) (x : Point) : (s.setPoint p x).useCounts = s.useCounts := rfl
@[simp] theorem State.setPoint_ctxs (s : State) (p : Nat) (x : Point) : (s.setPoint p x).ctxs = s.ctxs := rfl
@[simp] theorem State.setPoint_lines (s : State) (p : Nat) (x : Point) : (s.setPoint p x).lines = s.lines := rfl
@[simp] theorem State.setPoint_groups (s : State) (p : Nat) (x : Point) : (s.setPoint p x).groups = s.groups := rfl
@[simp] theorem State.setPoint_waits (s : State) (p : Nat) (x : Point) : (s.setPoint p x).waits = s.waits := rfl
@[simp] theorem State.setPoint_scanning (s : State) (p : Nat) (x : Point) : (s.setPoint p x).scanning = s.scanning := rfl
@[simp] theorem State.setPoint_scanAgain (s : State) (p : Nat) (x : Point) : (s.setPoint p x).scanAgain = s.scanAgain := rfl
@[simp] theorem State.setPoint_gates (s : State) (p : Nat) (x : Point) : (s.setPoint p x).gates = s.gates := rfl
@[simp] theorem State.setPoint_reports (s : State) (p : Nat) (x : Point) : (s.setPoint p x).reports = s.reports := rfl
@[simp] theorem State.setPoint_lost (s : State) (p : Nat) (x : Point) : (s.setPoint p x).lost = s.lost := rfl
@[simp] theorem State.setPoint_counters (s : State) (p : Nat) (x : Point) : (s.setPoint p x).counters = s.counters := rfl

/-! ### `State.setNode` -/

@[simp] theorem State.setNode_pending (s : State) (n : Nat) (x : Option Node) : (s.setNode n x).pending = s.pending := rfl
@[simp] theorem State.setNode_agenda (s : State) (n : Nat) (x : Option Node) : (s.setNode n x).agenda = s.agenda := rfl
@[simp] theorem State.setNode_free (s : State) (n : Nat) (x : Option Node) : (s.setNode n x).free = s.free := rfl
@[simp] theorem State.setNode_now (s : State) (n : Nat) (x : Option Node) : (s.setNode n x).now = s.now := rfl
@[simp] theorem State.setNode_straps (s : State) (n : Nat) (x : Option Node) : (s.setNode n x).straps = s.straps := rfl
@[simp] theorem State.setNode_sentU (s : State) (n : Nat) (x : Option Node) : (s.setNode n x).sentU = s.sentU := rfl
@[simp] theorem State.setNode_sentD (s : State) (n : Nat) (x : Option Node) : (s.setNode n x).sentD = s.sentD := rfl
@[simp] theorem State.setNode_ring (s : State) (n : Nat) (x : Option Node) : (s.setNode n x).ring = s.ring := rfl
@[simp] theorem State.setNode_gapTimer (s : State) (n : Nat) (x : Option Node) : (s.setNode n x).gapTimer = s.gapTimer := rfl
@[simp] theorem State.setNode_badRun (s : State) (n : Nat) (x : Option Node) : (s.setNode n x).badRun = s.badRun := rfl
@[simp] theorem State.setNode_degraded (s : State) (n : Nat) (x : Option Node) : (s.setNode n x).degraded = s.degraded := rfl
@[simp] theorem State.setNode_holder (s : State) (n : Nat) (x : Option Node) : (s.setNode n x).holder = s.holder := rfl
@[simp] theorem State.setNode_loader (s : State) (n : Nat) (x : Option Node) : (s.setNode n x).loader = s.loader := rfl
@[simp] theorem State.setNode_inUse (s : State) (n : Nat) (x : Option Node) : (s.setNode n x).inUse = s.inUse := rfl
@[simp] theorem State.setNode_points (s : State) (n : Nat) (x : Option Node) : (s.setNode n x).points = s.points := rfl
@[simp] theorem State.setNode_nodes (s : State) (n : Nat) (x : Option Node) : (s.setNode n x).nodes = s.nodes.set n x := rfl
@[simp] theorem State.setNode_records (s : State) (n : Nat) (x : Option Node) : (s.setNode n x).records = s.records := rfl
@[simp] theorem State.setNode_useCounts (s : State) (n : Nat) (x : Option Node) : (s.setNode n x).useCounts = s.useCounts := rfl
@[simp] theorem State.setNode_ctxs (s : State) (n : Nat) (x : Option Node) : (s.setNode n x).ctxs = s.ctxs := rfl
@[simp] theorem State.setNode_lines (s : State) (n : Nat) (x : Option Node) : (s.setNode n x).lines = s.lines := rfl
@[simp] theorem State.setNode_groups (s : State) (n : Nat) (x : Option Node) : (s.setNode n x).groups = s.groups := rfl
@[simp] theorem State.setNode_waits (s : State) (n : Nat) (x : Option Node) : (s.setNode n x).waits = s.waits := rfl
@[simp] theorem State.setNode_scanning (s : State) (n : Nat) (x : Option Node) : (s.setNode n x).scanning = s.scanning := rfl
@[simp] theorem State.setNode_scanAgain (s : State) (n : Nat) (x : Option Node) : (s.setNode n x).scanAgain = s.scanAgain := rfl
@[simp] theorem State.setNode_gates (s : State) (n : Nat) (x : Option Node) : (s.setNode n x).gates = s.gates := rfl
@[simp] theorem State.setNode_reports (s : State) (n : Nat) (x : Option Node) : (s.setNode n x).reports = s.reports := rfl
@[simp] theorem State.setNode_lost (s : State) (n : Nat) (x : Option Node) : (s.setNode n x).lost = s.lost := rfl
@[simp] theorem State.setNode_counters (s : State) (n : Nat) (x : Option Node) : (s.setNode n x).counters = s.counters := rfl

/-! ### `State.setCtx` -/

@[simp] theorem State.setCtx_pending (s : State) (c : Nat) (x : Ctx) : (s.setCtx c x).pending = s.pending := rfl
@[simp] theorem State.setCtx_agenda (s : State) (c : Nat) (x : Ctx) : (s.setCtx c x).agenda = s.agenda := rfl
@[simp] theorem State.setCtx_free (s : State) (c : Nat) (x : Ctx) : (s.setCtx c x).free = s.free := rfl
@[simp] theorem State.setCtx_now (s : State) (c : Nat) (x : Ctx) : (s.setCtx c x).now = s.now := rfl
@[simp] theorem State.setCtx_straps (s : State) (c : Nat) (x : Ctx) : (s.setCtx c x).straps = s.straps := rfl
@[simp] theorem State.setCtx_sentU (s : State) (c : Nat) (x : Ctx) : (s.setCtx c x).sentU = s.sentU := rfl
@[simp] theorem State.setCtx_sentD (s : State) (c : Nat) (x : Ctx) : (s.setCtx c x).sentD = s.sentD := rfl
@[simp] theorem State.setCtx_ring (s : State) (c : Nat) (x : Ctx) : (s.setCtx c x).ring = s.ring := rfl
@[simp] theorem State.setCtx_gapTimer (s : State) (c : Nat) (x : Ctx) : (s.setCtx c x).gapTimer = s.gapTimer := rfl
@[simp] theorem State.setCtx_badRun (s : State) (c : Nat) (x : Ctx) : (s.setCtx c x).badRun = s.badRun := rfl
@[simp] theorem State.setCtx_degraded (s : State) (c : Nat) (x : Ctx) : (s.setCtx c x).degraded = s.degraded := rfl
@[simp] theorem State.setCtx_holder (s : State) (c : Nat) (x : Ctx) : (s.setCtx c x).holder = s.holder := rfl
@[simp] theorem State.setCtx_loader (s : State) (c : Nat) (x : Ctx) : (s.setCtx c x).loader = s.loader := rfl
@[simp] theorem State.setCtx_inUse (s : State) (c : Nat) (x : Ctx) : (s.setCtx c x).inUse = s.inUse := rfl
@[simp] theorem State.setCtx_points (s : State) (c : Nat) (x : Ctx) : (s.setCtx c x).points = s.points := rfl
@[simp] theorem State.setCtx_nodes (s : State) (c : Nat) (x : Ctx) : (s.setCtx c x).nodes = s.nodes := rfl
@[simp] theorem State.setCtx_records (s : State) (c : Nat) (x : Ctx) : (s.setCtx c x).records = s.records := rfl
@[simp] theorem State.setCtx_useCounts (s : State) (c : Nat) (x : Ctx) : (s.setCtx c x).useCounts = s.useCounts := rfl
@[simp] theorem State.setCtx_ctxs (s : State) (c : Nat) (x : Ctx) : (s.setCtx c x).ctxs = s.ctxs.set c x := rfl
@[simp] theorem State.setCtx_lines (s : State) (c : Nat) (x : Ctx) : (s.setCtx c x).lines = s.lines := rfl
@[simp] theorem State.setCtx_groups (s : State) (c : Nat) (x : Ctx) : (s.setCtx c x).groups = s.groups := rfl
@[simp] theorem State.setCtx_waits (s : State) (c : Nat) (x : Ctx) : (s.setCtx c x).waits = s.waits := rfl
@[simp] theorem State.setCtx_scanning (s : State) (c : Nat) (x : Ctx) : (s.setCtx c x).scanning = s.scanning := rfl
@[simp] theorem State.setCtx_scanAgain (s : State) (c : Nat) (x : Ctx) : (s.setCtx c x).scanAgain = s.scanAgain := rfl
@[simp] theorem State.setCtx_gates (s : State) (c : Nat) (x : Ctx) : (s.setCtx c x).gates = s.gates := rfl
@[simp] theorem State.setCtx_reports (s : State) (c : Nat) (x : Ctx) : (s.setCtx c x).reports = s.reports := rfl
@[simp] theorem State.setCtx_lost (s : State) (c : Nat) (x : Ctx) : (s.setCtx c x).lost = s.lost := rfl
@[simp] theorem State.setCtx_counters (s : State) (c : Nat) (x : Ctx) : (s.setCtx c x).counters = s.counters := rfl

/-! ### `State.setGate` -/

@[simp] theorem State.setGate_pending (s : State) (g : Nat) (x : Option Gate) : (s.setGate g x).pending = s.pending := rfl
@[simp] theorem State.setGate_agenda (s : State) (g : Nat) (x : Option Gate) : (s.setGate g x).agenda = s.agenda := rfl
@[simp] theorem State.setGate_free (s : State) (g : Nat) (x : Option Gate) : (s.setGate g x).free = s.free := rfl
@[simp] theorem State.setGate_now (s : State) (g : Nat) (x : Option Gate) : (s.setGate g x).now = s.now := rfl
@[simp] theorem State.setGate_straps (s : State) (g : Nat) (x : Option Gate) : (s.setGate g x).straps = s.straps := rfl
@[simp] theorem State.setGate_sentU (s : State) (g : Nat) (x : Option Gate) : (s.setGate g x).sentU = s.sentU := rfl
@[simp] theorem State.setGate_sentD (s : State) (g : Nat) (x : Option Gate) : (s.setGate g x).sentD = s.sentD := rfl
@[simp] theorem State.setGate_ring (s : State) (g : Nat) (x : Option Gate) : (s.setGate g x).ring = s.ring := rfl
@[simp] theorem State.setGate_gapTimer (s : State) (g : Nat) (x : Option Gate) : (s.setGate g x).gapTimer = s.gapTimer := rfl
@[simp] theorem State.setGate_badRun (s : State) (g : Nat) (x : Option Gate) : (s.setGate g x).badRun = s.badRun := rfl
@[simp] theorem State.setGate_degraded (s : State) (g : Nat) (x : Option Gate) : (s.setGate g x).degraded = s.degraded := rfl
@[simp] theorem State.setGate_holder (s : State) (g : Nat) (x : Option Gate) : (s.setGate g x).holder = s.holder := rfl
@[simp] theorem State.setGate_loader (s : State) (g : Nat) (x : Option Gate) : (s.setGate g x).loader = s.loader := rfl
@[simp] theorem State.setGate_inUse (s : State) (g : Nat) (x : Option Gate) : (s.setGate g x).inUse = s.inUse := rfl
@[simp] theorem State.setGate_points (s : State) (g : Nat) (x : Option Gate) : (s.setGate g x).points = s.points := rfl
@[simp] theorem State.setGate_nodes (s : State) (g : Nat) (x : Option Gate) : (s.setGate g x).nodes = s.nodes := rfl
@[simp] theorem State.setGate_records (s : State) (g : Nat) (x : Option Gate) : (s.setGate g x).records = s.records := rfl
@[simp] theorem State.setGate_useCounts (s : State) (g : Nat) (x : Option Gate) : (s.setGate g x).useCounts = s.useCounts := rfl
@[simp] theorem State.setGate_ctxs (s : State) (g : Nat) (x : Option Gate) : (s.setGate g x).ctxs = s.ctxs := rfl
@[simp] theorem State.setGate_lines (s : State) (g : Nat) (x : Option Gate) : (s.setGate g x).lines = s.lines := rfl
@[simp] theorem State.setGate_groups (s : State) (g : Nat) (x : Option Gate) : (s.setGate g x).groups = s.groups := rfl
@[simp] theorem State.setGate_waits (s : State) (g : Nat) (x : Option Gate) : (s.setGate g x).waits = s.waits := rfl
@[simp] theorem State.setGate_scanning (s : State) (g : Nat) (x : Option Gate) : (s.setGate g x).scanning = s.scanning := rfl
@[simp] theorem State.setGate_scanAgain (s : State) (g : Nat) (x : Option Gate) : (s.setGate g x).scanAgain = s.scanAgain := rfl
@[simp] theorem State.setGate_gates (s : State) (g : Nat) (x : Option Gate) : (s.setGate g x).gates = s.gates.set g x := rfl
@[simp] theorem State.setGate_reports (s : State) (g : Nat) (x : Option Gate) : (s.setGate g x).reports = s.reports := rfl
@[simp] theorem State.setGate_lost (s : State) (g : Nat) (x : Option Gate) : (s.setGate g x).lost = s.lost := rfl
@[simp] theorem State.setGate_counters (s : State) (g : Nat) (x : Option Gate) : (s.setGate g x).counters = s.counters := rfl

/-! ### `State.push` -/

@[simp] theorem State.push_pending (s : State) (ts : List Task) : (s.push ts).pending = s.pending := rfl
@[simp] theorem State.push_agenda (s : State) (ts : List Task) : (s.push ts).agenda = ts ++ s.agenda := rfl
@[simp] theorem State.push_free (s : State) (ts : List Task) : (s.push ts).free = s.free := rfl
@[simp] theorem State.push_now (s : State) (ts : List Task) : (s.push ts).now = s.now := rfl
@[simp] theorem State.push_straps (s : State) (ts : List Task) : (s.push ts).straps = s.straps := rfl
@[simp] theorem State.push_sentU (s : State) (ts : List Task) : (s.push ts).sentU = s.sentU := rfl
@[simp] theorem State.push_sentD (s : State) (ts : List Task) : (s.push ts).sentD = s.sentD := rfl
@[simp] theorem State.push_ring (s : State) (ts : List Task) : (s.push ts).ring = s.ring := rfl
@[simp] theorem State.push_gapTimer (s : State) (ts : List Task) : (s.push ts).gapTimer = s.gapTimer := rfl
@[simp] theorem State.push_badRun (s : State) (ts : List Task) : (s.push ts).badRun = s.badRun := rfl
@[simp] theorem State.push_degraded (s : State) (ts : List Task) : (s.push ts).degraded = s.degraded := rfl
@[simp] theorem State.push_holder (s : State) (ts : List Task) : (s.push ts).holder = s.holder := rfl
@[simp] theorem State.push_loader (s : State) (ts : List Task) : (s.push ts).loader = s.loader := rfl
@[simp] theorem State.push_inUse (s : State) (ts : List Task) : (s.push ts).inUse = s.inUse := rfl
@[simp] theorem State.push_points (s : State) (ts : List Task) : (s.push ts).points = s.points := rfl
@[simp] theorem State.push_nodes (s : State) (ts : List Task) : (s.push ts).nodes = s.nodes := rfl
@[simp] theorem State.push_records (s : State) (ts : List Task) : (s.push ts).records = s.records := rfl
@[simp] theorem State.push_useCounts (s : State) (ts : List Task) : (s.push ts).useCounts = s.useCounts := rfl
@[simp] theorem State.push_ctxs (s : State) (ts : List Task) : (s.push ts).ctxs = s.ctxs := rfl
@[simp] theorem State.push_lines (s : State) (ts : List Task) : (s.push ts).lines = s.lines := rfl
@[simp] theorem State.push_groups (s : State) (ts : List Task) : (s.push ts).groups = s.groups := rfl
@[simp] theorem State.push_waits (s : State) (ts : List Task) : (s.push ts).waits = s.waits := rfl
@[simp] theorem State.push_scanning (s : State) (ts : List Task) : (s.push ts).scanning = s.scanning := rfl
@[simp] theorem State.push_scanAgain (s : State) (ts : List Task) : (s.push ts).scanAgain = s.scanAgain := rfl
@[simp] theorem State.push_gates (s : State) (ts : List Task) : (s.push ts).gates = s.gates := rfl
@[simp] theorem State.push_reports (s : State) (ts : List Task) : (s.push ts).reports = s.reports := rfl
@[simp] theorem State.push_lost (s : State) (ts : List Task) : (s.push ts).lost = s.lost := rfl
@[simp] theorem State.push_counters (s : State) (ts : List Task) : (s.push ts).counters = s.counters := rfl

/-! ### `State.count` -/

@[simp] theorem State.count_pending (s : State) (n : Nat) : (s.count n).pending = s.pending := rfl
@[simp] theorem State.count_agenda (s : State) (n : Nat) : (s.count n).agenda = s.agenda := rfl
@[simp] theorem State.count_free (s : State) (n : Nat) : (s.count n).free = s.free := rfl
@[simp] theorem State.count_now (s : State) (n : Nat) : (s.count n).now = s.now := rfl
@[simp] theorem State.count_straps (s : State) (n : Nat) : (s.count n).straps = s.straps := rfl
@[simp] theorem State.count_sentU (s : State) (n : Nat) : (s.count n).sentU = s.sentU := rfl
@[simp] theorem State.count_sentD (s : State) (n : Nat) : (s.count n).sentD = s.sentD := rfl
@[simp] theorem State.count_ring (s : State) (n : Nat) : (s.count n).ring = s.ring := rfl
@[simp] theorem State.count_gapTimer (s : State) (n : Nat) : (s.count n).gapTimer = s.gapTimer := rfl
@[simp] theorem State.count_badRun (s : State) (n : Nat) : (s.count n).badRun = s.badRun := rfl
@[simp] theorem State.count_degraded (s : State) (n : Nat) : (s.count n).degraded = s.degraded := rfl
@[simp] theorem State.count_holder (s : State) (n : Nat) : (s.count n).holder = s.holder := rfl
@[simp] theorem State.count_loader (s : State) (n : Nat) : (s.count n).loader = s.loader := rfl
@[simp] theorem State.count_inUse (s : State) (n : Nat) : (s.count n).inUse = s.inUse := rfl
@[simp] theorem State.count_points (s : State) (n : Nat) : (s.count n).points = s.points := rfl
@[simp] theorem State.count_nodes (s : State) (n : Nat) : (s.count n).nodes = s.nodes := rfl
@[simp] theorem State.count_records (s : State) (n : Nat) : (s.count n).records = s.records := rfl
@[simp] theorem State.count_useCounts (s : State) (n : Nat) : (s.count n).useCounts = s.useCounts := rfl
@[simp] theorem State.count_ctxs (s : State) (n : Nat) : (s.count n).ctxs = s.ctxs := rfl
@[simp] theorem State.count_lines (s : State) (n : Nat) : (s.count n).lines = s.lines := rfl
@[simp] theorem State.count_groups (s : State) (n : Nat) : (s.count n).groups = s.groups := rfl
@[simp] theorem State.count_waits (s : State) (n : Nat) : (s.count n).waits = s.waits := rfl
@[simp] theorem State.count_scanning (s : State) (n : Nat) : (s.count n).scanning = s.scanning := rfl
@[simp] theorem State.count_scanAgain (s : State) (n : Nat) : (s.count n).scanAgain = s.scanAgain := rfl
@[simp] theorem State.count_gates (s : State) (n : Nat) : (s.count n).gates = s.gates := rfl
@[simp] theorem State.count_reports (s : State) (n : Nat) : (s.count n).reports = s.reports := rfl
@[simp] theorem State.count_lost (s : State) (n : Nat) : (s.count n).lost = s.lost := rfl
@[simp] theorem State.count_counters (s : State) (n : Nat) : (s.count n).counters = s.counters.set n (s.counter n).count := rfl

/-! ### `State.sendD` -/

@[simp] theorem State.sendD_pending (s : State) (f : Frame) : (s.sendD f).pending = s.pending := rfl
@[simp] theorem State.sendD_agenda (s : State) (f : Frame) : (s.sendD f).agenda = s.agenda := rfl
@[simp] theorem State.sendD_free (s : State) (f : Frame) : (s.sendD f).free = s.free := rfl
@[simp] theorem State.sendD_now (s : State) (f : Frame) : (s.sendD f).now = s.now := rfl
@[simp] theorem State.sendD_straps (s : State) (f : Frame) : (s.sendD f).straps = s.straps := rfl
@[simp] theorem State.sendD_sentU (s : State) (f : Frame) : (s.sendD f).sentU = s.sentU := rfl
@[simp] theorem State.sendD_sentD (s : State) (f : Frame) : (s.sendD f).sentD = some f := rfl
@[simp] theorem State.sendD_ring (s : State) (f : Frame) : (s.sendD f).ring = s.ring := rfl
@[simp] theorem State.sendD_gapTimer (s : State) (f : Frame) : (s.sendD f).gapTimer = s.gapTimer := rfl
@[simp] theorem State.sendD_badRun (s : State) (f : Frame) : (s.sendD f).badRun = s.badRun := rfl
@[simp] theorem State.sendD_degraded (s : State) (f : Frame) : (s.sendD f).degraded = s.degraded := rfl
@[simp] theorem State.sendD_holder (s : State) (f : Frame) : (s.sendD f).holder = s.holder := rfl
@[simp] theorem State.sendD_loader (s : State) (f : Frame) : (s.sendD f).loader = s.loader := rfl
@[simp] theorem State.sendD_inUse (s : State) (f : Frame) : (s.sendD f).inUse = s.inUse := rfl
@[simp] theorem State.sendD_points (s : State) (f : Frame) : (s.sendD f).points = s.points := rfl
@[simp] theorem State.sendD_nodes (s : State) (f : Frame) : (s.sendD f).nodes = s.nodes := rfl
@[simp] theorem State.sendD_records (s : State) (f : Frame) : (s.sendD f).records = s.records := rfl
@[simp] theorem State.sendD_useCounts (s : State) (f : Frame) : (s.sendD f).useCounts = s.useCounts := rfl
@[simp] theorem State.sendD_ctxs (s : State) (f : Frame) : (s.sendD f).ctxs = s.ctxs := rfl
@[simp] theorem State.sendD_lines (s : State) (f : Frame) : (s.sendD f).lines = s.lines := rfl
@[simp] theorem State.sendD_groups (s : State) (f : Frame) : (s.sendD f).groups = s.groups := rfl
@[simp] theorem State.sendD_waits (s : State) (f : Frame) : (s.sendD f).waits = s.waits := rfl
@[simp] theorem State.sendD_scanning (s : State) (f : Frame) : (s.sendD f).scanning = s.scanning := rfl
@[simp] theorem State.sendD_scanAgain (s : State) (f : Frame) : (s.sendD f).scanAgain = s.scanAgain := rfl
@[simp] theorem State.sendD_gates (s : State) (f : Frame) : (s.sendD f).gates = s.gates := rfl
@[simp] theorem State.sendD_reports (s : State) (f : Frame) : (s.sendD f).reports = s.reports := rfl
@[simp] theorem State.sendD_lost (s : State) (f : Frame) : (s.sendD f).lost = s.lost := rfl
@[simp] theorem State.sendD_counters (s : State) (f : Frame) : (s.sendD f).counters = s.counters := rfl

/-! ### `State.sendU` -/

@[simp] theorem State.sendU_pending (s : State) (f : Frame) : (s.sendU f).pending = s.pending := rfl
@[simp] theorem State.sendU_agenda (s : State) (f : Frame) : (s.sendU f).agenda = s.agenda := rfl
@[simp] theorem State.sendU_free (s : State) (f : Frame) : (s.sendU f).free = s.free := rfl
@[simp] theorem State.sendU_now (s : State) (f : Frame) : (s.sendU f).now = s.now := rfl
@[simp] theorem State.sendU_straps (s : State) (f : Frame) : (s.sendU f).straps = s.straps := rfl
@[simp] theorem State.sendU_sentU (s : State) (f : Frame) : (s.sendU f).sentU = some f := rfl
@[simp] theorem State.sendU_sentD (s : State) (f : Frame) : (s.sendU f).sentD = s.sentD := rfl
@[simp] theorem State.sendU_ring (s : State) (f : Frame) : (s.sendU f).ring = s.ring := rfl
@[simp] theorem State.sendU_gapTimer (s : State) (f : Frame) : (s.sendU f).gapTimer = s.gapTimer := rfl
@[simp] theorem State.sendU_badRun (s : State) (f : Frame) : (s.sendU f).badRun = s.badRun := rfl
@[simp] theorem State.sendU_degraded (s : State) (f : Frame) : (s.sendU f).degraded = s.degraded := rfl
@[simp] theorem State.sendU_holder (s : State) (f : Frame) : (s.sendU f).holder = s.holder := rfl
@[simp] theorem State.sendU_loader (s : State) (f : Frame) : (s.sendU f).loader = s.loader := rfl
@[simp] theorem State.sendU_inUse (s : State) (f : Frame) : (s.sendU f).inUse = s.inUse := rfl
@[simp] theorem State.sendU_points (s : State) (f : Frame) : (s.sendU f).points = s.points := rfl
@[simp] theorem State.sendU_nodes (s : State) (f : Frame) : (s.sendU f).nodes = s.nodes := rfl
@[simp] theorem State.sendU_records (s : State) (f : Frame) : (s.sendU f).records = s.records := rfl
@[simp] theorem State.sendU_useCounts (s : State) (f : Frame) : (s.sendU f).useCounts = s.useCounts := rfl
@[simp] theorem State.sendU_ctxs (s : State) (f : Frame) : (s.sendU f).ctxs = s.ctxs := rfl
@[simp] theorem State.sendU_lines (s : State) (f : Frame) : (s.sendU f).lines = s.lines := rfl
@[simp] theorem State.sendU_groups (s : State) (f : Frame) : (s.sendU f).groups = s.groups := rfl
@[simp] theorem State.sendU_waits (s : State) (f : Frame) : (s.sendU f).waits = s.waits := rfl
@[simp] theorem State.sendU_scanning (s : State) (f : Frame) : (s.sendU f).scanning = s.scanning := rfl
@[simp] theorem State.sendU_scanAgain (s : State) (f : Frame) : (s.sendU f).scanAgain = s.scanAgain := rfl
@[simp] theorem State.sendU_gates (s : State) (f : Frame) : (s.sendU f).gates = s.gates := rfl
@[simp] theorem State.sendU_reports (s : State) (f : Frame) : (s.sendU f).reports = s.reports := rfl
@[simp] theorem State.sendU_lost (s : State) (f : Frame) : (s.sendU f).lost = s.lost := rfl
@[simp] theorem State.sendU_counters (s : State) (f : Frame) : (s.sendU f).counters = s.counters := rfl

/-! ### `State.goodArrival` -/

@[simp] theorem State.goodArrival_pending (s : State) : s.goodArrival.pending = s.pending := rfl
@[simp] theorem State.goodArrival_agenda (s : State) : s.goodArrival.agenda = s.agenda := rfl
@[simp] theorem State.goodArrival_free (s : State) : s.goodArrival.free = s.free := rfl
@[simp] theorem State.goodArrival_now (s : State) : s.goodArrival.now = s.now := rfl
@[simp] theorem State.goodArrival_straps (s : State) : s.goodArrival.straps = s.straps := rfl
@[simp] theorem State.goodArrival_sentU (s : State) : s.goodArrival.sentU = s.sentU := rfl
@[simp] theorem State.goodArrival_sentD (s : State) : s.goodArrival.sentD = s.sentD := rfl
@[simp] theorem State.goodArrival_ring (s : State) : s.goodArrival.ring = s.ring := rfl
@[simp] theorem State.goodArrival_gapTimer (s : State) : s.goodArrival.gapTimer = s.gapTimer := rfl
@[simp] theorem State.goodArrival_badRun (s : State) : s.goodArrival.badRun = 0 := rfl
@[simp] theorem State.goodArrival_degraded (s : State) : s.goodArrival.degraded = s.degraded := rfl
@[simp] theorem State.goodArrival_holder (s : State) : s.goodArrival.holder = s.holder := rfl
@[simp] theorem State.goodArrival_loader (s : State) : s.goodArrival.loader = s.loader := rfl
@[simp] theorem State.goodArrival_inUse (s : State) : s.goodArrival.inUse = s.inUse := rfl
@[simp] theorem State.goodArrival_points (s : State) : s.goodArrival.points = s.points := rfl
@[simp] theorem State.goodArrival_nodes (s : State) : s.goodArrival.nodes = s.nodes := rfl
@[simp] theorem State.goodArrival_records (s : State) : s.goodArrival.records = s.records := rfl
@[simp] theorem State.goodArrival_useCounts (s : State) : s.goodArrival.useCounts = s.useCounts := rfl
@[simp] theorem State.goodArrival_ctxs (s : State) : s.goodArrival.ctxs = s.ctxs := rfl
@[simp] theorem State.goodArrival_lines (s : State) : s.goodArrival.lines = s.lines := rfl
@[simp] theorem State.goodArrival_groups (s : State) : s.goodArrival.groups = s.groups := rfl
@[simp] theorem State.goodArrival_waits (s : State) : s.goodArrival.waits = s.waits := rfl
@[simp] theorem State.goodArrival_scanning (s : State) : s.goodArrival.scanning = s.scanning := rfl
@[simp] theorem State.goodArrival_scanAgain (s : State) : s.goodArrival.scanAgain = s.scanAgain := rfl
@[simp] theorem State.goodArrival_gates (s : State) : s.goodArrival.gates = s.gates := rfl
@[simp] theorem State.goodArrival_reports (s : State) : s.goodArrival.reports = s.reports := rfl
@[simp] theorem State.goodArrival_lost (s : State) : s.goodArrival.lost = s.lost := rfl
@[simp] theorem State.goodArrival_counters (s : State) : s.goodArrival.counters = s.counters := rfl

/-! ### `State.advance` -/

@[simp] theorem State.advance_pending (s : State) (dt : Nat) : (s.advance dt).pending = s.pending := rfl
@[simp] theorem State.advance_agenda (s : State) (dt : Nat) : (s.advance dt).agenda = s.agenda := rfl
@[simp] theorem State.advance_free (s : State) (dt : Nat) : (s.advance dt).free = s.free := rfl
@[simp] theorem State.advance_now (s : State) (dt : Nat) : (s.advance dt).now = s.now + BitVec.ofNat 32 dt := rfl
@[simp] theorem State.advance_straps (s : State) (dt : Nat) : (s.advance dt).straps = s.straps := rfl
@[simp] theorem State.advance_sentU (s : State) (dt : Nat) : (s.advance dt).sentU = s.sentU := rfl
@[simp] theorem State.advance_sentD (s : State) (dt : Nat) : (s.advance dt).sentD = s.sentD := rfl
@[simp] theorem State.advance_ring (s : State) (dt : Nat) : (s.advance dt).ring = s.ring := rfl
@[simp] theorem State.advance_gapTimer (s : State) (dt : Nat) : (s.advance dt).gapTimer = s.gapTimer := rfl
@[simp] theorem State.advance_badRun (s : State) (dt : Nat) : (s.advance dt).badRun = s.badRun := rfl
@[simp] theorem State.advance_degraded (s : State) (dt : Nat) : (s.advance dt).degraded = s.degraded := rfl
@[simp] theorem State.advance_holder (s : State) (dt : Nat) : (s.advance dt).holder = s.holder := rfl
@[simp] theorem State.advance_loader (s : State) (dt : Nat) : (s.advance dt).loader = s.loader := rfl
@[simp] theorem State.advance_inUse (s : State) (dt : Nat) : (s.advance dt).inUse = s.inUse := rfl
@[simp] theorem State.advance_points (s : State) (dt : Nat) : (s.advance dt).points = s.points := rfl
@[simp] theorem State.advance_nodes (s : State) (dt : Nat) : (s.advance dt).nodes = s.nodes := rfl
@[simp] theorem State.advance_records (s : State) (dt : Nat) : (s.advance dt).records = s.records := rfl
@[simp] theorem State.advance_useCounts (s : State) (dt : Nat) : (s.advance dt).useCounts = s.useCounts := rfl
@[simp] theorem State.advance_ctxs (s : State) (dt : Nat) : (s.advance dt).ctxs = s.ctxs.map (Ctx.advance dt) := rfl
@[simp] theorem State.advance_lines (s : State) (dt : Nat) : (s.advance dt).lines = s.lines := rfl
@[simp] theorem State.advance_groups (s : State) (dt : Nat) : (s.advance dt).groups = s.groups := rfl
@[simp] theorem State.advance_waits (s : State) (dt : Nat) : (s.advance dt).waits = s.waits.map fun e => { e with waited := satAdd e.waited dt } := rfl
@[simp] theorem State.advance_scanning (s : State) (dt : Nat) : (s.advance dt).scanning = s.scanning := rfl
@[simp] theorem State.advance_scanAgain (s : State) (dt : Nat) : (s.advance dt).scanAgain = s.scanAgain := rfl
@[simp] theorem State.advance_gates (s : State) (dt : Nat) : (s.advance dt).gates = s.gates := rfl
@[simp] theorem State.advance_reports (s : State) (dt : Nat) : (s.advance dt).reports = s.reports := rfl
@[simp] theorem State.advance_lost (s : State) (dt : Nat) : (s.advance dt).lost = s.lost := rfl
@[simp] theorem State.advance_counters (s : State) (dt : Nat) : (s.advance dt).counters = s.counters := rfl

/-! ### `State.removeEntry` -/

@[simp] theorem State.removeEntry_pending (s : State) (c : Nat) : (s.removeEntry c).pending = s.pending := rfl
@[simp] theorem State.removeEntry_agenda (s : State) (c : Nat) : (s.removeEntry c).agenda = s.agenda := rfl
@[simp] theorem State.removeEntry_free (s : State) (c : Nat) : (s.removeEntry c).free = s.free := rfl
@[simp] theorem State.removeEntry_now (s : State) (c : Nat) : (s.removeEntry c).now = s.now := rfl
@[simp] theorem State.removeEntry_straps (s : State) (c : Nat) : (s.removeEntry c).straps = s.straps := rfl
@[simp] theorem State.removeEntry_sentU (s : State) (c : Nat) : (s.removeEntry c).sentU = s.sentU := rfl
@[simp] theorem State.removeEntry_sentD (s : State) (c : Nat) : (s.removeEntry c).sentD = s.sentD := rfl
@[simp] theorem State.removeEntry_ring (s : State) (c : Nat) : (s.removeEntry c).ring = s.ring := rfl
@[simp] theorem State.removeEntry_gapTimer (s : State) (c : Nat) : (s.removeEntry c).gapTimer = s.gapTimer := rfl
@[simp] theorem State.removeEntry_badRun (s : State) (c : Nat) : (s.removeEntry c).badRun = s.badRun := rfl
@[simp] theorem State.removeEntry_degraded (s : State) (c : Nat) : (s.removeEntry c).degraded = s.degraded := rfl
@[simp] theorem State.removeEntry_holder (s : State) (c : Nat) : (s.removeEntry c).holder = s.holder := rfl
@[simp] theorem State.removeEntry_loader (s : State) (c : Nat) : (s.removeEntry c).loader = s.loader := rfl
@[simp] theorem State.removeEntry_inUse (s : State) (c : Nat) : (s.removeEntry c).inUse = s.inUse := rfl
@[simp] theorem State.removeEntry_points (s : State) (c : Nat) : (s.removeEntry c).points = s.points := rfl
@[simp] theorem State.removeEntry_nodes (s : State) (c : Nat) : (s.removeEntry c).nodes = s.nodes := rfl
@[simp] theorem State.removeEntry_records (s : State) (c : Nat) : (s.removeEntry c).records = s.records := rfl
@[simp] theorem State.removeEntry_useCounts (s : State) (c : Nat) : (s.removeEntry c).useCounts = s.useCounts := rfl
@[simp] theorem State.removeEntry_ctxs (s : State) (c : Nat) : (s.removeEntry c).ctxs = s.ctxs := rfl
@[simp] theorem State.removeEntry_lines (s : State) (c : Nat) : (s.removeEntry c).lines = s.lines := rfl
@[simp] theorem State.removeEntry_groups (s : State) (c : Nat) : (s.removeEntry c).groups = s.groups := rfl
@[simp] theorem State.removeEntry_waits (s : State) (c : Nat) : (s.removeEntry c).waits = s.waits.filter fun e => e.ctx != c := rfl
@[simp] theorem State.removeEntry_scanning (s : State) (c : Nat) : (s.removeEntry c).scanning = s.scanning := rfl
@[simp] theorem State.removeEntry_scanAgain (s : State) (c : Nat) : (s.removeEntry c).scanAgain = s.scanAgain := rfl
@[simp] theorem State.removeEntry_gates (s : State) (c : Nat) : (s.removeEntry c).gates = s.gates := rfl
@[simp] theorem State.removeEntry_reports (s : State) (c : Nat) : (s.removeEntry c).reports = s.reports := rfl
@[simp] theorem State.removeEntry_lost (s : State) (c : Nat) : (s.removeEntry c).lost = s.lost := rfl
@[simp] theorem State.removeEntry_counters (s : State) (c : Nat) : (s.removeEntry c).counters = s.counters := rfl

/-! ### `State.zeroHot` -/

@[simp] theorem State.zeroHot_pending (s : State) (c : Nat) : (s.zeroHot c).pending = s.pending := rfl
@[simp] theorem State.zeroHot_agenda (s : State) (c : Nat) : (s.zeroHot c).agenda = s.agenda := rfl
@[simp] theorem State.zeroHot_free (s : State) (c : Nat) : (s.zeroHot c).free = s.free := rfl
@[simp] theorem State.zeroHot_now (s : State) (c : Nat) : (s.zeroHot c).now = s.now := rfl
@[simp] theorem State.zeroHot_straps (s : State) (c : Nat) : (s.zeroHot c).straps = s.straps := rfl
@[simp] theorem State.zeroHot_sentU (s : State) (c : Nat) : (s.zeroHot c).sentU = s.sentU := rfl
@[simp] theorem State.zeroHot_sentD (s : State) (c : Nat) : (s.zeroHot c).sentD = s.sentD := rfl
@[simp] theorem State.zeroHot_ring (s : State) (c : Nat) : (s.zeroHot c).ring = s.ring := rfl
@[simp] theorem State.zeroHot_gapTimer (s : State) (c : Nat) : (s.zeroHot c).gapTimer = s.gapTimer := rfl
@[simp] theorem State.zeroHot_badRun (s : State) (c : Nat) : (s.zeroHot c).badRun = s.badRun := rfl
@[simp] theorem State.zeroHot_degraded (s : State) (c : Nat) : (s.zeroHot c).degraded = s.degraded := rfl
@[simp] theorem State.zeroHot_holder (s : State) (c : Nat) : (s.zeroHot c).holder = s.holder := rfl
@[simp] theorem State.zeroHot_loader (s : State) (c : Nat) : (s.zeroHot c).loader = s.loader := rfl
@[simp] theorem State.zeroHot_inUse (s : State) (c : Nat) : (s.zeroHot c).inUse = s.inUse := rfl
@[simp] theorem State.zeroHot_nodes (s : State) (c : Nat) : (s.zeroHot c).nodes = s.nodes := rfl
@[simp] theorem State.zeroHot_records (s : State) (c : Nat) : (s.zeroHot c).records = s.records := rfl
@[simp] theorem State.zeroHot_useCounts (s : State) (c : Nat) : (s.zeroHot c).useCounts = s.useCounts := rfl
@[simp] theorem State.zeroHot_ctxs (s : State) (c : Nat) : (s.zeroHot c).ctxs = s.ctxs := rfl
@[simp] theorem State.zeroHot_lines (s : State) (c : Nat) : (s.zeroHot c).lines = s.lines := rfl
@[simp] theorem State.zeroHot_groups (s : State) (c : Nat) : (s.zeroHot c).groups = s.groups := rfl
@[simp] theorem State.zeroHot_waits (s : State) (c : Nat) : (s.zeroHot c).waits = s.waits := rfl
@[simp] theorem State.zeroHot_scanning (s : State) (c : Nat) : (s.zeroHot c).scanning = s.scanning := rfl
@[simp] theorem State.zeroHot_scanAgain (s : State) (c : Nat) : (s.zeroHot c).scanAgain = s.scanAgain := rfl
@[simp] theorem State.zeroHot_gates (s : State) (c : Nat) : (s.zeroHot c).gates = s.gates := rfl
@[simp] theorem State.zeroHot_reports (s : State) (c : Nat) : (s.zeroHot c).reports = s.reports := rfl
@[simp] theorem State.zeroHot_lost (s : State) (c : Nat) : (s.zeroHot c).lost = s.lost := rfl
@[simp] theorem State.zeroHot_counters (s : State) (c : Nat) : (s.zeroHot c).counters = s.counters := rfl

/-! ### `State.zeroOthers` -/

@[simp] theorem State.zeroOthers_pending (s : State) (c : Nat) (items : List SetItem) : (s.zeroOthers c items).pending = s.pending := rfl
@[simp] theorem State.zeroOthers_agenda (s : State) (c : Nat) (items : List SetItem) : (s.zeroOthers c items).agenda = s.agenda := rfl
@[simp] theorem State.zeroOthers_free (s : State) (c : Nat) (items : List SetItem) : (s.zeroOthers c items).free = s.free := rfl
@[simp] theorem State.zeroOthers_now (s : State) (c : Nat) (items : List SetItem) : (s.zeroOthers c items).now = s.now := rfl
@[simp] theorem State.zeroOthers_straps (s : State) (c : Nat) (items : List SetItem) : (s.zeroOthers c items).straps = s.straps := rfl
@[simp] theorem State.zeroOthers_sentU (s : State) (c : Nat) (items : List SetItem) : (s.zeroOthers c items).sentU = s.sentU := rfl
@[simp] theorem State.zeroOthers_sentD (s : State) (c : Nat) (items : List SetItem) : (s.zeroOthers c items).sentD = s.sentD := rfl
@[simp] theorem State.zeroOthers_ring (s : State) (c : Nat) (items : List SetItem) : (s.zeroOthers c items).ring = s.ring := rfl
@[simp] theorem State.zeroOthers_gapTimer (s : State) (c : Nat) (items : List SetItem) : (s.zeroOthers c items).gapTimer = s.gapTimer := rfl
@[simp] theorem State.zeroOthers_badRun (s : State) (c : Nat) (items : List SetItem) : (s.zeroOthers c items).badRun = s.badRun := rfl
@[simp] theorem State.zeroOthers_degraded (s : State) (c : Nat) (items : List SetItem) : (s.zeroOthers c items).degraded = s.degraded := rfl
@[simp] theorem State.zeroOthers_holder (s : State) (c : Nat) (items : List SetItem) : (s.zeroOthers c items).holder = s.holder := rfl
@[simp] theorem State.zeroOthers_loader (s : State) (c : Nat) (items : List SetItem) : (s.zeroOthers c items).loader = s.loader := rfl
@[simp] theorem State.zeroOthers_inUse (s : State) (c : Nat) (items : List SetItem) : (s.zeroOthers c items).inUse = s.inUse := rfl
@[simp] theorem State.zeroOthers_nodes (s : State) (c : Nat) (items : List SetItem) : (s.zeroOthers c items).nodes = s.nodes := rfl
@[simp] theorem State.zeroOthers_records (s : State) (c : Nat) (items : List SetItem) : (s.zeroOthers c items).records = s.records := rfl
@[simp] theorem State.zeroOthers_useCounts (s : State) (c : Nat) (items : List SetItem) : (s.zeroOthers c items).useCounts = s.useCounts := rfl
@[simp] theorem State.zeroOthers_ctxs (s : State) (c : Nat) (items : List SetItem) : (s.zeroOthers c items).ctxs = s.ctxs := rfl
@[simp] theorem State.zeroOthers_lines (s : State) (c : Nat) (items : List SetItem) : (s.zeroOthers c items).lines = s.lines := rfl
@[simp] theorem State.zeroOthers_groups (s : State) (c : Nat) (items : List SetItem) : (s.zeroOthers c items).groups = s.groups := rfl
@[simp] theorem State.zeroOthers_waits (s : State) (c : Nat) (items : List SetItem) : (s.zeroOthers c items).waits = s.waits := rfl
@[simp] theorem State.zeroOthers_scanning (s : State) (c : Nat) (items : List SetItem) : (s.zeroOthers c items).scanning = s.scanning := rfl
@[simp] theorem State.zeroOthers_scanAgain (s : State) (c : Nat) (items : List SetItem) : (s.zeroOthers c items).scanAgain = s.scanAgain := rfl
@[simp] theorem State.zeroOthers_gates (s : State) (c : Nat) (items : List SetItem) : (s.zeroOthers c items).gates = s.gates := rfl
@[simp] theorem State.zeroOthers_reports (s : State) (c : Nat) (items : List SetItem) : (s.zeroOthers c items).reports = s.reports := rfl
@[simp] theorem State.zeroOthers_lost (s : State) (c : Nat) (items : List SetItem) : (s.zeroOthers c items).lost = s.lost := rfl
@[simp] theorem State.zeroOthers_counters (s : State) (c : Nat) (items : List SetItem) : (s.zeroOthers c items).counters = s.counters := rfl

/-! ### `State.releaseForces` -/

@[simp] theorem State.releaseForces_pending (s : State) (c : Nat) : (s.releaseForces c).pending = s.pending := rfl
@[simp] theorem State.releaseForces_agenda (s : State) (c : Nat) : (s.releaseForces c).agenda = s.agenda := rfl
@[simp] theorem State.releaseForces_free (s : State) (c : Nat) : (s.releaseForces c).free = s.free := rfl
@[simp] theorem State.releaseForces_now (s : State) (c : Nat) : (s.releaseForces c).now = s.now := rfl
@[simp] theorem State.releaseForces_straps (s : State) (c : Nat) : (s.releaseForces c).straps = s.straps := rfl
@[simp] theorem State.releaseForces_sentU (s : State) (c : Nat) : (s.releaseForces c).sentU = s.sentU := rfl
@[simp] theorem State.releaseForces_sentD (s : State) (c : Nat) : (s.releaseForces c).sentD = s.sentD := rfl
@[simp] theorem State.releaseForces_ring (s : State) (c : Nat) : (s.releaseForces c).ring = s.ring := rfl
@[simp] theorem State.releaseForces_gapTimer (s : State) (c : Nat) : (s.releaseForces c).gapTimer = s.gapTimer := rfl
@[simp] theorem State.releaseForces_badRun (s : State) (c : Nat) : (s.releaseForces c).badRun = s.badRun := rfl
@[simp] theorem State.releaseForces_degraded (s : State) (c : Nat) : (s.releaseForces c).degraded = s.degraded := rfl
@[simp] theorem State.releaseForces_holder (s : State) (c : Nat) : (s.releaseForces c).holder = s.holder := rfl
@[simp] theorem State.releaseForces_loader (s : State) (c : Nat) : (s.releaseForces c).loader = s.loader := rfl
@[simp] theorem State.releaseForces_inUse (s : State) (c : Nat) : (s.releaseForces c).inUse = s.inUse := rfl
@[simp] theorem State.releaseForces_nodes (s : State) (c : Nat) : (s.releaseForces c).nodes = s.nodes := rfl
@[simp] theorem State.releaseForces_records (s : State) (c : Nat) : (s.releaseForces c).records = s.records := rfl
@[simp] theorem State.releaseForces_useCounts (s : State) (c : Nat) : (s.releaseForces c).useCounts = s.useCounts := rfl
@[simp] theorem State.releaseForces_ctxs (s : State) (c : Nat) : (s.releaseForces c).ctxs = s.ctxs := rfl
@[simp] theorem State.releaseForces_lines (s : State) (c : Nat) : (s.releaseForces c).lines = s.lines := rfl
@[simp] theorem State.releaseForces_groups (s : State) (c : Nat) : (s.releaseForces c).groups = s.groups := rfl
@[simp] theorem State.releaseForces_waits (s : State) (c : Nat) : (s.releaseForces c).waits = s.waits := rfl
@[simp] theorem State.releaseForces_scanning (s : State) (c : Nat) : (s.releaseForces c).scanning = s.scanning := rfl
@[simp] theorem State.releaseForces_scanAgain (s : State) (c : Nat) : (s.releaseForces c).scanAgain = s.scanAgain := rfl
@[simp] theorem State.releaseForces_gates (s : State) (c : Nat) : (s.releaseForces c).gates = s.gates := rfl
@[simp] theorem State.releaseForces_reports (s : State) (c : Nat) : (s.releaseForces c).reports = s.reports := rfl
@[simp] theorem State.releaseForces_lost (s : State) (c : Nat) : (s.releaseForces c).lost = s.lost := rfl
@[simp] theorem State.releaseForces_counters (s : State) (c : Nat) : (s.releaseForces c).counters = s.counters := rfl

/-! ### `State.staleNode` -/

@[simp] theorem State.staleNode_pending (s : State) (n : Nat) : (s.staleNode n).pending = s.pending := rfl
@[simp] theorem State.staleNode_agenda (s : State) (n : Nat) : (s.staleNode n).agenda = s.agenda := rfl
@[simp] theorem State.staleNode_free (s : State) (n : Nat) : (s.staleNode n).free = s.free := rfl
@[simp] theorem State.staleNode_now (s : State) (n : Nat) : (s.staleNode n).now = s.now := rfl
@[simp] theorem State.staleNode_straps (s : State) (n : Nat) : (s.staleNode n).straps = s.straps := rfl
@[simp] theorem State.staleNode_sentU (s : State) (n : Nat) : (s.staleNode n).sentU = s.sentU := rfl
@[simp] theorem State.staleNode_sentD (s : State) (n : Nat) : (s.staleNode n).sentD = s.sentD := rfl
@[simp] theorem State.staleNode_ring (s : State) (n : Nat) : (s.staleNode n).ring = s.ring := rfl
@[simp] theorem State.staleNode_gapTimer (s : State) (n : Nat) : (s.staleNode n).gapTimer = s.gapTimer := rfl
@[simp] theorem State.staleNode_badRun (s : State) (n : Nat) : (s.staleNode n).badRun = s.badRun := rfl
@[simp] theorem State.staleNode_degraded (s : State) (n : Nat) : (s.staleNode n).degraded = s.degraded := rfl
@[simp] theorem State.staleNode_holder (s : State) (n : Nat) : (s.staleNode n).holder = s.holder := rfl
@[simp] theorem State.staleNode_loader (s : State) (n : Nat) : (s.staleNode n).loader = s.loader := rfl
@[simp] theorem State.staleNode_inUse (s : State) (n : Nat) : (s.staleNode n).inUse = s.inUse := rfl
@[simp] theorem State.staleNode_nodes (s : State) (n : Nat) : (s.staleNode n).nodes = s.nodes := rfl
@[simp] theorem State.staleNode_records (s : State) (n : Nat) : (s.staleNode n).records = s.records := rfl
@[simp] theorem State.staleNode_useCounts (s : State) (n : Nat) : (s.staleNode n).useCounts = s.useCounts := rfl
@[simp] theorem State.staleNode_ctxs (s : State) (n : Nat) : (s.staleNode n).ctxs = s.ctxs := rfl
@[simp] theorem State.staleNode_lines (s : State) (n : Nat) : (s.staleNode n).lines = s.lines := rfl
@[simp] theorem State.staleNode_groups (s : State) (n : Nat) : (s.staleNode n).groups = s.groups := rfl
@[simp] theorem State.staleNode_waits (s : State) (n : Nat) : (s.staleNode n).waits = s.waits := rfl
@[simp] theorem State.staleNode_scanning (s : State) (n : Nat) : (s.staleNode n).scanning = s.scanning := rfl
@[simp] theorem State.staleNode_scanAgain (s : State) (n : Nat) : (s.staleNode n).scanAgain = s.scanAgain := rfl
@[simp] theorem State.staleNode_gates (s : State) (n : Nat) : (s.staleNode n).gates = s.gates := rfl
@[simp] theorem State.staleNode_reports (s : State) (n : Nat) : (s.staleNode n).reports = s.reports := rfl
@[simp] theorem State.staleNode_lost (s : State) (n : Nat) : (s.staleNode n).lost = s.lost := rfl
@[simp] theorem State.staleNode_counters (s : State) (n : Nat) : (s.staleNode n).counters = s.counters := rfl

/-! ### `State.release` -/

@[simp] theorem State.release_pending (s : State) (c : Nat) : (s.release c).pending = s.pending := rfl
@[simp] theorem State.release_agenda (s : State) (c : Nat) : (s.release c).agenda = s.agenda := rfl
@[simp] theorem State.release_free (s : State) (c : Nat) : (s.release c).free = s.free := rfl
@[simp] theorem State.release_now (s : State) (c : Nat) : (s.release c).now = s.now := rfl
@[simp] theorem State.release_straps (s : State) (c : Nat) : (s.release c).straps = s.straps := rfl
@[simp] theorem State.release_sentU (s : State) (c : Nat) : (s.release c).sentU = s.sentU := rfl
@[simp] theorem State.release_sentD (s : State) (c : Nat) : (s.release c).sentD = s.sentD := rfl
@[simp] theorem State.release_ring (s : State) (c : Nat) : (s.release c).ring = s.ring := rfl
@[simp] theorem State.release_gapTimer (s : State) (c : Nat) : (s.release c).gapTimer = s.gapTimer := rfl
@[simp] theorem State.release_badRun (s : State) (c : Nat) : (s.release c).badRun = s.badRun := rfl
@[simp] theorem State.release_degraded (s : State) (c : Nat) : (s.release c).degraded = s.degraded := rfl
@[simp] theorem State.release_holder (s : State) (c : Nat) : (s.release c).holder = s.holder := rfl
@[simp] theorem State.release_loader (s : State) (c : Nat) : (s.release c).loader = s.loader := rfl
@[simp] theorem State.release_inUse (s : State) (c : Nat) : (s.release c).inUse = s.inUse := rfl
@[simp] theorem State.release_points (s : State) (c : Nat) : (s.release c).points = s.points := rfl
@[simp] theorem State.release_nodes (s : State) (c : Nat) : (s.release c).nodes = s.nodes := rfl
@[simp] theorem State.release_records (s : State) (c : Nat) : (s.release c).records = s.records := rfl
@[simp] theorem State.release_useCounts (s : State) (c : Nat) : (s.release c).useCounts = s.useCounts := rfl
@[simp] theorem State.release_ctxs (s : State) (c : Nat) : (s.release c).ctxs = s.ctxs := rfl
@[simp] theorem State.release_waits (s : State) (c : Nat) : (s.release c).waits = s.waits := rfl
@[simp] theorem State.release_scanning (s : State) (c : Nat) : (s.release c).scanning = s.scanning := rfl
@[simp] theorem State.release_scanAgain (s : State) (c : Nat) : (s.release c).scanAgain = s.scanAgain := rfl
@[simp] theorem State.release_gates (s : State) (c : Nat) : (s.release c).gates = s.gates := rfl
@[simp] theorem State.release_reports (s : State) (c : Nat) : (s.release c).reports = s.reports := rfl
@[simp] theorem State.release_lost (s : State) (c : Nat) : (s.release c).lost = s.lost := rfl
@[simp] theorem State.release_counters (s : State) (c : Nat) : (s.release c).counters = s.counters := rfl

/-! ### `State.holdResponse` -/

@[simp] theorem State.holdResponse_pending (s : State) (f : Frame) (r : Response) (soft : Bool) : (s.holdResponse f r soft).pending = s.pending := rfl
@[simp] theorem State.holdResponse_agenda (s : State) (f : Frame) (r : Response) (soft : Bool) : (s.holdResponse f r soft).agenda = s.agenda := rfl
@[simp] theorem State.holdResponse_free (s : State) (f : Frame) (r : Response) (soft : Bool) : (s.holdResponse f r soft).free = s.free := rfl
@[simp] theorem State.holdResponse_now (s : State) (f : Frame) (r : Response) (soft : Bool) : (s.holdResponse f r soft).now = s.now := rfl
@[simp] theorem State.holdResponse_straps (s : State) (f : Frame) (r : Response) (soft : Bool) : (s.holdResponse f r soft).straps = s.straps := rfl
@[simp] theorem State.holdResponse_sentU (s : State) (f : Frame) (r : Response) (soft : Bool) : (s.holdResponse f r soft).sentU = s.sentU := rfl
@[simp] theorem State.holdResponse_sentD (s : State) (f : Frame) (r : Response) (soft : Bool) : (s.holdResponse f r soft).sentD = some f := rfl
@[simp] theorem State.holdResponse_ring (s : State) (f : Frame) (r : Response) (soft : Bool) : (s.holdResponse f r soft).ring = s.ring := rfl
@[simp] theorem State.holdResponse_gapTimer (s : State) (f : Frame) (r : Response) (soft : Bool) : (s.holdResponse f r soft).gapTimer = s.gapTimer := rfl
@[simp] theorem State.holdResponse_badRun (s : State) (f : Frame) (r : Response) (soft : Bool) : (s.holdResponse f r soft).badRun = s.badRun := rfl
@[simp] theorem State.holdResponse_degraded (s : State) (f : Frame) (r : Response) (soft : Bool) : (s.holdResponse f r soft).degraded = s.degraded := rfl
@[simp] theorem State.holdResponse_holder (s : State) (f : Frame) (r : Response) (soft : Bool) : (s.holdResponse f r soft).holder = some { tag := requestTag f, response := r, timer := { start := s.now, dur := 4 * s.inUse.period }, softReset := soft } := rfl
@[simp] theorem State.holdResponse_loader (s : State) (f : Frame) (r : Response) (soft : Bool) : (s.holdResponse f r soft).loader = s.loader := rfl
@[simp] theorem State.holdResponse_inUse (s : State) (f : Frame) (r : Response) (soft : Bool) : (s.holdResponse f r soft).inUse = s.inUse := rfl
@[simp] theorem State.holdResponse_points (s : State) (f : Frame) (r : Response) (soft : Bool) : (s.holdResponse f r soft).points = s.points := rfl
@[simp] theorem State.holdResponse_nodes (s : State) (f : Frame) (r : Response) (soft : Bool) : (s.holdResponse f r soft).nodes = s.nodes := rfl
@[simp] theorem State.holdResponse_records (s : State) (f : Frame) (r : Response) (soft : Bool) : (s.holdResponse f r soft).records = s.records := rfl
@[simp] theorem State.holdResponse_useCounts (s : State) (f : Frame) (r : Response) (soft : Bool) : (s.holdResponse f r soft).useCounts = s.useCounts := rfl
@[simp] theorem State.holdResponse_ctxs (s : State) (f : Frame) (r : Response) (soft : Bool) : (s.holdResponse f r soft).ctxs = s.ctxs := rfl
@[simp] theorem State.holdResponse_lines (s : State) (f : Frame) (r : Response) (soft : Bool) : (s.holdResponse f r soft).lines = s.lines := rfl
@[simp] theorem State.holdResponse_groups (s : State) (f : Frame) (r : Response) (soft : Bool) : (s.holdResponse f r soft).groups = s.groups := rfl
@[simp] theorem State.holdResponse_waits (s : State) (f : Frame) (r : Response) (soft : Bool) : (s.holdResponse f r soft).waits = s.waits := rfl
@[simp] theorem State.holdResponse_scanning (s : State) (f : Frame) (r : Response) (soft : Bool) : (s.holdResponse f r soft).scanning = s.scanning := rfl
@[simp] theorem State.holdResponse_scanAgain (s : State) (f : Frame) (r : Response) (soft : Bool) : (s.holdResponse f r soft).scanAgain = s.scanAgain := rfl
@[simp] theorem State.holdResponse_gates (s : State) (f : Frame) (r : Response) (soft : Bool) : (s.holdResponse f r soft).gates = s.gates := rfl
@[simp] theorem State.holdResponse_reports (s : State) (f : Frame) (r : Response) (soft : Bool) : (s.holdResponse f r soft).reports = s.reports := rfl
@[simp] theorem State.holdResponse_lost (s : State) (f : Frame) (r : Response) (soft : Bool) : (s.holdResponse f r soft).lost = s.lost := rfl
@[simp] theorem State.holdResponse_counters (s : State) (f : Frame) (r : Response) (soft : Bool) : (s.holdResponse f r soft).counters = s.counters := rfl

/-! ### Reading after writing -/

/-- A written context reads back. -/
@[simp] theorem State.ctx_setCtx_self (s : State) (c : Nat) (x : Ctx) (h : c < s.ctxs.length) : (s.setCtx c x).ctx c = x := by
  simp [State.ctx, List.getD, h]

/-- Writing a context leaves the others. -/
theorem State.ctx_setCtx_of_ne (s : State) {c d : Nat} (x : Ctx) (h : c ≠ d) : (s.setCtx c x).ctx d = s.ctx d := by
  simp [State.ctx, List.getD, List.getElem?_set_ne h]

/-- A written point entry reads back. -/
@[simp] theorem State.point_setPoint_self (s : State) (p : Nat) (x : Point) (h : p < s.points.length) :
    (s.setPoint p x).point p = x := by
  simp [State.point, List.getD, h]

/-- Writing a point entry leaves the others. -/
theorem State.point_setPoint_of_ne (s : State) {p q : Nat} (x : Point) (h : p ≠ q) : (s.setPoint p x).point q = s.point q := by
  simp [State.point, List.getD, List.getElem?_set_ne h]

/-- A written node entry reads back. -/
@[simp] theorem State.node_setNode_self (s : State) (n : Nat) (x : Option Node) (h : n < s.nodes.length) :
    (s.setNode n x).node n = x := by
  simp [State.node, List.getD, h]

/-- Writing a node entry leaves the others. -/
theorem State.node_setNode_of_ne (s : State) {n m : Nat} (x : Option Node) (h : n ≠ m) : (s.setNode n x).node m = s.node m := by
  simp [State.node, List.getD, List.getElem?_set_ne h]

/-- A written gate entry reads back. -/
@[simp] theorem State.gate_setGate_self (s : State) (g : Nat) (x : Option Gate) (h : g < s.gates.length) :
    (s.setGate g x).gate g = x := by
  simp [State.gate, List.getD, h]

/-- Writing a gate entry leaves the others. -/
theorem State.gate_setGate_of_ne (s : State) {g k : Nat} (x : Option Gate) (h : g ≠ k) : (s.setGate g x).gate k = s.gate k := by
  simp [State.gate, List.getD, List.getElem?_set_ne h]

/-- `mapFrom` keeps the length. -/
@[simp] theorem length_mapFrom {α β : Type} (f : Nat → α → β) (n : Nat) (l : List α) : (mapFrom f n l).length = l.length := by
  induction l generalizing n with
  | nil => rfl
  | cons a l ih => simp [mapFrom, ih]

/-- Entry k of `mapFrom`. -/
theorem getElem?_mapFrom {α β : Type} (f : Nat → α → β) (n : Nat) (l : List α) (k : Nat) :
    (mapFrom f n l)[k]? = l[k]?.map (f (n + k)) := by
  induction l generalizing n k with
  | nil => simp [mapFrom]
  | cons a l ih =>
    cases k with
    | zero => simp [mapFrom]
    | succ k => simp [mapFrom, ih, Nat.add_comm, Nat.add_left_comm]

end Sys2Proof.Machine
end

