-- ==== Sys2Proof/Laws/Cascade.lean ====
section
/-!
SUPPORT. Sys2Proof/Laws/Cascade.lean: how to run an event's work in a proof: piece by piece, and in a part where a scan admits nothing.
-/
namespace Sys2Proof.Machine

/-- The state after the first k pieces of work, or fewer where none is left. -/
def runFor : Nat → State → State
  | 0, s => s
  | k + 1, s =>
    match s.agenda with
    | [] => s
    | t :: ts => runFor k (doTask t { s with agenda := ts })

/-- The first piece of work, then the others. -/
theorem runFor_cons (k : Nat) (s : State) {t : Task} {ts : List Task} (h : s.agenda = t :: ts) :
    runFor (k + 1) s = runFor k (doTask t { s with agenda := ts }) := by simp [runFor, h]

/-- With no work left, nothing is done. -/
theorem runFor_nil (k : Nat) (s : State) (h : s.agenda = []) : runFor k s = s := by cases k <;> simp [runFor, h]

/-- With no work left, nothing is done. -/
theorem settleFor_nil (n : Nat) (s : State) (h : s.agenda = []) : settleFor n s = s := by
  cases n with
  | zero => cases s; simp only at h; subst h; rfl
  | succ n => simp [settleFor, h]

/-- Settling starts with the first k pieces. -/
theorem settleFor_add (k n : Nat) (s : State) : settleFor (k + n) s = settleFor n (runFor k s) := by
  induction k generalizing s with
  | zero => simp [runFor]
  | succ k ih =>
    cases h : s.agenda with
    | nil => rw [settleFor_nil _ _ h, runFor_nil _ _ h, settleFor_nil _ _ h]
    | cons t ts => rw [runFor_cons _ _ h, ← ih, Nat.succ_add]; simp [settleFor, h]

/-- An event whose work is done after k pieces. -/
theorem State.settle_of_run (s : State) (k : Nat) (hk : k ≤ cascadeLimit) (h : (runFor k s).agenda = []) :
    s.settle = runFor k s := by
  unfold State.settle
  rw [← Nat.add_sub_cancel' hk, settleFor_add, settleFor_nil _ _ h]

/-- What a quiet part is. -/
theorem State.quiet_iff (s : State) :
    s.quiet = true ↔ s.agenda = [] ∧ s.waits = [] ∧ s.scanning = false ∧ s.scanAgain = false := by
  simp [State.quiet, and_assoc]

/-- In a quiet part a scan trigger changes nothing (R135). -/
theorem State.settle_trigger (s : State) (h : s.quiet = true) : (s.push [.trigger]).settle = s := by
  obtain ⟨ha, hw, hs, hg⟩ := s.quiet_iff.mp h
  have e : runFor 2 (s.push [.trigger]) = s := by
    cases s
    simp only at ha hw hs hg
    subst ha hw hs hg
    rfl
  rw [State.settle_of_run _ 2 (by decide) (by rw [e]; exact ha), e]

/-- In a quiet part an event that at most triggers a scan changes nothing. -/
theorem State.settle_triggerIf (s : State) (b : Bool) (h : s.quiet = true) : (s.triggerIf b).settle = s := by
  cases b
  · exact s.settle_of_nil (s.quiet_iff.mp h).1
  · exact s.settle_trigger h

/-- A raise that is not followed by a taking leaves the flag and its report (R157, R160). -/
theorem State.settle_raise (s : State) (c : Nat) (src : Source) (h : s.agenda = [])
    (hn : (s.raiseFlag c src).toTake c = none) (hr : (s.raiseFlag c src).agenda = []) :
    (s.push [.raise c src]).settle = s.raiseFlag c src := by
  have e1 : runFor 2 (s.push [.raise c src]) = s.raiseFlag c src := by
    have h1 : (s.push [.raise c src]).agenda = .raise c src :: [] := by simp [h]
    have h0 : { s.push [.raise c src] with agenda := [] } = s := by cases s; simp only at h; subst h; rfl
    rw [runFor_cons 1 _ h1, h0]
    have h2 : (doTask (.raise c src) s).agenda = .attempt c :: [] := by simp [doTask, State.raise, hr]
    rw [runFor_cons 0 _ h2]
    have h3 : { doTask (.raise c src) s with agenda := [] } = s.raiseFlag c src := by
      generalize hq : s.raiseFlag c src = q at hr
      simp only [doTask, State.raise, hq]
      cases q; simp only at hr; subst hr; rfl
    rw [h3]
    simp [runFor, doTask, State.attempt, hn]
  rw [State.settle_of_run _ 2 (by decide) (by rw [e1]; exact hr), e1]

end Sys2Proof.Machine
end

