-- ==== Sys2Proof/Laws/Mailbox.lean ====
section
/-!
SUPPORT. Sys2Proof/Laws/Mailbox.lean: frames keep their lengths, a re-formed check verifies, and what the arrival of a frame whose
request is executed answers.
-/
namespace Sys2Proof.Machine

/-- A re-formed check verifies. -/
@[simp] theorem goodCheck_reform (f : Frame) : goodCheck (reform f) = true := by
  simp [goodCheck, reform, frameBytes]

@[simp] theorem reform_data (f : Frame) : (reform f).data = f.data := by cases f; rfl
@[simp] theorem reform_addresses (f : Frame) : (reform f).addresses = f.addresses := by cases f; rfl
@[simp] theorem reform_etherType (f : Frame) : (reform f).etherType = f.etherType := by cases f; rfl
@[simp] theorem writePayload_addresses (f : Frame) (k : Nat) (bs : List Byte) :
    (writePayload f k bs).addresses = f.addresses := by cases f; rfl
@[simp] theorem writePayload_etherType (f : Frame) (k : Nat) (bs : List Byte) :
    (writePayload f k bs).etherType = f.etherType := by cases f; rfl

/-- An overlay keeps the length. -/
@[simp] theorem length_overlay (bs : List Byte) (k : Nat) (ns : List Byte) : (overlay bs k ns).length = bs.length := by
  induction bs generalizing k ns with
  | nil => rfl
  | cons b bs ih => cases k <;> cases ns <;> simp [overlay, ih]

/-- Writing into the payload keeps the frame's length. -/
@[simp] theorem length_writePayload (f : Frame) (k : Nat) (bs : List Byte) :
    (writePayload f k bs).data.length = f.data.length := by simp [writePayload]

/-- A response written into a frame keeps its length. -/
@[simp] theorem length_writeResponse (f : Frame) (r : Response) : (writeResponse f r).data.length = f.data.length := by
  simp [writeResponse]

/-- The bytes of a value are as many as asked for. -/
@[simp] theorem length_leBytes (v n : Nat) : (leBytes v n).length = n := by
  induction n generalizing v with
  | zero => rfl
  | succ n ih => simp [leBytes, ih]

@[simp] theorem length_zeros (n : Nat) : (zeros n).length = n := by simp [zeros]

/-- The arrival of a frame whose request is executed: its outcome on the arrival state, and the response in the holder. -/
theorem State.arriveU_executes (s : State) (dt : Nat) (m : Mailbox) (q : Request) (h : s.executes m q.code = true)
    (hb : q.bodyHeld m = true) (hc : q.counted = true) :
    (s.advance dt).arriveU m (some q) =
      .next ((q.run (s.arrived dt)).1.holdResponse m.frame (q.run (s.arrived dt)).2
        (q.code == softResetCode && (q.run (s.arrived dt)).2.code == .ok)) := by
  simp only [State.executes, State.executesFrame, Bool.and_eq_true, beq_iff_eq, bne_iff_ne, ne_eq, Bool.not_eq_true', Option.isNone_iff_eq_none]
    at h
  obtain ⟨⟨⟨⟨⟨⟨hg, hm⟩, hh⟩, hl⟩, hu⟩, hr⟩, _⟩ := h
  have hh' : (((s.advance dt).goodArrival).count 49).holder.isSome = false := by simp [hh]
  have hl' : (((s.advance dt).goodArrival).count 49).loader.state ≠ .loading := by simpa using hl
  have hm' : classify ((s.advance dt).goodArrival).inUse.address m.frame = .mailbox := by simpa using hm
  unfold State.arriveU
  simp only [hg, if_true, hm', hh', hl', Bool.false_eq_true, or_self, if_false, State.execute, State.perform, hu, hr, hb, hc,
    Bool.and_self, State.arrived]

/-- The arrival of a frame whose request is executed, with a command of another request or of none: the frame's own request is executed
with the fields that its body spells (log 2). -/
theorem State.arriveU_spelled (s : State) (dt : Nat) (m : Mailbox) (q : Option Request)
    (h : s.executesFrame m.frame = true) (hq : ∀ q', q = some q' → q'.code ≠ requestCode m.frame) :
    (s.advance dt).arriveU m q = .next ((s.arrived dt).executeSpelled m.frame) := by
  simp only [State.executesFrame, Bool.and_eq_true, beq_iff_eq, bne_iff_ne, ne_eq, Bool.not_eq_true',
    Option.isNone_iff_eq_none] at h
  obtain ⟨⟨⟨⟨hg, hm⟩, hh⟩, hl⟩, hu⟩ := h
  have hh' : (((s.advance dt).goodArrival).count 49).holder.isSome = false := by simp [hh]
  have hl' : (((s.advance dt).goodArrival).count 49).loader.state ≠ .loading := by simpa using hl
  have hm' : classify ((s.advance dt).goodArrival).inUse.address m.frame = .mailbox := by simpa using hm
  unfold State.arriveU
  simp only [hg, if_true, hm', hh', hl', Bool.false_eq_true, or_self, if_false, State.execute, hu, State.arrived]
  match q with
  | none => rfl
  | some q' => simp only [if_neg (Ne.symm (hq q' rfl))]

/-- A frame's arrival at port U answers a next state, whatever the command carries. -/
theorem State.arriveU_next (s : State) (m : Mailbox) (q : Option Request) : ∃ t, s.arriveU m q = .next t := by
  unfold State.arriveU
  dsimp only
  split
  · split <;> exact ⟨_, rfl⟩
  · exact ⟨_, rfl⟩

/-- The request of a code has that code. -/
theorem requestOf_code (x : Fields) (code : Nat) (q : Request) (h : requestOf x code = some q) : q.code = code := by
  unfold requestOf at h
  split at h <;> (try split at h) <;> first | (cases h; rfl) | cases h

/-- The codes that Table 10-2 lists are those of a request. -/
theorem requestOf_isSome (x : Fields) (code : Nat) : (requestOf x code).isSome = (largestBody code).isSome := by
  unfold requestOf largestBody
  split <;> simp_all

/-- The body is held of a request without fields (R178 stage 4). -/
theorem Request.bodyHeld_of_fieldless (q : Request) (m : Mailbox) (h : q.least = 0) : q.bodyHeld m = true := by
  simp [Request.bodyHeld, h]

/-- The body of an executed request that carries fields is held where at least one byte is all that the manual asks of it. -/
theorem Request.bodyHeld_of_executes (q : Request) (s : State) (m : Mailbox) (h : s.executes m q.code = true)
    (hf : fieldless q.code = false) (hl : q.least ≤ 1) : q.bodyHeld m = true := by
  simp only [State.executes, hf, Bool.false_or, Bool.and_eq_true, decide_eq_true_eq] at h
  simp only [Request.bodyHeld, h.2.1, Bool.true_and, Bool.or_eq_true, decide_eq_true_eq]
  exact .inr (by omega)

/-- A request whose check passes is carried out, and answered on the state it leaves (R179). -/
theorem Request.run_of_passes (q : Request) (s : State) (h : q.check s = none) :
    q.run s = ((q.effect s).settle, q.respond s (q.effect s).settle) := by simp [Request.run, h]

/-- A refused request has no effect (R179). -/
theorem Request.run_of_refused (q : Request) (s : State) (r : Response) (h : q.check s = some r) : q.run s = (s, r) := by
  simp [Request.run, h]

/-- What the arrival state keeps of the state before. -/
@[simp] theorem State.arrived_agenda (s : State) (dt : Nat) : (s.arrived dt).agenda = s.agenda := rfl
@[simp] theorem State.arrived_points (s : State) (dt : Nat) : (s.arrived dt).points = s.points := rfl
@[simp] theorem State.arrived_nodes (s : State) (dt : Nat) : (s.arrived dt).nodes = s.nodes := rfl
@[simp] theorem State.arrived_records (s : State) (dt : Nat) : (s.arrived dt).records = s.records := rfl
@[simp] theorem State.arrived_useCounts (s : State) (dt : Nat) : (s.arrived dt).useCounts = s.useCounts := rfl
@[simp] theorem State.arrived_lines (s : State) (dt : Nat) : (s.arrived dt).lines = s.lines := rfl
@[simp] theorem State.arrived_groups (s : State) (dt : Nat) : (s.arrived dt).groups = s.groups := rfl
@[simp] theorem State.arrived_gates (s : State) (dt : Nat) : (s.arrived dt).gates = s.gates := rfl
@[simp] theorem State.arrived_reports (s : State) (dt : Nat) : (s.arrived dt).reports = s.reports := rfl
@[simp] theorem State.arrived_loader (s : State) (dt : Nat) : (s.arrived dt).loader = s.loader := rfl

end Sys2Proof.Machine
end

