-- ==== Sys2Proof/Laws/Ops.lean ====
section
/-!
SUPPORT. Sys2Proof/Laws/Ops.lean: the shared operations that branch: which fields they leave, and once what each can do.
-/
namespace Sys2Proof.Machine

/-! ### `State.report` -/

@[simp] theorem State.report_pending (s : State) (c st : Option Nat) (tag : Option (BitVec 32)) (b : ReportBody) : (s.report c st tag b).pending = s.pending := by
  unfold State.report; split <;> rfl
@[simp] theorem State.report_agenda (s : State) (c st : Option Nat) (tag : Option (BitVec 32)) (b : ReportBody) : (s.report c st tag b).agenda = s.agenda := by
  unfold State.report; split <;> rfl
@[simp] theorem State.report_free (s : State) (c st : Option Nat) (tag : Option (BitVec 32)) (b : ReportBody) : (s.report c st tag b).free = s.free := by
  unfold State.report; split <;> rfl
@[simp] theorem State.report_now (s : State) (c st : Option Nat) (tag : Option (BitVec 32)) (b : ReportBody) : (s.report c st tag b).now = s.now := by
  unfold State.report; split <;> rfl
@[simp] theorem State.report_straps (s : State) (c st : Option Nat) (tag : Option (BitVec 32)) (b : ReportBody) : (s.report c st tag b).straps = s.straps := by
  unfold State.report; split <;> rfl
@[simp] theorem State.report_sentU (s : State) (c st : Option Nat) (tag : Option (BitVec 32)) (b : ReportBody) : (s.report c st tag b).sentU = s.sentU := by
  unfold State.report; split <;> rfl
@[simp] theorem State.report_sentD (s : State) (c st : Option Nat) (tag : Option (BitVec 32)) (b : ReportBody) : (s.report c st tag b).sentD = s.sentD := by
  unfold State.report; split <;> rfl
@[simp] theorem State.report_ring (s : State) (c st : Option Nat) (tag : Option (BitVec 32)) (b : ReportBody) : (s.report c st tag b).ring = s.ring := by
  unfold State.report; split <;> rfl
@[simp] theorem State.report_gapTimer (s : State) (c st : Option Nat) (tag : Option (BitVec 32)) (b : ReportBody) : (s.report c st tag b).gapTimer = s.gapTimer := by
  unfold State.report; split <;> rfl
@[simp] theorem State.report_badRun (s : State) (c st : Option Nat) (tag : Option (BitVec 32)) (b : ReportBody) : (s.report c st tag b).badRun = s.badRun := by
  unfold State.report; split <;> rfl
@[simp] theorem State.report_degraded (s : State) (c st : Option Nat) (tag : Option (BitVec 32)) (b : ReportBody) : (s.report c st tag b).degraded = s.degraded := by
  unfold State.report; split <;> rfl
@[simp] theorem State.report_holder (s : State) (c st : Option Nat) (tag : Option (BitVec 32)) (b : ReportBody) : (s.report c st tag b).holder = s.holder := by
  unfold State.report; split <;> rfl
@[simp] theorem State.report_loader (s : State) (c st : Option Nat) (tag : Option (BitVec 32)) (b : ReportBody) : (s.report c st tag b).loader = s.loader := by
  unfold State.report; split <;> rfl
@[simp] theorem State.report_inUse (s : State) (c st : Option Nat) (tag : Option (BitVec 32)) (b : ReportBody) : (s.report c st tag b).inUse = s.inUse := by
  unfold State.report; split <;> rfl
@[simp] theorem State.report_points (s : State) (c st : Option Nat) (tag : Option (BitVec 32)) (b : ReportBody) : (s.report c st tag b).points = s.points := by
  unfold State.report; split <;> rfl
@[simp] theorem State.report_nodes (s : State) (c st : Option Nat) (tag : Option (BitVec 32)) (b : ReportBody) : (s.report c st tag b).nodes = s.nodes := by
  unfold State.report; split <;> rfl
@[simp] theorem State.report_records (s : State) (c st : Option Nat) (tag : Option (BitVec 32)) (b : ReportBody) : (s.report c st tag b).records = s.records := by
  unfold State.report; split <;> rfl
@[simp] theorem State.report_useCounts (s : State) (c st : Option Nat) (tag : Option (BitVec 32)) (b : ReportBody) : (s.report c st tag b).useCounts = s.useCounts := by
  unfold State.report; split <;> rfl
@[simp] theorem State.report_ctxs (s : State) (c st : Option Nat) (tag : Option (BitVec 32)) (b : ReportBody) : (s.report c st tag b).ctxs = s.ctxs := by
  unfold State.report; split <;> rfl
@[simp] theorem State.report_lines (s : State) (c st : Option Nat) (tag : Option (BitVec 32)) (b : ReportBody) : (s.report c st tag b).lines = s.lines := by
  unfold State.report; split <;> rfl
@[simp] theorem State.report_groups (s : State) (c st : Option Nat) (tag : Option (BitVec 32)) (b : ReportBody) : (s.report c st tag b).groups = s.groups := by
  unfold State.report; split <;> rfl
@[simp] theorem State.report_waits (s : State) (c st : Option Nat) (tag : Option (BitVec 32)) (b : ReportBody) : (s.report c st tag b).waits = s.waits := by
  unfold State.report; split <;> rfl
@[simp] theorem State.report_scanning (s : State) (c st : Option Nat) (tag : Option (BitVec 32)) (b : ReportBody) : (s.report c st tag b).scanning = s.scanning := by
  unfold State.report; split <;> rfl
@[simp] theorem State.report_scanAgain (s : State) (c st : Option Nat) (tag : Option (BitVec 32)) (b : ReportBody) : (s.report c st tag b).scanAgain = s.scanAgain := by
  unfold State.report; split <;> rfl
@[simp] theorem State.report_gates (s : State) (c st : Option Nat) (tag : Option (BitVec 32)) (b : ReportBody) : (s.report c st tag b).gates = s.gates := by
  unfold State.report; split <;> rfl
@[simp] theorem State.report_counters (s : State) (c st : Option Nat) (tag : Option (BitVec 32)) (b : ReportBody) : (s.report c st tag b).counters = s.counters := by
  unfold State.report; split <;> rfl

/-! ### `State.retarget` -/

@[simp] theorem State.retarget_pending (s : State) (p t d : Nat) : (s.retarget p t d).pending = s.pending := by
  unfold State.retarget; split <;> rfl
@[simp] theorem State.retarget_agenda (s : State) (p t d : Nat) : (s.retarget p t d).agenda = s.agenda := by
  unfold State.retarget; split <;> rfl
@[simp] theorem State.retarget_free (s : State) (p t d : Nat) : (s.retarget p t d).free = s.free := by
  unfold State.retarget; split <;> rfl
@[simp] theorem State.retarget_now (s : State) (p t d : Nat) : (s.retarget p t d).now = s.now := by
  unfold State.retarget; split <;> rfl
@[simp] theorem State.retarget_straps (s : State) (p t d : Nat) : (s.retarget p t d).straps = s.straps := by
  unfold State.retarget; split <;> rfl
@[simp] theorem State.retarget_sentU (s : State) (p t d : Nat) : (s.retarget p t d).sentU = s.sentU := by
  unfold State.retarget; split <;> rfl
@[simp] theorem State.retarget_sentD (s : State) (p t d : Nat) : (s.retarget p t d).sentD = s.sentD := by
  unfold State.retarget; split <;> rfl
@[simp] theorem State.retarget_ring (s : State) (p t d : Nat) : (s.retarget p t d).ring = s.ring := by
  unfold State.retarget; split <;> rfl
@[simp] theorem State.retarget_gapTimer (s : State) (p t d : Nat) : (s.retarget p t d).gapTimer = s.gapTimer := by
  unfold State.retarget; split <;> rfl
@[simp] theorem State.retarget_badRun (s : State) (p t d : Nat) : (s.retarget p t d).badRun = s.badRun := by
  unfold State.retarget; split <;> rfl
@[simp] theorem State.retarget_degraded (s : State) (p t d : Nat) : (s.retarget p t d).degraded = s.degraded := by
  unfold State.retarget; split <;> rfl
@[simp] theorem State.retarget_holder (s : State) (p t d : Nat) : (s.retarget p t d).holder = s.holder := by
  unfold State.retarget; split <;> rfl
@[simp] theorem State.retarget_loader (s : State) (p t d : Nat) : (s.retarget p t d).loader = s.loader := by
  unfold State.retarget; split <;> rfl
@[simp] theorem State.retarget_inUse (s : State) (p t d : Nat) : (s.retarget p t d).inUse = s.inUse := by
  unfold State.retarget; split <;> rfl
@[simp] theorem State.retarget_nodes (s : State) (p t d : Nat) : (s.retarget p t d).nodes = s.nodes := by
  unfold State.retarget; split <;> rfl
@[simp] theorem State.retarget_records (s : State) (p t d : Nat) : (s.retarget p t d).records = s.records := by
  unfold State.retarget; split <;> rfl
@[simp] theorem State.retarget_useCounts (s : State) (p t d : Nat) : (s.retarget p t d).useCounts = s.useCounts := by
  unfold State.retarget; split <;> rfl
@[simp] theorem State.retarget_ctxs (s : State) (p t d : Nat) : (s.retarget p t d).ctxs = s.ctxs := by
  unfold State.retarget; split <;> rfl
@[simp] theorem State.retarget_lines (s : State) (p t d : Nat) : (s.retarget p t d).lines = s.lines := by
  unfold State.retarget; split <;> rfl
@[simp] theorem State.retarget_groups (s : State) (p t d : Nat) : (s.retarget p t d).groups = s.groups := by
  unfold State.retarget; split <;> rfl
@[simp] theorem State.retarget_waits (s : State) (p t d : Nat) : (s.retarget p t d).waits = s.waits := by
  unfold State.retarget; split <;> rfl
@[simp] theorem State.retarget_scanning (s : State) (p t d : Nat) : (s.retarget p t d).scanning = s.scanning := by
  unfold State.retarget; split <;> rfl
@[simp] theorem State.retarget_scanAgain (s : State) (p t d : Nat) : (s.retarget p t d).scanAgain = s.scanAgain := by
  unfold State.retarget; split <;> rfl
@[simp] theorem State.retarget_gates (s : State) (p t d : Nat) : (s.retarget p t d).gates = s.gates := by
  unfold State.retarget; split <;> rfl
@[simp] theorem State.retarget_reports (s : State) (p t d : Nat) : (s.retarget p t d).reports = s.reports := by
  unfold State.retarget; split <;> rfl
@[simp] theorem State.retarget_lost (s : State) (p t d : Nat) : (s.retarget p t d).lost = s.lost := by
  unfold State.retarget; split <;> rfl
@[simp] theorem State.retarget_counters (s : State) (p t d : Nat) : (s.retarget p t d).counters = s.counters := by
  unfold State.retarget; split <;> rfl

/-! ### `State.releaseForce` -/

@[simp] theorem State.releaseForce_pending (s : State) (p : Nat) : (s.releaseForce p).pending = s.pending := by
  unfold State.releaseForce; split <;> rfl
@[simp] theorem State.releaseForce_agenda (s : State) (p : Nat) : (s.releaseForce p).agenda = s.agenda := by
  unfold State.releaseForce; split <;> rfl
@[simp] theorem State.releaseForce_free (s : State) (p : Nat) : (s.releaseForce p).free = s.free := by
  unfold State.releaseForce; split <;> rfl
@[simp] theorem State.releaseForce_now (s : State) (p : Nat) : (s.releaseForce p).now = s.now := by
  unfold State.releaseForce; split <;> rfl
@[simp] theorem State.releaseForce_straps (s : State) (p : Nat) : (s.releaseForce p).straps = s.straps := by
  unfold State.releaseForce; split <;> rfl
@[simp] theorem State.releaseForce_sentU (s : State) (p : Nat) : (s.releaseForce p).sentU = s.sentU := by
  unfold State.releaseForce; split <;> rfl
@[simp] theorem State.releaseForce_sentD (s : State) (p : Nat) : (s.releaseForce p).sentD = s.sentD := by
  unfold State.releaseForce; split <;> rfl
@[simp] theorem State.releaseForce_ring (s : State) (p : Nat) : (s.releaseForce p).ring = s.ring := by
  unfold State.releaseForce; split <;> rfl
@[simp] theorem State.releaseForce_gapTimer (s : State) (p : Nat) : (s.releaseForce p).gapTimer = s.gapTimer := by
  unfold State.releaseForce; split <;> rfl
@[simp] theorem State.releaseForce_badRun (s : State) (p : Nat) : (s.releaseForce p).badRun = s.badRun := by
  unfold State.releaseForce; split <;> rfl
@[simp] theorem State.releaseForce_degraded (s : State) (p : Nat) : (s.releaseForce p).degraded = s.degraded := by
  unfold State.releaseForce; split <;> rfl
@[simp] theorem State.releaseForce_holder (s : State) (p : Nat) : (s.releaseForce p).holder = s.holder := by
  unfold State.releaseForce; split <;> rfl
@[simp] theorem State.releaseForce_loader (s : State) (p : Nat) : (s.releaseForce p).loader = s.loader := by
  unfold State.releaseForce; split <;> rfl
@[simp] theorem State.releaseForce_inUse (s : State) (p : Nat) : (s.releaseForce p).inUse = s.inUse := by
  unfold State.releaseForce; split <;> rfl
@[simp] theorem State.releaseForce_nodes (s : State) (p : Nat) : (s.releaseForce p).nodes = s.nodes := by
  unfold State.releaseForce; split <;> rfl
@[simp] theorem State.releaseForce_records (s : State) (p : Nat) : (s.releaseForce p).records = s.records := by
  unfold State.releaseForce; split <;> rfl
@[simp] theorem State.releaseForce_useCounts (s : State) (p : Nat) : (s.releaseForce p).useCounts = s.useCounts := by
  unfold State.releaseForce; split <;> rfl
@[simp] theorem State.releaseForce_ctxs (s : State) (p : Nat) : (s.releaseForce p).ctxs = s.ctxs := by
  unfold State.releaseForce; split <;> rfl
@[simp] theorem State.releaseForce_lines (s : State) (p : Nat) : (s.releaseForce p).lines = s.lines := by
  unfold State.releaseForce; split <;> rfl
@[simp] theorem State.releaseForce_groups (s : State) (p : Nat) : (s.releaseForce p).groups = s.groups := by
  unfold State.releaseForce; split <;> rfl
@[simp] theorem State.releaseForce_waits (s : State) (p : Nat) : (s.releaseForce p).waits = s.waits := by
  unfold State.releaseForce; split <;> rfl
@[simp] theorem State.releaseForce_scanning (s : State) (p : Nat) : (s.releaseForce p).scanning = s.scanning := by
  unfold State.releaseForce; split <;> rfl
@[simp] theorem State.releaseForce_scanAgain (s : State) (p : Nat) : (s.releaseForce p).scanAgain = s.scanAgain := by
  unfold State.releaseForce; split <;> rfl
@[simp] theorem State.releaseForce_gates (s : State) (p : Nat) : (s.releaseForce p).gates = s.gates := by
  unfold State.releaseForce; split <;> rfl
@[simp] theorem State.releaseForce_reports (s : State) (p : Nat) : (s.releaseForce p).reports = s.reports := by
  unfold State.releaseForce; split <;> rfl
@[simp] theorem State.releaseForce_lost (s : State) (p : Nat) : (s.releaseForce p).lost = s.lost := by
  unfold State.releaseForce; split <;> rfl
@[simp] theorem State.releaseForce_counters (s : State) (p : Nat) : (s.releaseForce p).counters = s.counters := by
  unfold State.releaseForce; split <;> rfl

/-! ### `State.triggerIf` -/

@[simp] theorem State.triggerIf_pending (s : State) (b : Bool) : (s.triggerIf b).pending = s.pending := by
  unfold State.triggerIf; split <;> rfl
@[simp] theorem State.triggerIf_free (s : State) (b : Bool) : (s.triggerIf b).free = s.free := by
  unfold State.triggerIf; split <;> rfl
@[simp] theorem State.triggerIf_now (s : State) (b : Bool) : (s.triggerIf b).now = s.now := by
  unfold State.triggerIf; split <;> rfl
@[simp] theorem State.triggerIf_straps (s : State) (b : Bool) : (s.triggerIf b).straps = s.straps := by
  unfold State.triggerIf; split <;> rfl
@[simp] theorem State.triggerIf_sentU (s : State) (b : Bool) : (s.triggerIf b).sentU = s.sentU := by
  unfold State.triggerIf; split <;> rfl
@[simp] theorem State.triggerIf_sentD (s : State) (b : Bool) : (s.triggerIf b).sentD = s.sentD := by
  unfold State.triggerIf; split <;> rfl
@[simp] theorem State.triggerIf_ring (s : State) (b : Bool) : (s.triggerIf b).ring = s.ring := by
  unfold State.triggerIf; split <;> rfl
@[simp] theorem State.triggerIf_gapTimer (s : State) (b : Bool) : (s.triggerIf b).gapTimer = s.gapTimer := by
  unfold State.triggerIf; split <;> rfl
@[simp] theorem State.triggerIf_badRun (s : State) (b : Bool) : (s.triggerIf b).badRun = s.badRun := by
  unfold State.triggerIf; split <;> rfl
@[simp] theorem State.triggerIf_degraded (s : State) (b : Bool) : (s.triggerIf b).degraded = s.degraded := by
  unfold State.triggerIf; split <;> rfl
@[simp] theorem State.triggerIf_holder (s : State) (b : Bool) : (s.triggerIf b).holder = s.holder := by
  unfold State.triggerIf; split <;> rfl
@[simp] theorem State.triggerIf_loader (s : State) (b : Bool) : (s.triggerIf b).loader = s.loader := by
  unfold State.triggerIf; split <;> rfl
@[simp] theorem State.triggerIf_inUse (s : State) (b : Bool) : (s.triggerIf b).inUse = s.inUse := by
  unfold State.triggerIf; split <;> rfl
@[simp] theorem State.triggerIf_points (s : State) (b : Bool) : (s.triggerIf b).points = s.points := by
  unfold State.triggerIf; split <;> rfl
@[simp] theorem State.triggerIf_nodes (s : State) (b : Bool) : (s.triggerIf b).nodes = s.nodes := by
  unfold State.triggerIf; split <;> rfl
@[simp] theorem State.triggerIf_records (s : State) (b : Bool) : (s.triggerIf b).records = s.records := by
  unfold State.triggerIf; split <;> rfl
@[simp] theorem State.triggerIf_useCounts (s : State) (b : Bool) : (s.triggerIf b).useCounts = s.useCounts := by
  unfold State.triggerIf; split <;> rfl
@[simp] theorem State.triggerIf_ctxs (s : State) (b : Bool) : (s.triggerIf b).ctxs = s.ctxs := by
  unfold State.triggerIf; split <;> rfl
@[simp] theorem State.triggerIf_lines (s : State) (b : Bool) : (s.triggerIf b).lines = s.lines := by
  unfold State.triggerIf; split <;> rfl
@[simp] theorem State.triggerIf_groups (s : State) (b : Bool) : (s.triggerIf b).groups = s.groups := by
  unfold State.triggerIf; split <;> rfl
@[simp] theorem State.triggerIf_waits (s : State) (b : Bool) : (s.triggerIf b).waits = s.waits := by
  unfold State.triggerIf; split <;> rfl
@[simp] theorem State.triggerIf_scanning (s : State) (b : Bool) : (s.triggerIf b).scanning = s.scanning := by
  unfold State.triggerIf; split <;> rfl
@[simp] theorem State.triggerIf_scanAgain (s : State) (b : Bool) : (s.triggerIf b).scanAgain = s.scanAgain := by
  unfold State.triggerIf; split <;> rfl
@[simp] theorem State.triggerIf_gates (s : State) (b : Bool) : (s.triggerIf b).gates = s.gates := by
  unfold State.triggerIf; split <;> rfl
@[simp] theorem State.triggerIf_reports (s : State) (b : Bool) : (s.triggerIf b).reports = s.reports := by
  unfold State.triggerIf; split <;> rfl
@[simp] theorem State.triggerIf_lost (s : State) (b : Bool) : (s.triggerIf b).lost = s.lost := by
  unfold State.triggerIf; split <;> rfl
@[simp] theorem State.triggerIf_counters (s : State) (b : Bool) : (s.triggerIf b).counters = s.counters := by
  unfold State.triggerIf; split <;> rfl

/-! ### `State.raiseFlag` -/

@[simp] theorem State.raiseFlag_pending (s : State) (c : Nat) (src : Source) : (s.raiseFlag c src).pending = s.pending := by
  unfold State.raiseFlag; dsimp only; split <;> simp
@[simp] theorem State.raiseFlag_agenda (s : State) (c : Nat) (src : Source) : (s.raiseFlag c src).agenda = s.agenda := by
  unfold State.raiseFlag; dsimp only; split <;> simp
@[simp] theorem State.raiseFlag_free (s : State) (c : Nat) (src : Source) : (s.raiseFlag c src).free = s.free := by
  unfold State.raiseFlag; dsimp only; split <;> simp
@[simp] theorem State.raiseFlag_now (s : State) (c : Nat) (src : Source) : (s.raiseFlag c src).now = s.now := by
  unfold State.raiseFlag; dsimp only; split <;> simp
@[simp] theorem State.raiseFlag_straps (s : State) (c : Nat) (src : Source) : (s.raiseFlag c src).straps = s.straps := by
  unfold State.raiseFlag; dsimp only; split <;> simp
@[simp] theorem State.raiseFlag_sentU (s : State) (c : Nat) (src : Source) : (s.raiseFlag c src).sentU = s.sentU := by
  unfold State.raiseFlag; dsimp only; split <;> simp
@[simp] theorem State.raiseFlag_sentD (s : State) (c : Nat) (src : Source) : (s.raiseFlag c src).sentD = s.sentD := by
  unfold State.raiseFlag; dsimp only; split <;> simp
@[simp] theorem State.raiseFlag_ring (s : State) (c : Nat) (src : Source) : (s.raiseFlag c src).ring = s.ring := by
  unfold State.raiseFlag; dsimp only; split <;> simp
@[simp] theorem State.raiseFlag_gapTimer (s : State) (c : Nat) (src : Source) : (s.raiseFlag c src).gapTimer = s.gapTimer := by
  unfold State.raiseFlag; dsimp only; split <;> simp
@[simp] theorem State.raiseFlag_badRun (s : State) (c : Nat) (src : Source) : (s.raiseFlag c src).badRun = s.badRun := by
  unfold State.raiseFlag; dsimp only; split <;> simp
@[simp] theorem State.raiseFlag_degraded (s : State) (c : Nat) (src : Source) : (s.raiseFlag c src).degraded = s.degraded := by
  unfold State.raiseFlag; dsimp only; split <;> simp
@[simp] theorem State.raiseFlag_holder (s : State) (c : Nat) (src : Source) : (s.raiseFlag c src).holder = s.holder := by
  unfold State.raiseFlag; dsimp only; split <;> simp
@[simp] theorem State.raiseFlag_loader (s : State) (c : Nat) (src : Source) : (s.raiseFlag c src).loader = s.loader := by
  unfold State.raiseFlag; dsimp only; split <;> simp
@[simp] theorem State.raiseFlag_inUse (s : State) (c : Nat) (src : Source) : (s.raiseFlag c src).inUse = s.inUse := by
  unfold State.raiseFlag; dsimp only; split <;> simp
@[simp] theorem State.raiseFlag_points (s : State) (c : Nat) (src : Source) : (s.raiseFlag c src).points = s.points := by
  unfold State.raiseFlag; dsimp only; split <;> simp
@[simp] theorem State.raiseFlag_nodes (s : State) (c : Nat) (src : Source) : (s.raiseFlag c src).nodes = s.nodes := by
  unfold State.raiseFlag; dsimp only; split <;> simp
@[simp] theorem State.raiseFlag_records (s : State) (c : Nat) (src : Source) : (s.raiseFlag c src).records = s.records := by
  unfold State.raiseFlag; dsimp only; split <;> simp
@[simp] theorem State.raiseFlag_useCounts (s : State) (c : Nat) (src : Source) : (s.raiseFlag c src).useCounts = s.useCounts := by
  unfold State.raiseFlag; dsimp only; split <;> simp
@[simp] theorem State.raiseFlag_lines (s : State) (c : Nat) (src : Source) : (s.raiseFlag c src).lines = s.lines := by
  unfold State.raiseFlag; dsimp only; split <;> simp
@[simp] theorem State.raiseFlag_groups (s : State) (c : Nat) (src : Source) : (s.raiseFlag c src).groups = s.groups := by
  unfold State.raiseFlag; dsimp only; split <;> simp
@[simp] theorem State.raiseFlag_waits (s : State) (c : Nat) (src : Source) : (s.raiseFlag c src).waits = s.waits := by
  unfold State.raiseFlag; dsimp only; split <;> simp
@[simp] theorem State.raiseFlag_scanning (s : State) (c : Nat) (src : Source) : (s.raiseFlag c src).scanning = s.scanning := by
  unfold State.raiseFlag; dsimp only; split <;> simp
@[simp] theorem State.raiseFlag_scanAgain (s : State) (c : Nat) (src : Source) : (s.raiseFlag c src).scanAgain = s.scanAgain := by
  unfold State.raiseFlag; dsimp only; split <;> simp
@[simp] theorem State.raiseFlag_gates (s : State) (c : Nat) (src : Source) : (s.raiseFlag c src).gates = s.gates := by
  unfold State.raiseFlag; dsimp only; split <;> simp
@[simp] theorem State.raiseFlag_counters (s : State) (c : Nat) (src : Source) : (s.raiseFlag c src).counters = s.counters := by
  unfold State.raiseFlag; dsimp only; split <;> simp

/-! ### `State.forward` -/

@[simp] theorem State.forward_pending (s : State) (p : Port) (f : Frame) : (s.forward p f).pending = s.pending := by
  cases p <;> rfl
@[simp] theorem State.forward_agenda (s : State) (p : Port) (f : Frame) : (s.forward p f).agenda = s.agenda := by
  cases p <;> rfl
@[simp] theorem State.forward_free (s : State) (p : Port) (f : Frame) : (s.forward p f).free = s.free := by
  cases p <;> rfl
@[simp] theorem State.forward_now (s : State) (p : Port) (f : Frame) : (s.forward p f).now = s.now := by
  cases p <;> rfl
@[simp] theorem State.forward_straps (s : State) (p : Port) (f : Frame) : (s.forward p f).straps = s.straps := by
  cases p <;> rfl
@[simp] theorem State.forward_ring (s : State) (p : Port) (f : Frame) : (s.forward p f).ring = s.ring := by
  cases p <;> rfl
@[simp] theorem State.forward_gapTimer (s : State) (p : Port) (f : Frame) : (s.forward p f).gapTimer = s.gapTimer := by
  cases p <;> rfl
@[simp] theorem State.forward_badRun (s : State) (p : Port) (f : Frame) : (s.forward p f).badRun = s.badRun := by
  cases p <;> rfl
@[simp] theorem State.forward_degraded (s : State) (p : Port) (f : Frame) : (s.forward p f).degraded = s.degraded := by
  cases p <;> rfl
@[simp] theorem State.forward_holder (s : State) (p : Port) (f : Frame) : (s.forward p f).holder = s.holder := by
  cases p <;> rfl
@[simp] theorem State.forward_loader (s : State) (p : Port) (f : Frame) : (s.forward p f).loader = s.loader := by
  cases p <;> rfl
@[simp] theorem State.forward_inUse (s : State) (p : Port) (f : Frame) : (s.forward p f).inUse = s.inUse := by
  cases p <;> rfl
@[simp] theorem State.forward_points (s : State) (p : Port) (f : Frame) : (s.forward p f).points = s.points := by
  cases p <;> rfl
@[simp] theorem State.forward_nodes (s : State) (p : Port) (f : Frame) : (s.forward p f).nodes = s.nodes := by
  cases p <;> rfl
@[simp] theorem State.forward_records (s : State) (p : Port) (f : Frame) : (s.forward p f).records = s.records := by
  cases p <;> rfl
@[simp] theorem State.forward_useCounts (s : State) (p : Port) (f : Frame) : (s.forward p f).useCounts = s.useCounts := by
  cases p <;> rfl
@[simp] theorem State.forward_ctxs (s : State) (p : Port) (f : Frame) : (s.forward p f).ctxs = s.ctxs := by
  cases p <;> rfl
@[simp] theorem State.forward_lines (s : State) (p : Port) (f : Frame) : (s.forward p f).lines = s.lines := by
  cases p <;> rfl
@[simp] theorem State.forward_groups (s : State) (p : Port) (f : Frame) : (s.forward p f).groups = s.groups := by
  cases p <;> rfl
@[simp] theorem State.forward_waits (s : State) (p : Port) (f : Frame) : (s.forward p f).waits = s.waits := by
  cases p <;> rfl
@[simp] theorem State.forward_scanning (s : State) (p : Port) (f : Frame) : (s.forward p f).scanning = s.scanning := by
  cases p <;> rfl
@[simp] theorem State.forward_scanAgain (s : State) (p : Port) (f : Frame) : (s.forward p f).scanAgain = s.scanAgain := by
  cases p <;> rfl
@[simp] theorem State.forward_gates (s : State) (p : Port) (f : Frame) : (s.forward p f).gates = s.gates := by
  cases p <;> rfl
@[simp] theorem State.forward_reports (s : State) (p : Port) (f : Frame) : (s.forward p f).reports = s.reports := by
  cases p <;> rfl
@[simp] theorem State.forward_lost (s : State) (p : Port) (f : Frame) : (s.forward p f).lost = s.lost := by
  cases p <;> rfl
@[simp] theorem State.forward_counters (s : State) (p : Port) (f : Frame) : (s.forward p f).counters = s.counters := by
  cases p <;> rfl

/-! ### What they do -/

/-- A report is appended while there is room, and otherwise lost and counted (R196, R197). -/
theorem State.report_cases (s : State) (c st : Option Nat) (tag : Option (BitVec 32)) (b : ReportBody) :
    (s.reports.length < Config.reports ∧
        (s.report c st tag b).reports = s.reports ++ [{ ctx := c, step := st, time := s.now, tag := tag, body := b }] ∧
        (s.report c st tag b).lost = s.lost) ∨
      (Config.reports ≤ s.reports.length ∧ (s.report c st tag b).reports = s.reports ∧
        (s.report c st tag b).lost = min (s.lost + 1) 65535) := by
  unfold State.report
  split
  · exact .inl ⟨‹_›, rfl, rfl⟩
  · exact .inr ⟨by omega, rfl, rfl⟩

/-- A counter's value stays within its bound (R199). -/
theorem Counter.count_value_le (k : Counter) (h : k.value ≤ 2147483647) : k.count.value ≤ 2147483647 := by
  unfold Counter.count; split <;> simp <;> omega

/-- The retarget keeps the number of points. -/
@[simp] theorem State.length_retarget (s : State) (p t d : Nat) : (s.retarget p t d).points.length = s.points.length := by
  unfold State.retarget; split <;> simp

/-- The request that an attempt takes is a candidate (R160). -/
theorem State.candidate_of_toTake (s : State) (c : Nat) (src : Source) (h : s.toTake c = some src) :
    s.candidate c src = true := by
  unfold State.toTake at h
  simp only [Option.orElse_eq_or, Option.or_eq_some_iff] at h
  rcases h with h | ⟨-, h | ⟨-, h⟩⟩ <;>
    · have := List.find?_some h
      simp only [Bool.and_eq_true] at this
      exact this.2

/-- Counting a path raises by 1 the use count of each record that it holds, and no other (R70). -/
theorem getElem?_addPath (counts path : List Nat) (i : Nat) :
    (addPath counts path)[i]? = counts[i]?.map fun n => if path.contains i then n + 1 else n := by
  simp [addPath, getElem?_mapFrom]

/-- Releasing a path lowers by 1 the use count of each record that it holds, and no other (R71). -/
theorem getElem?_releasePath (counts path : List Nat) (i : Nat) :
    (releasePath counts path)[i]? = counts[i]?.map fun n => if path.contains i then n - 1 else n := by
  simp [releasePath, getElem?_mapFrom]

/-- The entry that a scan tests next stands behind every entry that it has left waiting, and right behind the last of them (R135). -/
theorem State.scanNext_eq_some (s : State) (left : List Nat) (front behind : List WaitEntry) (e : WaitEntry)
    (hw : s.waits = front ++ e :: behind) (hb : ∀ y ∈ e :: behind, y.ctx ∉ left)
    (hf : ∀ y, front.getLast? = some y → y.ctx ∈ left) : s.scanNext left = some e := by
  have hp : ∀ y ∈ (e :: behind).reverse, (!left.contains y.ctx) = true := by
    intro y hy; simpa using hb y (List.mem_reverse.1 hy)
  have ht : front.reverse.takeWhile (fun y => !left.contains y.ctx) = [] := by
    rw [List.getLast?_eq_head?_reverse] at hf
    cases h : front.reverse with
    | nil => rfl
    | cons y ys => simpa using hf y (by simp [h])
  rw [State.scanNext, hw, List.reverse_append, List.takeWhile_append_of_pos hp, ht]
  simp

/-- No entry is left to test exactly where the list is empty or its last entry has been left waiting (R135). -/
theorem State.scanNext_eq_none (s : State) (left : List Nat) :
    s.scanNext left = none ↔ ∀ y, s.waits.getLast? = some y → y.ctx ∈ left := by
  rw [State.scanNext, List.getLast?_eq_none_iff, List.getLast?_eq_head?_reverse]
  cases s.waits.reverse with
  | nil => simp
  | cons y ys => simp [List.takeWhile_cons]

/-- A step taken up in RUNNING or DIVERTED becomes the current step and does its kind's work (R94). -/
theorem State.takeUp_of_active (s : State) (c h credit : Nat) (st : Step) (hs : stepAt s.records h = some st)
    (ha : (s.ctx c).active = true) :
    s.takeUp c h credit = (s.setCtx c { s.ctx c with cur := some h, step := none }).takeUpStep c h credit st := by
  simp [State.takeUp, hs, ha]

/-- What `pickFrom` holds: what f keeps of an entry at its index. -/
theorem mem_pickFrom {α β : Type} (f : Nat → α → Option β) (n : Nat) (l : List α) (b : β) :
    b ∈ pickFrom f n l ↔ ∃ k a, l[k]? = some a ∧ f (n + k) a = some b := by
  induction l generalizing n with
  | nil => simp [pickFrom]
  | cons a l ih =>
    simp only [pickFrom, List.mem_append, ih, Option.mem_toList]
    constructor
    · rintro (h | ⟨k, x, h1, h2⟩)
      · exact ⟨0, a, rfl, h⟩
      · exact ⟨k + 1, x, h1, by rw [← h2]; congr 1; omega⟩
    · rintro ⟨k, x, h1, h2⟩
      cases k with
      | zero => simp at h1; subst h1; exact .inl h2
      | succ k => exact .inr ⟨k, x, h1, by rw [← h2]; congr 1; omega⟩

/-- SET items move points and nothing else (R96 stage 2). -/
theorem State.applyItems_only (s : State) (is : List SetItem) :
    s.applyItems is = { s with points := (s.applyItems is).points } := by
  induction is generalizing s with
  | nil => rfl
  | cons i is ih =>
    simp only [State.applyItems]
    rw [ih]
    unfold State.retarget; split <;> rfl

/-- The start of a step changes its context and points, and nothing else (R96). -/
theorem State.startStep_only (s : State) (c : Nat) (st : StepState) :
    s.startStep c st = { s with points := (s.startStep c st).points, ctxs := (s.startStep c st).ctxs } := by
  unfold State.startStep; split
  · rfl
  · simp only; rw [State.applyItems_only]; split <;> rfl

/-- The start of a step clears its context's marker and makes the step one that is admitted (R96). -/
theorem State.startStep_ctxs (s : State) (c : Nat) (st : StepState) :
    (s.startStep c st).ctxs = s.ctxs.set c { s.ctx c with marker := false, step := some (st.admitted s.now) } := by
  unfold State.startStep; split
  · rfl
  · simp only; rw [State.applyItems_only]; split <;> rfl

/-- Bit j of the HIGH bits of sources from number k on is set exactly where the level of source j is HIGH (R158). -/
theorem getLsbD_highBits (ls : List Level) (k j : Nat) (hj : j < 16) :
    (highBits ls k).getLsbD j = true ↔ k ≤ j ∧ ls[j - k]? = some .high := by
  induction ls generalizing k with
  | nil => simp [highBits]
  | cons l ls ih =>
    have hb : (((1 <<< k : Nat) : BitVec 16)).getLsbD j = decide (j = k) := by
      show (BitVec.ofNat 16 (1 <<< k)).getLsbD j = _
      rw [BitVec.getLsbD_ofNat, Nat.testBit_shiftLeft]
      by_cases h1 : k ≤ j
      · by_cases h2 : j = k
        · subst h2; simp [hj]
        · obtain ⟨n, hn⟩ : ∃ n, j - k = n + 1 := ⟨j - k - 1, by omega⟩
          rw [hn, Nat.testBit_succ]; simp [h2]
      · have : j ≠ k := by omega
        simp [h1, this]
    simp only [highBits, BitVec.getLsbD_or, Bool.or_eq_true, ih]
    constructor
    · rintro (h | ⟨h1, h2⟩)
      · split at h
        · rename_i hl
          rw [hb] at h
          have hjk : j = k := by simpa using h
          have hl' : l = .high := by simpa using hl
          subst hjk; subst hl'; simp
        · simp at h
      · refine ⟨by omega, ?_⟩
        rw [show j - k = (j - (k + 1)) + 1 by omega]; simpa using h2
    · rintro ⟨h1, h2⟩
      by_cases e : j = k
      · subst e; simp at h2; subst h2; left; rw [if_pos (by simp), hb]; simp
      · right; refine ⟨by omega, ?_⟩
        rw [show j - k = (j - (k + 1)) + 1 by omega] at h2; simpa using h2

end Sys2Proof.Machine
end

