-- ==== Sys2Proof/Laws/Units.lean ====
section
/-!
SUPPORT. Sys2Proof/Laws/Units.lean: no piece of an event's work touches a context's configuration, or the masks and levels of its
request unit: only requests and resets write them (R75, R158, R176). One lemma for each operation, and from them one for the cascade.
-/
namespace Sys2Proof.Machine

/-- What only requests and resets write of a context. -/
def Ctx.unit (x : Ctx) : CtxCfg × BitVec 16 × BitVec 16 := (x.cfg, x.masks, x.highs)

/-- It is the same in two contexts. -/
@[simp] theorem Ctx.unit_eq (x y : Ctx) : x.unit = y.unit ↔ x.cfg = y.cfg ∧ x.masks = y.masks ∧ x.highs = y.highs := by
  simp [Ctx.unit]

/-- That of every context. -/
def State.units (s : State) : List (CtxCfg × BitVec 16 × BitVec 16) := s.ctxs.map Ctx.unit

section
variable (s : State)

@[simp] theorem State.units_setPoint (p : Nat) (x : Point) : (s.setPoint p x).units = s.units := rfl
@[simp] theorem State.units_setNode (n : Nat) (x : Option Node) : (s.setNode n x).units = s.units := rfl
/-- A context is written with its configuration, masks and levels as they stand. -/
@[simp] theorem State.units_setCtx (c : Nat) (x : Ctx) (h : x.unit = (s.ctx c).unit) : (s.setCtx c x).units = s.units := by
  simp only [State.units, State.setCtx, List.map_set, h]
  apply List.ext_getElem? fun k => ?_
  by_cases hk : c = k
  · subst hk
    by_cases hl : c < s.ctxs.length
    · simp [hl, State.ctx, List.getD_eq_getElem?_getD]
    · simp [hl]
  · simp [List.getElem?_set_ne hk]
@[simp] theorem State.units_setGate (g : Nat) (x : Option Gate) : (s.setGate g x).units = s.units := rfl
@[simp] theorem State.units_push (ts : List Task) : (s.push ts).units = s.units := rfl
@[simp] theorem State.units_count (n : Nat) : (s.count n).units = s.units := rfl
@[simp] theorem State.units_sendU (f : Frame) : (s.sendU f).units = s.units := rfl
@[simp] theorem State.units_removeEntry (c : Nat) : (s.removeEntry c).units = s.units := rfl
@[simp] theorem State.units_zeroHot (c : Nat) : (s.zeroHot c).units = s.units := rfl
@[simp] theorem State.units_zeroOthers (c : Nat) (is : List SetItem) : (s.zeroOthers c is).units = s.units := rfl
@[simp] theorem State.units_releaseForces (c : Nat) : (s.releaseForces c).units = s.units := rfl
@[simp] theorem State.units_staleNode (n : Nat) : (s.staleNode n).units = s.units := rfl
@[simp] theorem State.units_release (c : Nat) : (s.release c).units = s.units := rfl
@[simp] theorem State.units_modStep (c : Nat) (f : StepState → StepState) : (s.modStep c f).units = s.units := by simp [State.modStep]
@[simp] theorem State.units_setReservations (c : Nat) (f : Nat → Nat → Nat) : (s.setReservations c f).units = s.units := rfl
@[simp] theorem State.units_claimGroups (c : Nat) (g : Option Nat) : (s.claimGroups c g).units = s.units := rfl
@[simp] theorem State.units_lowerReservations (c : Nat) (st : StepState) : (s.lowerReservations c st).units = s.units := rfl
@[simp] theorem State.units_raisePlant (c : Nat) (st : StepState) : (s.raisePlant c st).units = s.units := rfl
@[simp] theorem State.units_reformNeeds (c : Nat) : (s.reformNeeds c).units = s.units := by simp [State.reformNeeds]
@[simp] theorem State.units_ringUp : s.ringUp.units = s.units := rfl
@[simp] theorem State.units_agenda (ts : List Task) : { s with agenda := ts }.units = s.units := rfl
@[simp] theorem State.units_waits (ws : List WaitEntry) : { s with waits := ws }.units = s.units := rfl
@[simp] theorem State.units_useCounts (us : List Nat) : { s with useCounts := us }.units = s.units := rfl
@[simp] theorem State.units_enterGap : s.enterGap.units = s.units := rfl

@[simp] theorem State.units_triggerIf (b : Bool) : (s.triggerIf b).units = s.units := by
  unfold State.triggerIf; split <;> rfl

@[simp] theorem State.units_report (c st : Option Nat) (tag : Option (BitVec 32)) (b : ReportBody) :
    (s.report c st tag b).units = s.units := by
  unfold State.report; split <;> rfl

@[simp] theorem State.units_retarget (p t d : Nat) : (s.retarget p t d).units = s.units := by
  unfold State.retarget; split <;> rfl

@[simp] theorem State.units_applyItems (is : List SetItem) : (s.applyItems is).units = s.units := by
  induction is generalizing s with
  | nil => rfl
  | cons i is ih => simp [State.applyItems, ih]

@[simp] theorem State.units_applyRest (c h : Nat) : (s.applyRest c h).units = s.units := by simp [State.applyRest]

@[simp] theorem State.units_startStep (c : Nat) (st : StepState) : (s.startStep c st).units = s.units := by
  unfold State.startStep; dsimp only; split <;> (try split) <;> simp

@[simp] theorem State.units_admitStep (c : Nat) (st : StepState) (e : Bool) : (s.admitStep c st e).units = s.units := by
  unfold State.admitStep; simp only [State.units_push]; split <;> split <;> simp

@[simp] theorem State.units_present (c : Nat) (st : StepState) : (s.present c st).units = s.units := by
  unfold State.present; dsimp only; split <;> (try split) <;> simp

@[simp] theorem State.units_trigger : s.trigger.units = s.units := by unfold State.trigger; split <;> rfl

@[simp] theorem State.units_scanOn (left : List Nat) : (s.scanOn left).units = s.units := by
  unfold State.scanOn; split
  · split <;> rfl
  · split
    · rfl
    · split <;> simp

@[simp] theorem State.units_endJob (c : Nat) (j : Job) (o : JobOutcome) (st : Option Nat) (r : Nat) :
    (s.endJob c j o st r).units = s.units := by
  unfold State.endJob; dsimp only; split <;> exact s.units_report ..

@[simp] theorem State.units_endRunning (c : Nat) (o : JobOutcome) : (s.endRunning c o).units = s.units := by
  unfold State.endRunning; dsimp only; split <;> simp

@[simp] theorem State.units_startJob (c : Nat) : (s.startJob c).units = s.units := by
  unfold State.startJob; dsimp only; split <;> simp

@[simp] theorem State.units_rest (c h : Nat) (st : CtxState) : (s.rest c h st).units = s.units := by simp [State.rest]

@[simp] theorem State.units_idleRest (c : Nat) : (s.idleRest c).units = s.units := by simp [State.idleRest]

@[simp] theorem State.units_idleEntry (c : Nat) : (s.idleEntry c).units = s.units := by simp [State.idleEntry]

@[simp] theorem State.units_restStart (c : Nat) : (s.restStart c).units = s.units := by
  unfold State.restStart; dsimp only; split <;> (try split) <;> simp

@[simp] theorem State.units_parkAt (c : Nat) (l : ParkLevel) : (s.parkAt c l).units = s.units := by simp [State.parkAt]

@[simp] theorem State.units_wakeEnd (c : Nat) : (s.wakeEnd c).units = s.units := by simp [State.wakeEnd]

@[simp] theorem State.units_wakeFrom (c : Nat) (l : ParkLevel) : (s.wakeFrom c l).units = s.units := by
  unfold State.wakeFrom; dsimp only; split <;> simp

@[simp] theorem State.units_reportStep (c : Nat) (st : StepState) (r : EndReason) : (s.reportStep c st r).units = s.units := by
  unfold State.reportStep; dsimp only; split <;> simp

@[simp] theorem State.units_endStep (c : Nat) (r : EndReason) : (s.endStep c r).units = s.units := by
  unfold State.endStep; split <;> simp

@[simp] theorem State.units_returnStep (c : Nat) : (s.returnStep c).units = s.units := by
  unfold State.returnStep; dsimp only; split <;> simp

@[simp] theorem State.units_haltStep (c : Nat) : (s.haltStep c).units = s.units := by simp [State.haltStep]

@[simp] theorem State.units_abandonStep (c : Nat) : (s.abandonStep c).units = s.units := by simp [State.abandonStep]

@[simp] theorem State.units_jobEndStep (c : Nat) : (s.jobEndStep c).units = s.units := by
  unfold State.jobEndStep; split <;> simp

@[simp] theorem State.units_loopEnd (c : Nat) (st : Step) : (s.loopEnd c st).units = s.units := by
  unfold State.loopEnd; dsimp only; split <;> (try split) <;> simp

@[simp] theorem State.units_loopBegin (c h : Nat) (st : Step) : (s.loopBegin c h st).units = s.units := by
  simp [State.loopBegin]

@[simp] theorem State.units_takeUpStep (c h k : Nat) (st : Step) : (s.takeUpStep c h k st).units = s.units := by
  unfold State.takeUpStep; split <;> simp

@[simp] theorem State.units_takeUp (c h k : Nat) : (s.takeUp c h k).units = s.units := by
  unfold State.takeUp; split
  · rfl
  · split <;> simp

@[simp] theorem State.units_evaluateEnd (c : Nat) (st : StepState) (new : List Cond) :
    (s.evaluateEnd c st new).units = s.units := by
  unfold State.evaluateEnd; dsimp only; split <;> simp

@[simp] theorem State.units_admitEnd (c : Nat) : (s.admitEnd c).units = s.units := by
  unfold State.admitEnd; split
  · rfl
  · split <;> (try split) <;> (try split) <;> simp

@[simp] theorem State.units_notifyCtx (c i l : Nat) : (s.notifyCtx c i l).units = s.units := by
  unfold State.notifyCtx; dsimp only; split
  · rfl
  · split
    · rfl
    · split <;> simp

@[simp] theorem State.units_raiseFlag (c : Nat) (src : Source) : (s.raiseFlag c src).units = s.units := by
  unfold State.raiseFlag; dsimp only; split <;> simp

@[simp] theorem State.units_raise (c : Nat) (src : Source) : (s.raise c src).units = s.units := by simp [State.raise]

@[simp] theorem State.units_abandonStanding (c : Nat) : (s.abandonStanding c).units = s.units := by
  unfold State.abandonStanding; split <;> simp

@[simp] theorem State.units_emergencyZero (c : Nat) (l : Level) : (s.emergencyZero c l).units = s.units := by
  unfold State.emergencyZero; split <;> simp

@[simp] theorem State.units_take (c : Nat) (src : Source) : (s.take c src).units = s.units := by simp [State.take]

@[simp] theorem State.units_attempt (c : Nat) : (s.attempt c).units = s.units := by unfold State.attempt; split <;> simp

@[simp] theorem State.units_changeGate (g : Nat) (x y : Gate) (cause : GateCause) (r : Option Reading) :
    (s.changeGate g x y cause r).units = s.units := by simp [State.changeGate]

@[simp] theorem State.units_enterFault (g : Nat) (x : Gate) (cause : GateCause) (r : Option Reading) :
    (s.enterFault g x cause r).units = s.units := by
  unfold State.enterFault; dsimp only; simp only [State.units_changeGate]; split <;> split <;> simp

@[simp] theorem State.units_openGate (g : Nat) (x : Gate) (cause : GateCause) : (s.openGate g x cause).units = s.units := by
  simp [State.openGate]

@[simp] theorem State.units_closeGate (g : Nat) (x : Gate) (cause : GateCause) : (s.closeGate g x cause).units = s.units := by
  unfold State.closeGate; split <;> simp

@[simp] theorem State.units_gateStart (c g : Nat) (o : Bool) : (s.gateStart c g o).units = s.units := by
  unfold State.gateStart; split <;> (try split) <;> (try split) <;> simp

@[simp] theorem State.units_tellSequencer (g : Nat) : (s.tellSequencer g).units = s.units := by
  unfold State.tellSequencer; split
  · rfl
  · split
    · rfl
    · dsimp only; split <;> split <;> simp

@[simp] theorem State.units_tellUnit (g : Nat) (h : Bool) : (s.tellUnit g h).units = s.units := by
  unfold State.tellUnit; split
  · rfl
  · dsimp only; split <;> (try split) <;> simp

@[simp] theorem State.units_nodeReport (n : Nat) (x : Node) (e : NodeEvent) (t : Byte) :
    (s.nodeReport n x e t).units = s.units := by simp [State.nodeReport]

@[simp] theorem State.units_seeNode (n : Nat) (x : Node) (t : Byte) : (s.seeNode n x t).units = s.units := by
  unfold State.seeNode; dsimp only; split <;> simp

@[simp] theorem State.units_missNode (n : Nat) (x : Node) (t : Byte) (k : Bool) : (s.missNode n x t k).units = s.units := by
  unfold State.missNode; dsimp only; split <;> split <;> (try split) <;> simp

@[simp] theorem State.units_evaluateNode (n : Nat) (t : Byte) : (s.evaluateNode n t).units = s.units := by
  unfold State.evaluateNode; split <;> (try split) <;> simp

@[simp] theorem State.units_collectPoint (p x : Nat) : (s.collectPoint p x).units = s.units := by
  unfold State.collectPoint; split
  · split
    · dsimp only; split <;> (try split) <;> simp
    · simp
  · rfl

@[simp] theorem State.units_readGate (g i l : Nat) : (s.readGate g i l).units = s.units := by
  unfold State.readGate; split
  · rfl
  · split
    · rfl
    · split <;> simp

@[simp] theorem State.units_compareGate (g i l : Nat) : (s.compareGate g i l).units = s.units := by
  unfold State.compareGate; split
  · rfl
  · dsimp only; split
    · split <;> simp
    · rfl

@[simp] theorem State.units_motionExpiry (g : Nat) : (s.motionExpiry g).units = s.units := by
  unfold State.motionExpiry; split <;> (try split) <;> simp

@[simp] theorem State.units_notifyArbiter (i l : Nat) : (s.notifyArbiter i l).units = s.units := by
  simp [State.notifyArbiter]

@[simp] theorem State.units_finishReturn (i : Nat) (f : Frame) : (s.finishReturn i f).units = s.units := by
  unfold State.finishReturn; dsimp only; split <;> simp

/-- No piece of work touches a configuration, a mask or a level. -/
@[simp] theorem doTask_units (t : Task) : (doTask t s).units = s.units := by cases t <;> simp [doTask]

/-- The cascade touches no configuration, mask or level. -/
theorem settleFor_units (n : Nat) : (settleFor n s).units = s.units :=
  settleFor_induction (fun t => t.units = s.units) (fun t u h => by simpa using h) (fun u ts h => by simpa using h) n s rfl

/-- A context's configuration, masks and levels after the cascade. -/
theorem settleFor_unit (n c : Nat) : ((settleFor n s).ctx c).unit = (s.ctx c).unit := by
  have h := congrArg (fun l => l[c]?.getD Ctx.reset.unit) (settleFor_units s n)
  have e : ∀ t : State, (t.units[c]?).getD Ctx.reset.unit = (t.ctx c).unit := by
    intro t
    simp only [State.units, State.ctx, List.getElem?_map, List.getD_eq_getElem?_getD]
    cases t.ctxs[c]? <;> rfl
  simpa only [e] using h

end

end Sys2Proof.Machine
end

