-- ==== Sys2Proof/Tests/Part.lean ====
section
/-!
SUPPORT. Sys2Proof/Tests/Part.lean: frames and a small part for the model's own tests: two contexts, one gate between them, seven points,
one node, one supply line and seven records.
-/
namespace Sys2Proof.Tests
open Sys2Proof Sys2Proof.Machine

/-! ### Frames for tests -/

/-- A vendor frame with a good check. -/
def vendor (cls image target : Nat) (payload : List Byte) : Frame :=
  reform { addresses := zeros 12, etherType := 0x9B2C, check := 0,
           data := leBytes cls 1 ++ leBytes image 1 ++ leBytes target 1 ++ leBytes payload.length 2 ++ payload }

/-- A mailbox frame with a request of a code, tag 7, and a body of n bytes. -/
def ask (code n : Nat) : Mailbox :=
  { frame := vendor 2 0 1 (leBytes code 1 ++ zeros 1 ++ leBytes 7 2 ++ leBytes n 2 ++ zeros 2 ++ zeros n), complete := true }

/-- A request whose responses carry at most 8 bytes. -/
def small (code : Nat) : Mailbox := ask code 8

/-- A damaged frame. -/
def damaged : Frame := { (small 1).frame with check := 0 }

/-- A frame of class OTHER. -/
def other : Frame := vendor 9 0 0 []

/-! ### A part for tests -/

/-- A FLOW SET point of context 0 on line 0, as the manual's worked stamp has it: eng_full 2000, raw_full 16,000, g 350. -/
def flowCfg : PointCfg :=
  { image := 1, offset := 0, encoding := .u16, bit := 0, quantity := .flow, owner := .ctx 0, node := 0, engFull := 2000,
    rawFull := 16000, g := 350, line := some 0, shift := 0, edge := .none, source := .none }

/-- A SAMPLE point of image 2. -/
def sampleCfg (owner : Owner) (q : Quantity) (offset : Nat) : PointCfg :=
  { flowCfg with image := 2, offset := offset, quantity := q, owner := owner, engFull := 65535, rawFull := 65535, g := 1000,
                 line := none }

/-- A DIGITAL point of context 0. -/
def digitalCfg (image offset bit : Nat) : PointCfg :=
  { sampleCfg (.ctx 0) .digital offset with image := image, encoding := .bit, bit := bit, engFull := 1, rawFull := 1 }

/-- A sample at a value, fresh. -/
def seen (v : Nat) : Sample :=
  { x := v, eng := v, f := v, stale := false, overRange := false, lastFresh := 0, baseline := none }

/-- The points: 0 flow, 1 pressure of context 0, 2 the gate's output, 3 and 4 its switches, 5 pressure of context 1, 6 power. -/
def points : List Point :=
  [ .set flowCfg (SetRec.fresh 0), .sample (sampleCfg (.ctx 0) .pressure 0) (seen 300), .set (digitalCfg 1 10 0) (SetRec.fresh 0),
    .sample (digitalCfg 2 4 0) (seen 1), .sample (digitalCfg 2 4 1) (seen 0),
    .sample (sampleCfg (.ctx 1) .pressure 2) (seen 350),
    .set { flowCfg with quantity := .power, offset := 2, line := none } (SetRec.fresh 0) ]

/-- Node 0, in image 2. -/
def node : Node :=
  { cfg := { ring := 1, image := 2, touch := 6, owner := .shared, required := true, staleAfter := 3 }, age := 0, state := .fresh,
    conflict := false, lastSeen := some 0 }

/-- Gate 0 between contexts 0 and 1. -/
def gateCfg : GateFields :=
  { owner := 0, partner := 1, openOut := 2, openSw := 4, closedSw := 3, openDelta := 50, tripDelta := 200, motionTimeout := 3000 }

/-- Gate 0 in a state, with its motion timer where it moves. -/
def gateIn (state : GateState) : Gate :=
  { cfg := gateCfg, state := state, last := none, tripRaised := false,
    timer := if state = .opening ∨ state = .closing then some { start := 0, dur := 3000000 } else none }

/-- A plain HEAD of a kind. -/
def headOf (k : StepKind) : Head :=
  { kind := k, report := false, zeroOthers := false, creditTime := false, next := .sequential, admitTimeout := 0, maxTime := 0,
    endAll := false, group := none, gate := none, loopCount := 1, strikeWindow := 0, rorSettle := 0, rorMeasure := 0, rorLimit := 0 }

/-- A HEAD record with up to six items. -/
def rec (h : Head) (is : List Item) : Record := .head h (is ++ List.replicate (6 - is.length) .empty) false

/-- The records from index 0: an idle step, RETURN, HALT, a timed step, and a loop. -/
def records : List Record :=
  [ rec (headOf .process) [], rec (headOf .ret) [], rec (headOf .halt) [],
    rec (headOf .process) [.set { point := 0, target := 1000, ramp := 100 }, .cond (.time 2000)], rec (headOf .jobEnd) [],
    rec { headOf .loopBegin with loopCount := 2 } [], rec (headOf .loopEnd) [] ]

/-- The configuration of the test contexts. -/
def ctxCfg : CtxCfg :=
  { CtxCfg.default with pressure := some 1, idleStep := 0, parkLight := 0, parkDeep := 0, handlerLow := 1, handlerHigh := 1,
                        handlerEmergency := 2, wakeLight := 0, wakeDeep := 7, autoPark := 3600 }

/-- An enabled context in a state of rest. -/
def rested (state : CtxState) : Ctx :=
  { Ctx.reset with cfg := ctxCfg, state := state, cur := some 0, lastRest := some 0, paths := [[0], [0], [0], [1], [1], [2]] }

/-- Context 1, whose pressure point is point 5. -/
def partner : Ctx := { rested .idle with cfg := { ctxCfg with pressure := some 5 } }

/-- The part with context 0 and gate 0 as given. -/
def part (x : Ctx) (g : Option Gate) : State :=
  { State.resetWith 1 with
    loader := { Loader.reset with state := .ready },
    points := points ++ List.replicate 505 .empty, nodes := some node :: List.replicate 63 none,
    records := records ++ List.replicate 2041 .empty,
    ctxs := [x, partner] ++ List.replicate 4 Ctx.reset,
    lines := { budget := true, capacity := 2500, reservations := List.replicate 6 0 } :: List.replicate 11 Supply.reset,
    gates := g :: List.replicate 7 none }

/-- A job. -/
def job (tag : BitVec 32) : Job := { tag := tag, start := 3, priority := .normal, reportAll := false, path := [3, 4] }

/-- The step of a record, in ADMIT, for context 0 of the part. -/
def standing (h : Head) (is : List Item) : StepState :=
  (part (rested .running) none).admitState 0 { head := h, items := is, after := 4 } 0

/-- Context 0 running at a step. -/
def runningAt (st : StepState) : Ctx :=
  { rested .running with cur := some 3, step := some st, job := some { job := job 5, startTime := 0, runTime := 0 } }

/-- A part at rest. -/
def idle : State := part (rested .idle) none

end Sys2Proof.Tests
end

