-- ==== Sys2Proof/WellFormed.lean ====
section
/-!
DEFINITION. Sys2Proof/WellFormed.lean: what every command of the part satisfies as syntax: an interval that the part time can tell, an
Ethernet frame's lengths, records and pages of their sizes, and the numbers of contexts, points, conditions and gates that timers
belong to. The meaning of a command does not depend on these checks; a request's own checks are its rule's.
-/
namespace Sys2Proof

/-- The interval since the command before is shorter than the part time's span (R1). -/
def intervalOk (dt : Nat) : Bool := decide (dt < 4294967296)

/-- The frame has two 6-byte addresses and an Ethernet payload of at most 1500 bytes (R192, Table 10-2 note a). -/
def frameOk (f : Frame) : Bool := f.addresses.length == 12 && decide (f.data.length ≤ 1500)

/-- The page has 32 bytes (Table 10-14). -/
def pageOk (page : Option (List Byte)) : Bool :=
  match page with
  | some bs => bs.length == 32
  | none => true

/-- Each record has 208 bytes (R194). -/
def recordsOk (records : List (List Byte)) : Bool := records.all fun bs => bs.length == 208

/-- A level for each of sources 4 to 15 (Table 5-1). -/
def ctxFieldsOk (f : CtxFields) : Bool := f.levels.length == 12

/-- A level for each of the sixteen sources (R158). -/
def levelsOk (levels : List Level) : Bool := levels.length == 16

/-- The number names a context. -/
def ctxOk (c : Nat) : Bool := decide (c < Config.contexts)

/-- The command is well formed. -/
def WellFormed : Instr → Bool
  | .reset => true
  | .loadCompletion dt page => intervalOk dt && pageOk page
  | .storeCompletion dt _ => intervalOk dt
  | .processFrameOutbound dt f => intervalOk dt && frameOk f
  | .processFrameReturn dt f => intervalOk dt && frameOk f
  | .mailboxFrameReturn dt f => intervalOk dt && frameOk f
  | .mailboxHolderFull dt f => intervalOk dt && frameOk f
  | .otherFrame dt _ f => intervalOk dt && frameOk f
  | .badCheckArrival dt _ f => intervalOk dt && frameOk f
  | .gapTimerExpiry dt => intervalOk dt
  | .holderTimerExpiry dt => intervalOk dt
  | .rampEnd dt p => intervalOk dt && decide (p < Config.points)
  | .autoParkExpiry dt c => intervalOk dt && ctxOk c
  | .wakeDelayExpiry dt c => intervalOk dt && ctxOk c
  | .timeExpiry dt c i => intervalOk dt && ctxOk c && decide (i < 4)
  | .rampCompletion dt c => intervalOk dt && ctxOk c
  | .maxTimeExpiry dt c => intervalOk dt && ctxOk c
  | .strikeWindowExpiry dt c => intervalOk dt && ctxOk c
  | .settleExpiry dt c => intervalOk dt && ctxOk c
  | .measureExpiry dt c => intervalOk dt && ctxOk c
  | .admitTimeoutExpiry dt c => intervalOk dt && ctxOk c
  | .motionTimerExpiry dt g => intervalOk dt && decide (g < Config.gates)
  | .identify dt m => intervalOk dt && frameOk m.frame
  | .readStatus dt m => intervalOk dt && frameOk m.frame
  | .writePoints dt m _ => intervalOk dt && frameOk m.frame
  | .readPoints dt m _ _ => intervalOk dt && frameOk m.frame
  | .readSamples dt m _ _ => intervalOk dt && frameOk m.frame
  | .forcePoint dt m _ _ => intervalOk dt && frameOk m.frame
  | .releasePoint dt m _ => intervalOk dt && frameOk m.frame
  | .writeNodes dt m _ => intervalOk dt && frameOk m.frame
  | .readNodes dt m _ _ => intervalOk dt && frameOk m.frame
  | .writeSupply dt m _ => intervalOk dt && frameOk m.frame
  | .readSupply dt m _ _ => intervalOk dt && frameOk m.frame
  | .writeRoughing dt m _ => intervalOk dt && frameOk m.frame
  | .readRoughing dt m _ _ => intervalOk dt && frameOk m.frame
  | .writeGates dt m _ => intervalOk dt && frameOk m.frame
  | .readGates dt m _ _ => intervalOk dt && frameOk m.frame
  | .gateRequestOpen dt m _ _ => intervalOk dt && frameOk m.frame
  | .gateRequestClose dt m _ _ => intervalOk dt && frameOk m.frame
  | .writeRecords dt m _ records => intervalOk dt && frameOk m.frame && recordsOk records
  | .readRecords dt m _ _ => intervalOk dt && frameOk m.frame
  | .writeContextEnable dt m _ f => intervalOk dt && frameOk m.frame && ctxFieldsOk f
  | .writeContextDisable dt m _ f => intervalOk dt && frameOk m.frame && ctxFieldsOk f
  | .readContext dt m _ => intervalOk dt && frameOk m.frame
  | .setMask dt m _ _ levels => intervalOk dt && frameOk m.frame && levelsOk levels
  | .clearRequest dt m _ _ => intervalOk dt && frameOk m.frame
  | .submitJob dt m _ _ _ _ _ => intervalOk dt && frameOk m.frame
  | .cancelJob dt m _ _ => intervalOk dt && frameOk m.frame
  | .abort dt m _ => intervalOk dt && frameOk m.frame
  | .clear dt m _ => intervalOk dt && frameOk m.frame
  | .park dt m _ _ => intervalOk dt && frameOk m.frame
  | .wake dt m _ => intervalOk dt && frameOk m.frame
  | .readReports dt m _ => intervalOk dt && frameOk m.frame
  | .readCounters dt m _ _ _ => intervalOk dt && frameOk m.frame
  | .storeConfig dt m _ => intervalOk dt && frameOk m.frame
  | .softReset dt m => intervalOk dt && frameOk m.frame
  | .unknownRequestCode dt m => intervalOk dt && frameOk m.frame

end Sys2Proof
end

