-- ==== Sys2Proof/Tests/Slice0.lean ====
section
/-!
SUPPORT. Sys2Proof/Tests/Slice0.lean: the model's own tests. The smoke tests of well-formedness, figures that the manual works out, and
for each statement of Certificates/Slice0 that has hypotheses a state and operands that meet them (`witness_...`, named after the
statement), at the bounds of their ranges. The figures are the manual's or are worked by hand from its formulas.
-/
namespace Sys2Proof.Tests
open Sys2Proof Sys2Proof.Machine

set_option Elab.async false

/-! ### Well-formedness: an ill-formed term for each check -/

theorem test_wf_interval : WellFormed (.gapTimerExpiry 4294967295) = true ∧ WellFormed (.gapTimerExpiry 4294967296) = false := by
  decide
theorem test_wf_addresses : WellFormed (.otherFrame 0 .u { other with addresses := zeros 11 }) = false := by decide +kernel
theorem test_wf_data : WellFormed (.otherFrame 0 .u { other with data := zeros 1501 }) = false := by decide +kernel
theorem test_wf_page : WellFormed (.loadCompletion 0 (some (zeros 31))) = false ∧ WellFormed (.loadCompletion 0 none) = true := by
  decide
theorem test_wf_records : WellFormed (.writeRecords 0 (small 48) 0 [zeros 207]) = false := by decide +kernel
theorem test_wf_ctx : WellFormed (.wakeDelayExpiry 0 5) = true ∧ WellFormed (.wakeDelayExpiry 0 6) = false := by decide
theorem test_wf_point : WellFormed (.rampEnd 0 511) = true ∧ WellFormed (.rampEnd 0 512) = false := by decide
theorem test_wf_condition : WellFormed (.timeExpiry 0 0 3) = true ∧ WellFormed (.timeExpiry 0 0 4) = false := by decide
theorem test_wf_gate : WellFormed (.motionTimerExpiry 0 7) = true ∧ WellFormed (.motionTimerExpiry 0 8) = false := by decide
theorem test_wf_levels : WellFormed (.setMask 0 (small 64) 0 0 (List.replicate 15 .low)) = false := by decide +kernel

/-! ### Machine and laws -/

/-- The outcome is a next state. -/
def isNext (o : Outcome) : Bool :=
  match o with
  | .next _ => true
  | _ => false

theorem witness_CommandsAnswerAndTimeRunsOn :
    isNext (exec .reset idle) = true ∧ isNext (exec (.gapTimerExpiry 5) idle) = true ∧ idle.agenda = [] := by decide +kernel

/-- A part whose queues and counts are full. -/
def full : State :=
  { part { rested .idle with queue := [job 1, job 2, job 3, job 4],
                             loops := [{ begin := 5, count := 1000, iteration := 1 }, { begin := 5, count := 2, iteration := 2 }] }
      none with
    pending := [.gapTimerExpiry 0], badRun := 255, lost := 65535, useCounts := List.replicate 2048 60,
    nodes := List.replicate 64 (some { node with age := 3 }),
    waits := (List.range 6).map fun c =>
      { ctx := c, cls := .job, priority := .normal, entryTime := 0, waited := 0, timer := none, raised := false },
    reports := List.replicate 64 { ctx := none, step := none, time := 0, tag := none, body := .jobEnd .completed .normal 0 0 },
    counters := List.replicate 117 { value := 2147483647, overflow := true } }

theorem witness_EveryStepKeepsTheBounds : full.sized = true ∧ full.bounded = true ∧ isNext (step full) = true := by decide +kernel

/-- An entry of the wait list. -/
def entry (c : Nat) (cls : Machine.Class) (p : Priority) (timer : Option Timer) : WaitEntry :=
  { ctx := c, cls := cls, priority := p, entryTime := 0, waited := 0, timer := timer, raised := false }

theorem witness_EveryStepKeepsTimersAndOrder :
    let s := { part (rested .idle) (some (gateIn .opening)) with
      ring := .up, gapTimer := some { start := 0, dur := 500 }, pending := [.gapTimerExpiry 0],
      waits := [entry 0 .handler .high none, entry 1 .job .normal none] }
    s.timersFollow = true ∧ s.waitsOrdered = true ∧ isNext (step s) = true := by decide +kernel

/-- A step in ADMIT: its target on point 0 is 1000 in 100 ms, and it ends after 2 s. -/
def plain : StepState := standing (headOf .process) [.set { point := 0, target := 1000, ramp := 100 }, .cond (.time 2000)]

/-- The same step right after its admission at part time 0. -/
def running : StepState := plain.admitted 0

/-- A part whose context 0 stands at a step. -/
def at' (st : StepState) : State := part (runningAt st) none

/-- Line 0 wholly reserved, and group 0 held, by context 0. -/
def reserved : State :=
  { at' running with
    lines := { budget := true, capacity := 1000, reservations := [1000, 0, 0, 0, 0, 0] } :: idle.lines.drop 1,
    groups := { members := [0], holder := some 0 } :: idle.groups.drop 1 }

theorem witness_BudgetIsNeverExceeded :
    let s := { reserved with pending := [.writeSupply 0 (small 34) [{ line := 1, budget := true, capacity := 0 }]] }
    s.sized = true ∧ s.budgetLaw = true ∧ s.plantLaw = true ∧ isNext (step s) = true
      ∧ s.checkSupply { line := 11, budget := false, capacity := 100000 } = none := by decide +kernel

/-- A return record of a level. -/
def record (level : Level) : ReturnRecord := { head := 3, loops := [], runTime := 0, level := level }

/-- A context at the deepest of diversions. -/
def deep : Ctx := { rested .diverted with isl := .emergency, stack := [record .none, record .low, record .high] }

theorem witness_EveryStepKeepsTheStackLaw :
    let s := { part deep none with pending := [.gapTimerExpiry 0] }
    s.stackLaw = true ∧ deep.stackLaw = true ∧ isNext (step s) = true := by decide +kernel

theorem witness_FixedSourcesAndUnforcedPointsStay :
    idle.fixedSources = true ∧ idle.hotUnforced = true
      ∧ isNext (step { idle with pending := [.setMask 0 (small 64) 0 0xFFFF (List.replicate 16 .high)] }) = true := by
  decide +kernel

/-- A part whose use counts are those of its held paths: two contexts' configured ones, and a running job's. -/
def counted : State := { at' running with useCounts := [6, 4, 2, 1, 1] ++ List.replicate 2043 0, pending := [.timeExpiry 2000000 0 0] }

theorem counted_jobLaw : counted.jobLaw := by
  refine ⟨by decide +kernel, by decide +kernel, by decide +kernel, fun i _ => ?_⟩
  have h : counted.ctxs.flatMap Ctx.heldPaths =
      [[0], [0], [0], [1], [1], [2], [3, 4], [0], [0], [0], [1], [1], [2]] := by decide +kernel
  rw [h]
  match i with
  | 0 | 1 | 2 | 3 | 4 => decide +kernel
  | n + 5 =>
    have hu : counted.useCount (n + 5) = 0 := by
      simp only [State.useCount, counted, List.cons_append, List.nil_append, List.getD_cons_succ]
      rw [List.getD_eq_getElem?_getD, List.getElem?_replicate]
      split <;> rfl
    simp [hu]

/-- The path that a walk accepts. -/
def walked (purpose : Purpose) (start : Nat) : List Nat :=
  match idle.walk 0 purpose start with
  | .ok path => path
  | .error _ => []

theorem witness_HeldRecordsNeverChange :
    (let s := { idle with useCounts := 60 :: List.replicate 2047 0 }
     0 < s.useCount 0 ∧ isNext (exec (.writeRecords 0 (ask 48 208) 0 [zeros 208]) s) = true)
      ∧ (counted.sized = true ∧ counted.jobLaw ∧ isNext (step counted) = true)
      ∧ (idle.sized = true ∧ walked .job 3 = [3, 4] ∧ walked .idle 0 = [0] ∧ walked .handlerEmergency 2 = [2]
          ∧ walked .handlerLow 1 = [1])
      ∧ stepAt idle.records 2047 = none := by
  exact ⟨by decide +kernel, ⟨by decide +kernel, counted_jobLaw, by decide +kernel⟩, by decide +kernel, by decide +kernel⟩

/-- A HEAD record with its fields at the ends of their ranges. -/
def widest : Record :=
  .head { headOf .abandon with next := .index 2047, admitTimeout := 3600000, maxTime := 3600000, group := some 2, gate := some 7,
                               loopCount := 1000, strikeWindow := 60000, rorSettle := 3600000, rorMeasure := 3600000,
                               rorLimit := 4294967295 }
    [ .set { point := 511, target := 10000000, ramp := 60000 },
      .band { point := 511, mode := .relative, low := -10000000, high := 10000000, reference := 511, settle := 3600000,
              persist := 3600000, source := .rf },
      .cond (.time 3600000), .cond (.below 511 10000000 3600000), .cond (.above 0 0 0), .cond (.input 511 true) ] true

theorem witness_RecordReadsBack :
    widest.inRange = true ∧ decodeRecord (encodeRecord widest) = .ok widest
      ∧ (Record.cont (List.replicate 10 .empty) false).inRange = true := by decide +kernel

/-! ### Reset, the config memory and frames -/

theorem witness_LoadFormsTheValuesInUse : (1 : Byte) ≠ 0 ∧ (254 : Byte) ≠ 255 := by decide

theorem witness_LoadCompletes :
    State.reset.loader.state = .loading ∧ (zeros 32).length = 32 ∧ idle.loader.state ≠ .loading := by decide +kernel

/-- Page fields at the ends of their ranges. -/
def pageFull : PageFields := { address := 254, period := 3, nGap := 15, offset := 1344, override := 1 }

/-- A part that stores its page. -/
def storing : State := { idle with loader := { idle.loader with state := .storing, writing := pageBytes pageFull } }

theorem witness_StoreBeginsAndCompletes :
    idle.executes (small 112) 112 = true ∧ idle.agenda = [] ∧ idle.loader.state = .ready ∧ (pageChecks pageFull).all id = true
      ∧ storing.executes (small 112) 112 = true ∧ storing.loader.state = .storing := by decide +kernel

theorem witness_BadFramesPassUnread : goodCheck damaged = false := by decide +kernel

/-- A holder with the answer to the request of tag 7, executed at part time 0 with P = 1000. -/
def held (soft : Bool) : Held :=
  { tag := 7, response := okay .empty, timer := { start := 0, dur := 4000 }, softReset := soft }

theorem witness_GoodFramesPassOn :
    goodCheck other = true ∧ classify 1 other = .other ∧ goodCheck (small 1).frame = true
      ∧ classify 1 (small 1).frame = .mailbox ∧ { idle with holder := some (held false) }.holder.isSome = true
      ∧ State.reset.loader.state = .loading := by decide +kernel

/-- A PROCESS frame of an image. -/
def process (image n : Nat) : Frame := vendor 1 image 0 (zeros n)

theorem witness_OutboundPassStamps :
    goodCheck (process 1 12) = true ∧ classify 1 (process 1 12) = .process 1 ∧ idle.loader.state ≠ .loading
      ∧ idle.point 0 = .set flowCfg (SetRec.fresh 0)
      ∧ (idle.advance 9).stamps 1 (payloadOf (process 1 12)).length flowCfg = true ∧ idle.sized = true
      ∧ goodCheck (process 2 12) = true ∧ classify 1 (process 2 12) = .process 2 ∧ idle.node 0 = some node ∧ node.cfg.image = 2
      ∧ State.reset.loader.state = .loading ∧ State.reset.agenda = [] := by decide +kernel

/-- A part whose tables are as after reset. -/
def bare : State := { State.reset with loader := { Loader.reset with state := .ready } }

theorem bare_ctx (c : Nat) : bare.ctx c = Ctx.reset := by
  simp only [State.ctx, bare, State.reset, State.resetWith, List.getD_eq_getElem?_getD, List.getElem?_replicate]
  split <;> rfl

theorem bare_gate (g : Nat) : bare.gate g = none := by
  simp only [State.gate, bare, State.reset, State.resetWith, List.getD_eq_getElem?_getD, List.getElem?_replicate]
  split <;> rfl

theorem witness_QuietReturnPass :
    (goodCheck (process 0 56) = true ∧ classify bare.inUse.address (process 0 56) = .process 0 ∧ bare.loader.state ≠ .loading
      ∧ bare.quiet = true ∧ bare.evaluations 0 (payloadOf (process 0 56)) = []
      ∧ bare.collections 0 (payloadOf (process 0 56)) = [] ∧ classify 1 (process 3 0) = .process 3)
      ∧ (∀ c, (bare.ctx c).step = none) ∧ ∀ g, bare.gate g = none :=
  ⟨by decide +kernel, fun c => by rw [bare_ctx]; rfl, bare_gate⟩

theorem witness_MailboxReturnAnswers :
    goodCheck (small 1).frame = true ∧ classify 1 (small 1).frame = .mailbox ∧ (held true).tag = requestTag (small 1).frame
      ∧ { held false with tag := 8 }.tag ≠ requestTag (small 1).frame ∧ goodCheck damaged = false
      ∧ isNext (exec (.mailboxFrameReturn 0 damaged) { idle with holder := some (held false) }) = true := by decide +kernel

theorem witness_HolderTimerEmptiesTheHolder :
    (held true).timer.reached (idle.advance 4000).now = true ∧ (held false).timer.reached (idle.advance 3999).now = false := by
  decide +kernel

/-- A part whose gap timer runs, with context 0 as given and flow on. -/
def flowing (x : Ctx) : State :=
  { part x none with
    ring := .up, gapTimer := some { start := 0, dur := 500 },
    points := .set flowCfg { SetRec.fresh 0 with s := 1, t := 1 } :: (part x none).points.drop 1 }

/-- The same part with nothing in it. -/
def flowless : State := { bare with ring := .up, gapTimer := some { start := 0, dur := 500 } }

theorem flowless_rests (c : Nat) : ((flowless.advance 500).ctx c).active = false := by
  have h : (flowless.advance 500).ctxs = List.replicate 6 Ctx.reset := by decide +kernel
  simp only [State.ctx, h, List.getD_eq_getElem?_getD, List.getElem?_replicate]
  split <;> rfl

theorem witness_GapTimerEntersGap :
    (timerDue (flowing (rested .running)).gapTimer ((flowing (rested .running)).advance 500).now = true
      ∧ (flowing (rested .running)).ring = .up ∧ (((flowing (rested .running)).advance 500).ctx 0).active = true
      ∧ ((flowing (rested .running)).advance 500).flowOn 0 = true ∧ (flowing (rested .running)).agenda = []
      ∧ (flowing (rested .running)).sized = true ∧ flowless.agenda = [] ∧ flowless.ring = .up
      ∧ timerDue flowless.gapTimer (flowless.advance 500).now = true)
      ∧ ∀ c, ((flowless.advance 500).ctx c).active = false ∨ (flowless.advance 500).flowOn c = false :=
  ⟨by decide +kernel, fun c => .inl (flowless_rests c)⟩

theorem witness_SoftResetBringsThePartToRest :
    let s := part deep (some (gateIn .opening))
    s.sized = true ∧ s.gate 0 = some (gateIn .opening) ∧ s.node 0 = some node ∧ (s.ctx 5).state = .offline
      ∧ s.point 1 = .sample (sampleCfg (.ctx 0) .pressure 0) (seen 300) ∧ s.point 0 = .set flowCfg (SetRec.fresh 0)
      ∧ (s.softReset.ctx 0).state = .idle ∧ (s.ctx 0).state ≠ .offline
      ∧ s.walkAll 0 (s.ctx 0).cfg.starts = .ok [[0], [0], [0], [1], [1], [2]]
      ∧ (part { deep with cfg := { ctxCfg with idleStep := 2047 } } none).walkAll 0 { ctxCfg with idleStep := 2047 }.starts =
          .error (.idle, { reason := .notHead, record := 2047, slot := none }) := by
  decide +kernel

/-! ### Points, samples and nodes -/

/-- A ramp from 1000 to 0 over 100 ms, started at part time 0. -/
def ramp : SetRec := { SetRec.fresh 0 with s := 1000, d := 100000 }

theorem witness_RampsRunFromValueReached : 0 < ramp.d ∧ ramp.d ≤ ((100000 : Time) - ramp.r).toNat := by decide

theorem witness_ScalingStaysInRange :
    0 < flowCfg.engFull ∧ 0 < flowCfg.gas ∧ { flowCfg with quantity := .power }.gas = 1000 ∧ (seen 1).stale = false
      ∧ idle.sized = true ∧ (idle.ctx 0).marker = false ∧ (0 ∈ [0] ∧ 5 ∉ [0])
      ∧ ((part { rested .idle with marker := true } none).ctx 0).marker = true := by decide +kernel

/-- A DIGITAL point with an edge, and its sample with a baseline. -/
def edged (owner : Owner) (edge : EdgeSelect) (baseline : Bool) : State :=
  { idle with
    points := idle.points.set 3
      (.sample { digitalCfg 2 4 0 with owner := owner, edge := edge, source := .emergencyInput }
        { seen 0 with baseline := some baseline }) }

theorem witness_CollectionIsFreshOrStale :
    idle.point 1 = .sample (sampleCfg (.ctx 0) .pressure 0) (seen 300) ∧ idle.nodeFresh 0 = true
      ∧ { idle with nodes := [] }.nodeFresh 0 = false ∧ (seen 300).stale = false
      ∧ (edged (.ctx 0) .rise false).point 3 =
          .sample { digitalCfg 2 4 0 with edge := .rise, source := .emergencyInput } { seen 0 with baseline := some false }
      ∧ (edged .shared .both true).nodeFresh 0 = true
      ∧ (edged .shared .both true).point 3 =
          .sample { digitalCfg 2 4 0 with owner := .shared, edge := .both, source := .emergencyInput }
            { seen 0 with baseline := some true } := by decide +kernel

theorem witness_TouchBytesMoveNodes : idle.sized = true ∧ idle.node 0 = some node ∧ (2 : Byte) ≠ 1 := by decide +kernel

/-- The fields of the test's flow point as a write carries them. -/
def flowFields : PointFields :=
  { direction := some .set, image := 1, offset := 0, encoding := some .u16, bit := 0, quantity := some .flow, owner := .ctx 0,
    node := 0, engFull := 2000, rawFull := 16000, g := 350, line := none, shift := 0, edge := some .none, source := some .none }

theorem witness_PointWritesFollowTheTable :
    511 < idle.points.length ∧ idle.point 0 = .set flowCfg (SetRec.fresh 0) ∧ flowCfg.owner = flowFields.owner
      ∧ flowFields.quantity = some flowCfg.quantity ∧ idle.point 511 = .empty ∧ Owner.ctx 1 ≠ flowCfg.owner
      ∧ { flowFields with direction := some .sample }.direction = some .sample := by decide +kernel

theorem witness_NodeWritesMakeSamplesStale : 63 < idle.nodes.length ∧ (sampleCfg .shared .signal 0).node = 0 := by decide +kernel

theorem witness_RampEndSettlesTheRecord :
    let s := { idle with points := .set flowCfg ramp :: idle.points.drop 1 }
    s.quiet = true ∧ s.point 0 = .set flowCfg ramp ∧ 0 < ramp.d ∧ ramp.d ≤ ((s.advance 100000).now - ramp.r).toNat
      ∧ ((s.advance 99999).now - ramp.r).toNat < ramp.d := by decide +kernel

/-! ### Steps -/

/-- A step that ends when both its times have run. -/
def both : StepState :=
  (standing { headOf .process with endAll := true } [.cond (.time 1), .cond (.time 2)]).admitted 0

/-- A step that ends where the pressure is at or below 300. -/
def gauging : StepState := (standing (headOf .process) [.cond (.below 1 300 0)]).admitted 0

theorem witness_TimeExpiryMeetsItsCondition :
    (let st := running.advance 2000000
     let k : Cond := { item := .time 2000, met := false, holdStart := none, timer := some { start := 0, dur := 2000000 } }
     0 < (at' running).ctxs.length ∧ (((at' running).advance 2000000).ctx 0).step = some st ∧ st.conds[0]? = some k
       ∧ timerDue k.timer ((at' running).advance 2000000).now = true
       ∧ endReason st.step.head.endAll st.conds (st.conds.set 0 { k with met := true, timer := none }) = some 0)
      ∧ (let st := both.advance 1000
         let k : Cond := { item := .time 1, met := false, holdStart := none, timer := some { start := 0, dur := 1000 } }
         (((at' both).advance 1000).ctx 0).step = some st ∧ st.conds[0]? = some k
           ∧ timerDue k.timer ((at' both).advance 1000).now = true ∧ (at' both).agenda = []
           ∧ endReason st.step.head.endAll st.conds (st.conds.set 0 { k with met := true, timer := none }) = none)
      ∧ (let unmet : Cond := { item := .input 3 true, met := false, holdStart := none, timer := none }
         endReason false [unmet, unmet] [unmet, { unmet with met := true }] = some 1
           ∧ endReason true [unmet, { unmet with met := true }] [{ unmet with met := true }, { unmet with met := true }] = some 0
           ∧ endReason false [{ unmet with met := true }] [{ unmet with met := true }] = some 0 ∧ endReason true [unmet] [unmet] = none
           ∧ idle.collected 2 12 3 = some true ∧ idle.collected 1 12 3 = none)
      ∧ (let s := at' gauging
         (s.ctx 0).step = some gauging ∧ (s.ctx 0).active = true ∧ gauging.phase ≠ .waiting ∧ plain.phase = .waiting
           ∧ (idle.ctx 0).active = false ∧ s.collected 2 12 1 = some true ∧ s.collected 2 1 1 = none
           ∧ endReason false gauging.conds (gauging.conds.map (s.evalCond 2 12)) = some 0) := by
  decide +kernel

/-- A step that asks for its report. -/
def reporting : StepState := (standing { headOf .process with report := true } []).admitted 0

theorem witness_StepEndTakesUpTheSuccessor :
    (at' running).sized = true ∧ ((at' running).ctx 0).step = some running ∧ ((at' running).ctx 0).reportsStep running = false
      ∧ ((at' reporting).ctx 0).step = some reporting ∧ ((at' reporting).ctx 0).reportsStep reporting = true
      ∧ (at' reporting).reports.length < 64
      ∧ ((at' running).ctx 0).job = some { job := job 5, startTime := 0, runTime := 0 }
      ∧ (idle.ctx 0).state = .idle ∧ (idle.ctx 0).queue = [] ∧ (idle.ctx 0).cfg.autoPark ≠ 0
      ∧ ((part { rested .idle with cfg := CtxCfg.default } none).ctx 0).cfg.autoPark = 0 ∧ (full.ctx 0).queue ≠ []
      ∧ idle.point 0 = .set flowCfg (SetRec.fresh 0)
      ∧ idle.restItems 3 = [] ++ { point := 0, target := 1000, ramp := 100 } :: [] ∧ idle.restItems 0 = [] := by decide +kernel

theorem witness_RampCompletionLowersReservations :
    (at' running).quiet = true ∧ 0 < (at' running).ctxs.length
      ∧ (((at' running).advance 100000).ctx 0).step = some (running.advance 100000)
      ∧ timerDue (running.advance 100000).rampEnd ((at' running).advance 100000).now = true := by decide +kernel

/-- A plasma step with max time, whose requests are masked, in context 0. -/
def timed : State :=
  let st := (standing { headOf .process with maxTime := 5, strikeWindow := 5 } [.cond (.time 2000)]).admitted 0
  part { runningAt st with masks := 0xFFF0 } none

/-- A step that waits for admission, with its entry in the wait list. -/
def waiting : State :=
  { part { runningAt plain with masks := 0xFFF0 } none with
    waits := [entry 0 .job .normal (some { start := 0, dur := 5000 })] }

theorem witness_StepTimersRaiseRequests :
    (let a := timed.advance 5000
     timed.agenda = [] ∧ ((a.ctx 0).step.any fun st => timerDue st.maxTimer a.now && timerDue st.strikeTimer a.now
         && st.strike == .unstruck) = true
       ∧ ((a.modStep 0 fun st => { st with maxTimer := none, timeoutRaised := true }).raiseFlag 0 .stepTimeout).toTake 0 = none
       ∧ ((a.modStep 0 fun st => { st with strikeTimer := none, strike := .failed }).raiseFlag 0 .strikeFail).toTake 0 = none)
      ∧ (let a := waiting.advance 5000
         waiting.agenda = [] ∧ ((a.waits.find? fun e => e.ctx == 0).any fun e => timerDue e.timer a.now) = true
           ∧ (({ a with waits := a.waits.map fun (e : WaitEntry) =>
                 if e.ctx = 0 then { e with timer := none, raised := true } else e }).raiseFlag 0 .admitTimeout).toTake 0
               = none)
      ∧ (idle.collected 2 12 1 = some true ∧ idle.collectedFresh 2 12 1 = true ∧ idle.collected 2 1 1 = none
          ∧ { idle with nodes := [] }.collected 2 12 1 = some false ∧ idle.fOf 1 = 300
          ∧ ([{ point := 0, target := 1000, ramp := 100 }] : List SetItem).find? (fun x => x.point == 0) =
              some { point := 0, target := 1000, ramp := 100 }) := by
  decide +kernel

/-- An ROR step of 1 ms and 1 ms with a limit, right after its admission. -/
def ror (limit : Nat) : StepState :=
  (standing { headOf .ror with rorSettle := 1, rorMeasure := 1, rorLimit := limit } []).admitted 0

/-- The step in MEASURE from part time 1000, with a first reading of 0 taken at part time 500. -/
def measuring (limit : Nat) (valid : Bool) : StepState :=
  { ror limit with phase := .measure, t0 := 500, valid0 := valid, settleAt := 1000, elapsed := 1000,
                   rorTimer := some { start := 1000, dur := 1000 } }

/-- A part in MEASURE whose pressure was last collected at part time 1500. -/
def measured (limit : Nat) (valid : Bool) : State :=
  { part (runningAt (measuring limit valid)) none with
    now := 1000,
    points := points.set 1 (.sample (sampleCfg (.ctx 0) .pressure 0) { seen 300 with lastFresh := 1500 })
      ++ List.replicate 505 .empty }

/-- The result of the measurement. -/
def resultOf (limit : Nat) (valid : Bool) : RorResult :=
  (((measured limit valid).advance 1000).rorOutcome (some 1) ((measuring limit valid).advance 1000)).1

theorem witness_RorStepsReadTwiceAndJudge :
    (((at' (ror 0)).advance 1000).ctx 0).step = some ((ror 0).advance 1000)
      ∧ ((ror 0).advance 1000).phase = .settle
      ∧ timerDue ((ror 0).advance 1000).rorTimer ((at' (ror 0)).advance 1000).now = true
      ∧ ((at' (ror 0)).ctx 0).cfg.pressure = some 1
      ∧ (at' (ror 0)).point 1 = .sample (sampleCfg (.ctx 0) .pressure 0) (seen 300)
      ∧ (let s := part { runningAt (ror 0) with cfg := CtxCfg.default } none
         ((s.advance 1000).ctx 0).step = some ((ror 0).advance 1000) ∧ s.pressureSample (s.ctx 0).cfg.pressure = none)
      ∧ (((measured 0 true).advance 1000).ctx 0).step = some ((measuring 0 true).advance 1000)
      ∧ timerDue ((measuring 0 true).advance 1000).rorTimer ((measured 0 true).advance 1000).now = true
      ∧ (measured 0 true).point 1 = .sample (sampleCfg (.ctx 0) .pressure 0) { seen 300 with lastFresh := 1500 }
      ∧ ((measured 0 true).ctx 0).cfg.pressure = some 1
      ∧ (let s := part { runningAt (measuring 0 true) with cfg := CtxCfg.default } none
         ((s.advance 1000).ctx 0).step = some ((measuring 0 true).advance 1000)
           ∧ timerDue ((measuring 0 true).advance 1000).rorTimer (s.advance 2000).now = true
           ∧ (s.advance 1000).pressureSample ((s.advance 1000).ctx 0).cfg.pressure = none)
      ∧ resultOf 18000000 true = .pass ∧ resultOf 17999999 true = .fail ∧ resultOf 18000000 false = .invalid := by
  decide +kernel

theorem witness_ThresholdsHoldTheirTime :
    idle.collected 2 12 1 = some true ∧ (idle.fOf 1 ≤ 300) ∧ ¬(300 ≤ 299) ∧ { idle with nodes := [] }.collected 2 12 1 = some false
      ∧ idle.collected 2 1 1 = none ∧ idle.collected 1 12 1 = none := by decide +kernel

theorem witness_AdmissionRaisesReservations :
    (at' plain).sized = true ∧ ((at' plain).ctx 0).step = some plain ∧ plain.step.head.kind.gate = false
      ∧ 0 < plain.step.longestRamp ∧ (at' plain).lines[0]? = some { budget := true, capacity := 2500, reservations := List.replicate 6 0 }
      ∧ (at' plain).groups[2]? = some { members := [], holder := none }
      ∧ (at' plain).needsMet 0 plain = true ∧ (at' plain).waits = [] ∧ ((at' plain).ctx 0).isl ≠ .emergency
      ∧ { at' plain with lines := [] }.needsMet 0 plain = true
      ∧ ({ at' plain with lines := [{ budget := true, capacity := 999, reservations := List.replicate 6 0 }] }).needsMet 0 plain = false
      ∧ ((part { runningAt plain with isl := .emergency } none).ctx 0).isl = .emergency
      ∧ (let s := { waiting with waits := [entry 1 .handler .high none, entry 0 .job .normal none] }
         s.waits = [entry 1 .handler .high none] ++ entry 0 .job .normal none :: []
           ∧ (∀ y ∈ [entry 0 .job .normal none], y.ctx ∉ [1])
           ∧ [entry 1 .handler .high none].getLast? = some (entry 1 .handler .high none) ∧ (s.ctx 0).step = some plain
           ∧ s.needsMet 0 plain = true ∧ (∀ w ∈ [1], s.blocks w 0 plain = false) ∧ s.scanAgain = false ∧ s.scanning = false
           ∧ { s with scanAgain := true, scanning := true }.scanAgain = true) := by decide +kernel

/-- A context inside the loop that begins at record 5. -/
def looping (iteration : Nat) : State :=
  part { rested .running with loops := [{ begin := 5, count := 2, iteration := iteration }] } none

theorem witness_LoopEndsRepeatOrClose :
    0 < (looping 1).ctxs.length ∧ ((stepAt (looping 1).records 6).any fun st => st.head.kind == .loopEnd) = true
      ∧ ((looping 1).ctx 0).loops = [] ++ [{ begin := 5, count := 2, iteration := 1 }]
      ∧ (stepAt (looping 1).records 5).isSome = true
      ∧ ((looping 2).ctx 0).loops = [] ++ [{ begin := 5, count := 2, iteration := 2 }] ∧ ((looping 1).ctx 0).active = true
      ∧ ((stepAt (looping 1).records 5).any fun st => st.head.kind == .loopBegin) = true
      ∧ ((looping 1).ctx 0).loops.length < 2 := by decide +kernel

/-! ### Requests and diversion -/

theorem witness_RaisesSetOneFlag :
    5 < idle.ctxs.length ∧ (idle.ctx 5).state = .offline ∧ (idle.ctx 0).state ≠ .offline ∧ idle.reports.length < 64 := by
  decide +kernel

theorem witness_AttemptsTakeTheHighest :
    let s := part { rested .running with flags := 0x0031 } none
    s.toTake 0 = some .emergencyInput ∧ s.candidate 0 .sampleStale = true ∧ s.candidate 0 .pressureBand = true
      ∧ idle.toTake 0 = none := by decide +kernel

theorem witness_TakingDiverts :
    (at' running).sized = true ∧ Source.gatePressure.level ((at' running).ctx 0).highs = .emergency
      ∧ Source.pressureBand.level ((at' running).ctx 0).highs ≠ .emergency := by decide +kernel

theorem witness_HandlersReturnOrHalt :
    let s := part { deep with isl := .high, stack := [record .none] } none
    s.sized = true ∧ (s.ctx 0).stack = [] ++ [record .none] ∧ s.hotUnforced = true ∧ (s.ctx 0).job = none
      ∧ ((at' running).ctx 0).job = some { job := job 5, startTime := 0, runTime := 0 } ∧ (at' running).sized = true
      ∧ (at' running).reports.length < 64 := by decide +kernel

/-! ### Gates -/

/-- The reading that the switches of gate 0 give at values of its CLOSED and OPEN switch points. -/
def switches (state : GateState) (closed opened : Nat) : State :=
  { part (rested .idle) (some (gateIn state)) with
    points := ((points.set 3 (.sample (digitalCfg 2 4 0) (seen closed))).set 4 (.sample (digitalCfg 2 4 1) (seen opened)))
      ++ List.replicate 505 .empty }

/-- The reading formed. -/
def readingIn (state : GateState) (closed opened : Nat) : Option Reading :=
  (switches state closed opened).formReading (gateIn state) 2 12

theorem witness_ReadingsMoveGates :
    (switches .opening 0 1).sized = true ∧ (switches .opening 0 1).gate 0 = some (gateIn .opening)
      ∧ readingIn .opening 0 1 = some .openSw ∧ readingIn .closing 1 0 = some .closedSw ∧ readingIn .fault 1 0 = some .closedSw
      ∧ readingIn .closed 0 0 = some .mid ∧ readingIn .open 1 1 = some .both ∧ readingIn .opening 1 1 = some .both
      ∧ readingMoves .closed .closedSw = none ∧ (switches .closed 0 0).hotUnforced = true
      ∧ (let s := { part (rested .idle) (some (gateIn .open)) with
           points := points.set 5 (.sample (sampleCfg (.ctx 1) .pressure 2) (seen 501)) }
         s.gate 0 = some (gateIn .open) ∧ (s.ctx 0).cfg.pressure = some 1 ∧ s.collectedFresh 2 12 1 = true
           ∧ s.freshF (some 1) = some 300 ∧ s.freshF (s.ctx 1).cfg.pressure = some 501 ∧ 300 + gateCfg.tripDelta < 501)
      ∧ (gateIn .closed).state ≠ .open := by decide +kernel

theorem witness_MotionTimeoutFaultsTheGate :
    let s := part { rested .idle with masks := 0xFFF0 } (some (gateIn .opening))
    let a := s.advance 3000000
    let b := ((if a.targetOf 2 = 0 then a else a.retarget 2 0 0).setGate 0
        (some { gateIn .opening with state := .fault, timer := none })).report (some 0) (a.ctx 0).cur (a.ctx 0).jobTag
        (.gate 0 .opening .fault .timeout none (a.freshF (a.ctx 0).cfg.pressure) (a.freshF (a.ctx 1).cfg.pressure))
    s.quiet = true ∧ s.sized = true ∧ s.gate 0 = some (gateIn .opening) ∧ timerDue (gateIn .opening).timer a.now = true
      ∧ (b.raiseFlag 0 .gateMotion).toTake 0 = none := by decide +kernel

/-- A part at rest with gate 0 in a state. -/
def gated (state : GateState) : State := part (rested .idle) (some (gateIn state))

theorem witness_GateRequestsMoveGates :
    (gated .closed).quiet = true ∧ (gated .closed).executes (small 40) 40 = true ∧ (gated .closed).sized = true
      ∧ (gated .closed).gate 0 = some (gateIn .closed)
      ∧ (((gated .closed).arrived 0).requestConditions (gateIn .closed)).all id = true
      ∧ ((gated .closed).ctx 0).step = none ∧ (gated .fault).gate 0 = some (gateIn .fault)
      ∧ ((gated .fault).arrived 0).gateStepStands 0 (gateIn .fault) = false
      ∧ (gated .closing).gate 0 = some (gateIn .closing)
      ∧ ((gated .closing).arrived 0).gateStepStands 0 (gateIn .closing) = false := by decide +kernel

/-! ### Requests of the tool controller -/

theorem witness_RefusedRequestsHaveNoEffect :
    idle.executes (small 83) (clearRequest 0).code = true ∧ (clearRequest 0).counted = true
      ∧ (clearRequest 0).bodyHeld (small 83) = true
      ∧ (clearRequest 0).check (idle.arrived 0) = some (notAllowed 0 .idle) ∧ (notAllowed 0 .idle).code ≠ .ok
      ∧ goodCheck (small 83).frame = true ∧ classify 1 (small 83).frame = .mailbox ∧ idle.holder = none
      ∧ idle.loader.state ≠ .loading
      ∧ (let f := vendor 2 0 1 (leBytes 83 1 ++ zeros 3 ++ leBytes 9 2 ++ zeros 10)
         goodCheck f = true ∧ classify 1 f = .mailbox ∧ (payloadOf f).length - 8 < bodyLength f)
      ∧ (largestBody (requestCode (small 17).frame) = some 768 ∧ (payloadOf (small 17).frame).length < 8 + 768)
      ∧ (requestCode (ask 48 207).frame = (writeRecordsRequest 0 [zeros 208]).code
          ∧ bodyLength (ask 48 207).frame < (writeRecordsRequest 0 [zeros 208]).least)
      ∧ (writeRecordsRequest 0 []).counted = false := by decide +kernel

theorem witness_ReadsAnswerAndChangeNothing :
    idle.agenda = [] ∧ idle.executes (ask 1 64) 1 = true ∧ idle.executes (ask 17 768) 17 = true
      ∧ idle.executes (ask 18 1280) 18 = true ∧ idle.executes (ask 33 1024) 33 = true ∧ idle.executes (ask 35 480) 35 = true
      ∧ idle.executes (small 37) 37 = true ∧ idle.executes (ask 39 320) 39 = true ∧ idle.executes (ask 49 1470) 49 = true
      ∧ idle.executes (ask 51 256) 51 = true ∧ 480 + 32 ≤ 512 ∧ 2041 + 7 ≤ 2048 := by decide +kernel

theorem witness_ReadStatusClears : idle.executes (ask 2 160) 2 = true ∧ idle.agenda = [] := by decide +kernel

theorem witness_ReadReportsDrainsTheQueue :
    idle.executes (ask 96 260) 96 = true ∧ idle.agenda = [] ∧ (1 ≤ 8 ∧ 8 ≤ 8) ∧ 8 < 9 := by decide +kernel

theorem witness_ReadCountersReturnsAndClears :
    idle.executes (ask 97 260) 97 = true ∧ idle.agenda = [] ∧ 53 + 64 ≤ 117 ∧ 117 < 54 + 64
      ∧ idle.counters[116]? = some { value := 0, overflow := false } := by decide +kernel

/-- A write of a free entry of the point table. -/
def pointWrite : PointWrite := { index := 511, content := some flowFields }

/-- A write of a free entry of the node table. -/
def nodeWrite : NodeWrite :=
  { index := 63, content := some { ring := 254, image := 3, touch := 1399, owner := .shared, required := false, staleAfter := 1 } }

theorem witness_TableWritesAreMade :
    let a := idle.arrived 0
    idle.executes (small 16) 16 = true ∧ checkEntries PointWrite.index a.checkPoint [] [pointWrite] = none
      ∧ idle.executes (small 32) 32 = true ∧ checkEntries NodeWrite.index a.checkNode [] [nodeWrite] = none
      ∧ idle.executes (small 36) 36 = true
      ∧ checkEntries RoughingWrite.group a.checkRoughing [] [{ group := 2, members := [0, 5] }] = none
      ∧ idle.executes (ask 48 208) 48 = true ∧ a.checkRecords 2047 [encodeRecord widest] = none
      ∧ 208 * [encodeRecord widest].length ≤ bodyLength (ask 48 208).frame ∧ idle.executes (ask 48 207) 48 = true
      ∧ bodyLength (ask 48 207).frame < 208 * [encodeRecord widest].length ∧ idle.sized = true
      ∧ [encodeRecord widest][0]? = some (encodeRecord widest) ∧ decodeRecord (encodeRecord widest) = .ok widest
      ∧ idle.executes (small 19) 19 = true ∧ a.checkForce 2 1 = none
      ∧ idle.point 2 = .set (digitalCfg 1 10 0) (SetRec.fresh 0) ∧ idle.executes (small 20) 20 = true
      ∧ idle.agenda = [] := by decide +kernel

theorem witness_ForcePointChecksInOrder :
    idle.point 511 = .empty ∧ idle.point 1 = .sample (sampleCfg (.ctx 0) .pressure 0) (seen 300)
      ∧ idle.point 0 = .set flowCfg (SetRec.fresh 0) ∧ (gated .closed).isOpenOutput 2 = true
      ∧ (at' running).isOpenOutput 2 = false ∧ ((at' running).ctx 0).busy = true ∧ (idle.ctx 0).busy = false
      ∧ idle.point 2 = .set (digitalCfg 1 10 0) (SetRec.fresh 0) ∧ quantityMax .digital < 2 := by decide +kernel

theorem witness_SupplyAndGateWritesAreMade :
    let a := idle.arrived 0
    idle.quiet = true ∧ idle.executes (small 34) 34 = true
      ∧ checkEntries SupplyWrite.line a.checkSupply [] [{ line := 11, budget := true, capacity := 100000 }] = none
      ∧ idle.executes (small 38) 38 = true
      ∧ checkEntries GateWrite.index a.checkGate [] [{ index := 7, content := some gateCfg }] = none
      ∧ idle.sized = true ∧ idle.point 2 = .set (digitalCfg 1 10 0) (SetRec.fresh 0)
      ∧ ({ index := 7, content := none } : GateWrite).content = none := by decide +kernel

/-- The configuration of the test contexts as a write carries it. -/
def ctxFields : CtxFields :=
  { kind := some .process, pressure := some 1, plasma := none, strike := 1, lost := 0, idleStep := 0, parkLight := 0, parkDeep := 0,
    handlerLow := 1, handlerHigh := 1, handlerEmergency := 2, wakeLight := 0, wakeDeep := 7, autoPark := 3600, wakeOnJob := true,
    masks := 0, levels := List.replicate 12 .low }

/-- A part whose context 0 is in a state of rest and holds its paths. -/
def restedIn (state : CtxState) : State :=
  { part (if state = .offline then { Ctx.reset with state := .offline } else rested state) none with
    useCounts := (if state = .offline then [0, 0, 0] else [3, 2, 1]) ++ List.replicate 2045 0 }

/-- The checks and walks of a WRITE_CONTEXT pass. -/
def enables (state : CtxState) : Bool :=
  let s := restedIn state
  (s.quiet && s.sized && s.executes (small 50) 50 && (s.ctx 0).queue.isEmpty
    && ((s.arrived 0).checkContext 0 ctxFields true).isNone && ((s.arrived 0).checkContext 0 ctxFields false).isNone)
    && match (s.arrived 0).validate 0 (ctxCfgOf ctxFields) with
       | .ok _ => true
       | .error _ => false

theorem witness_WriteContextEnablesAndDisables :
    enables .offline = true ∧ enables .idle = true ∧ enables (.parked .deep) = true ∧ enables .halted = true := by decide +kernel

theorem witness_SetMaskWritesMasksAndLevels :
    idle.agenda = [] ∧ idle.sized = true ∧ idle.executes (ask 64 32) 64 = true
      ∧ ((List.replicate 16 Level.high).drop 4).all levelListed = true
      ∧ ((idle.arrived 0).writeMasks 0 0xFFFF (List.replicate 16 .high)).toTake 0 = none := by decide +kernel

theorem witness_ClearRequestClearsFlags :
    idle.agenda = [] ∧ idle.sized = true ∧ idle.executes (small 65) 65 = true ∧ 5 ≤ 5 ∧ 5 < 6 := by decide +kernel

/-- A job submitted to a part passes its checks. -/
def submits (s : State) : Bool :=
  (s.agenda.isEmpty && s.sized && s.executes (small 80) 80 && ((s.arrived 0).checkSubmit 0 9 3 (some .normal)).isNone)
    && match (s.arrived 0).countJob 0 3 with
       | .ok _ => true
       | .error _ => false

theorem witness_SubmittedJobsQueueAndStart :
    submits (at' running) = true ∧ submits idle = true ∧ submits (restedIn (.parked .light)) = true
      ∧ submits (part { rested (.parked .light) with cfg := { ctxCfg with wakeOnJob := false } } none) = true
      ∧ (full.ctx 0).queue = job 1 :: [job 2, job 3, job 4] ∧ full.sized = true := by decide +kernel

theorem witness_CancelAndAbort :
    (let s := part { rested .halted with queue := [job 9] } none
     s.agenda = [] ∧ s.sized = true ∧ s.executes (small 81) 81 = true
       ∧ (((s.arrived 0).ctx 0).queue.find? fun j => j.tag == 9) = some (job 9))
      ∧ (let s := part { runningAt running with isl := .emergency } none
         s.executes (small 81) 81 = true ∧ s.executes (small 82) 82 = true ∧ ((s.arrived 0).ctx 0).jobTag = some 5
           ∧ (((s.arrived 0).ctx 0).queue.any fun j => j.tag == 5) = false ∧ ((s.arrived 0).ctx 0).active = true
           ∧ ((s.arrived 0).raiseFlag 0 .operatorAbort).toTake 0 = none)
      ∧ ((idle.arrived 0).ctx 0).active = false := by decide +kernel

theorem witness_ClearBringsHaltedToIdle :
    (restedIn .halted).quiet = true ∧ (restedIn .halted).sized = true ∧ (restedIn .halted).executes (small 83) 83 = true
      ∧ ((restedIn .halted).ctx 0).flags &&& 7 = 0 ∧ ((restedIn .halted).ctx 0).queue = []
      ∧ { rested .halted with flags := 4 }.flags &&& 7 ≠ 0 := by decide +kernel

/-- A part whose auto-park timer and wake delay have a second to run. -/
def dozing (state : CtxState) : State :=
  part { rested state with autoPark := some { start := 0, dur := 1000000 }, wakeDelay := some { start := 0, dur := 1000000 } } none

theorem witness_ParkBringsToRest :
    (dozing .idle).quiet = true ∧ (dozing .idle).sized = true ∧ (dozing .idle).executes (small 84) 84 = true
      ∧ timerDue ((dozing .idle).ctx 0).autoPark ((dozing .idle).advance 1000000).now = true
      ∧ (dozing .waking).quiet = true ∧ ((dozing .waking).ctx 0).state = .waking ∧ ((dozing .halted).ctx 0).state = .halted := by
  decide +kernel

theorem witness_WakeBringsToIdle :
    (restedIn (.parked .deep)).quiet = true ∧ (restedIn (.parked .deep)).sized = true
      ∧ (restedIn (.parked .deep)).executes (small 85) 85 = true
      ∧ ((restedIn (.parked .deep)).ctx 0).cfg.wakeCode .deep = 7 ∧ ((restedIn (.parked .light)).ctx 0).cfg.wakeCode .light = 0
      ∧ ((restedIn (.parked .light)).ctx 0).queue = []
      ∧ timerDue ((dozing .waking).ctx 0).wakeDelay ((dozing .waking).advance 1000000).now = true := by decide +kernel

theorem witness_SoftResetWaitsAndUnknownCodesAreRefused :
    idle.executes (small 113) 113 = true ∧ idle.agenda = [] ∧ goodCheck (small 3).frame = true
      ∧ classify 1 (small 3).frame = .mailbox ∧ idle.holder = none ∧ largestBody (requestCode (small 3).frame) = none := by
  decide +kernel

/-! ### Figures -/

/-- The check value of CRC-32 (the Ethernet frame check) over the digits 1 to 9, as its published definition has it. -/
theorem test_frame_check : frameCheck [0x31, 0x32, 0x33, 0x34, 0x35, 0x36, 0x37, 0x38, 0x39] = 0xCBF43926 := by decide +kernel

/-- Worked ramps (section 2.2): up, turned, down, and across a wrap of the part time. -/
theorem test_ramps :
    let up : SetRec := { SetRec.fresh 2000000 with t := 400, d := 500000 }
    let turned := up.retarget 2137250 0 500000
    up.rampValue 2137250 = 109 ∧ turned.s = 109 ∧ turned.rampValue 2400000 = 52
      ∧ { up with s := 400, t := 0 }.rampValue 2137250 = 291
      ∧ { SetRec.fresh 4294900000 with t := 1000, d := 200000 }.rampValue 50000 = 586 := by decide

/-- Worked stamps (section 2.3). -/
theorem test_stamps :
    flowCfg.stampOf 400 = (9143, false) ∧ flowCfg.stampOf 109 = (2491, false) ∧ flowCfg.stampOf 700 = (16000, false)
      ∧ flowCfg.stampOf 701 = (16000, true)
      ∧ { flowCfg with quantity := .position, engFull := 10000, rawFull := 4095 }.stampOf 3750 = (1536, false) := by decide

/-- Worked collects (section 2.4). -/
theorem test_collects :
    flowCfg.engOf 9143 = 400 ∧ flowCfg.engOf 16000 = 700 ∧ flowCfg.engOf 16383 = 717
      ∧ { flowCfg with quantity := .position, engFull := 10000, rawFull := 4095 }.engOf 1536 = 3751 := by decide

/-- Worked filtering (section 2.4): the dead band, from above and from below, and the seed. -/
theorem test_filter :
    let cfg := { sampleCfg (.ctx 0) .pressure 0 with shift := 2 }
    (seen 200).filter cfg 240 = 210 ∧ (seen 226).filter cfg 240 = 229 ∧ (seen 237).filter cfg 240 = 237
      ∧ (seen 237).filter cfg 232 = 236 ∧ { seen 236 with stale := true }.filter cfg 180 = 180 := by decide

/-- Worked rates of rise (section 6.6): a pass, a truncation, a fall of pressure, and a saturation. -/
theorem test_rates :
    rateOfRise 12 57 60000000 = 45 ∧ rateOfRise 12 57 30000123 = 89 ∧ rateOfRise 40 33 60000000 = 0
      ∧ rateOfRise 0 10000000 100000 = 4294967295 := by decide

/-- The counter example of section 11.2: the count at the maximum sets the flag. -/
theorem test_counter_saturates :
    let k : Counter := { value := 2147483646, overflow := false }
    k.count = { value := 2147483647, overflow := false } ∧ k.count.count = { value := 2147483647, overflow := true }
      ∧ k.count.count.word = 0xFFFFFFFF := by decide

/-- An outbound pass stamps the worked figure into the frame, least significant byte first (R6, R26). -/
theorem test_outbound_stamp :
    (match exec (.processFrameOutbound 0 (process 1 4))
        { idle with points := .set flowCfg { SetRec.fresh 0 with t := 400 } :: idle.points.drop 1 } with
      | .next t => t.sentD.map payloadOf
      | _ => none) = some [0xB7, 0x23, 0, 0] := by decide +kernel

/-- A return pass collects the pressure (R29) and moves the node's presence by its touch byte (R44). -/
theorem test_return_collects :
    (match exec (.processFrameReturn 7 (vendor 1 2 0 [0x2C, 1, 0x5E, 1, 1, 0, 1])) idle with
      | .next t => some (t.fOf 1, t.fOf 5, (t.node 0).map (·.lastSeen))
      | _ => none) = some (300, 350, some (some 7)) := by decide +kernel

/-- A frame's request is answered in the frame that returns with its tag (R14, R15): WAKE of an OFFLINE context changes nothing and is
OK; its code lies in payload byte 1. -/
theorem test_mailbox_round :
    (match exec (.wake 0 (small 85) 5) idle with
      | .next s =>
        match exec (.mailboxFrameReturn 600 (small 85).frame) s with
        | .next t => t.sentU.map fun f => ((payloadOf f).take 8, t.holder.isNone)
        | _ => none
      | _ => none) = some ([85, 0, 7, 0, 8, 0, 0, 0], true) := by decide +kernel

/-- The response of the same request with a context index of 6 is OUT_OF_RANGE with an 8-byte body whose subject is 6 (R88, R180). -/
theorem test_mailbox_refusal :
    (match exec (.wake 0 (small 85) 6) idle with
      | .next s => s.holder.map fun h => (h.response.code, h.response.body.bytes)
      | _ => none) = some (.outOfRange, [6, 0, 255, 255, 255, 255, 0, 0]) := by decide +kernel

/-- The mailbox sequence of section 1.6: a second request that meets the FULL holder is not executed, and goes on. -/
theorem test_full_holder :
    (match exec (.mailboxHolderFull 300 (small 80).frame) { idle with holder := some (held false) } with
      | .next t => some (t.holder, (t.counter 49).value, t.sentD == some (small 80).frame)
      | _ => none) = some (some (held false), 1, true) := by decide +kernel

/-- A submitted job starts at once in IDLE (R82, R83): its first step is admitted, its flow reserved, and its ramp begun. -/
theorem test_submit_starts :
    (match exec (.submitJob 0 (small 80) 0 9 3 (some .normal) false) idle with
      | .next t => some ((t.ctx 0).state, (t.ctx 0).phase, (t.ctx 0).jobTag, (t.line 0).reservations, t.useCount 4)
      | _ => none) = some (.running, some .ramp, some 9, [1000, 0, 0, 0, 0, 0], 1) := by decide +kernel

/-- The step ends at its TIME condition, the job with it, and the context makes idle entry (R98, R115, R114, R79). -/
theorem test_time_ends_the_job :
    (match exec (.timeExpiry 2000000 0 0) (at' running) with
      | .next t => some ((t.ctx 0).state, (t.ctx 0).cur, (t.counter 0).value, (t.counter 1).value)
      | _ => none) = some (.idle, some 0, 1, 1) := by decide +kernel

/-- The gap timer's expiry diverts the context that has flow on to its EMERGENCY handler, which halts it (R11, R163, R172). -/
theorem test_gap_halts :
    (match exec (.gapTimerExpiry 500) (flowing (rested .running)) with
      | .next t => some (t.ring, (t.ctx 0).state, t.ctxAtZero 0, t.reports.length, (t.counter 5).value)
      | _ => none) = some (.gap, .halted, true, 2, 1) := by decide +kernel

/-- A gate's opening stamps 1 at its output and runs its motion timer (R147, R152). -/
theorem test_gate_opens :
    (match exec (.gateRequestOpen 5 (small 40) 0 true) (gated .closed) with
      | .next t => some ((t.gate 0).map (·.state), (t.gate 0).bind (·.timer), t.targetOf 2, t.reports.length)
      | _ => none) = some (some .opening, some { start := 5, dur := 3000000 }, 1, 1) := by decide +kernel

/-- A blank page: the strapped address, P = 1000, N_gap 4, offset 0, and every field defaulted (R185). -/
theorem test_blank_page :
    (match exec (.loadCompletion 0 (some (List.replicate 32 0xFF))) State.reset with
      | .next t => some (t.inUse, t.loader.defaulted, t.loader.fault)
      | _ => none)
      = some ({ address := 1, stored := false, period := 1000, nGap := 4, offset := 0, override := false },
          List.replicate 5 true, false) := by decide +kernel

/-- SOFT_RESET waits for its response to leave the holder (R190, R191): an IDLE context whose paths hold makes idle entry anew. -/
theorem test_soft_reset :
    (match exec (.softReset 0 (small 113)) (restedIn .halted) with
      | .next s =>
        match exec (.holderTimerExpiry 4000) s with
        | .next t => some ((s.ctx 0).state, (t.ctx 0).state, t.useCount 0, t.now)
        | _ => none
      | _ => none) = some (.halted, .idle, 6, 4000) := by decide +kernel

/-- IDENTIFY carries no field, so no body is too short for it; WRITE_RECORDS carries 208 bytes for each record, and a body of 8 is
refused for one (R178 stage 4, R182, R194). -/
theorem test_body_lengths :
    (match exec (.identify 0 { ask 1 160 with complete := false }) idle, exec (.writeRecords 0 (small 48) 7 [zeros 208]) idle with
      | .next s, .next t => (s.holder.map (·.response.code), t.holder.map (·.response.code))
      | _, _ => (none, none)) = (some .ok, some .badRequest) := by decide +kernel

/-- An entry of context c. -/
def entryOf (c : Nat) : WaitEntry :=
  { ctx := c, cls := .job, priority := .normal, entryTime := 0, waited := 0, timer := none, raised := false }

/-- A scan that has left context 1 waiting tests the entry behind it, and none ahead of it (R135). -/
theorem test_scan_goes_on :
    (({ idle with waits := [entryOf 1, entryOf 0] } : State).scanNext [1]).map (·.ctx) = some 0
      ∧ (({ idle with waits := [entryOf 0, entryOf 1] } : State).scanNext [1]).map (·.ctx) = none := by decide +kernel

/-- A retarget to 0 brings a point at 1000 to zero with duration 0, and not with a ramp (R136). -/
theorem test_ramp_down_is_no_event :
    let s := idle.setPoint 0 (.set flowCfg { SetRec.fresh 0 with s := 1000, t := 1000 })
    s.bringsZero 0 [{ point := 0, target := 0, ramp := 0 }] false = true
      ∧ s.bringsZero 0 [{ point := 0, target := 0, ramp := 100 }] false = false := by decide +kernel

/-! ### Witnesses of what a statement says beyond its first clauses -/

theorem witness_HeldRecordsNeverChange_loops :
    Purpose.idle.resting = true ∧ ((stepAt idle.records 6).map (·.head.kind)) = some .loopEnd ∧ idle.stepFault 0 6 = none := by
  decide +kernel

theorem witness_QuietReturnPass_stages :
    goodCheck (process 2 12) = true ∧ classify State.reset.inUse.address (process 2 12) = .process 2
      ∧ State.reset.loader.state = .loading ∧ State.reset.agenda = [] ∧ classify idle.inUse.address (process 2 12) = .process 2
      ∧ idle.loader.state ≠ .loading ∧ node.cfg.image = 2 ∧ node.cfg.touch < 12
      ∧ { idle with agenda := [.trigger] }.agenda = .trigger :: [] := by decide +kernel

/-- A part whose node 0 is as given. -/
def noded (x : Node) : State := { idle with nodes := some x :: idle.nodes.drop 1 }

/-- Node 0 with two misses behind it, owned as given. -/
def missed (owner : Owner) : Node := { node with cfg := { node.cfg with owner := owner }, age := 2 }

theorem witness_TouchBytesMoveNodes_reports :
    (noded (missed .shared)).sized = true ∧ (noded (missed .shared)).node 0 = some (missed .shared)
      ∧ (noded (missed (.ctx 5))).node 0 = some (missed (.ctx 5)) ∧ (missed .shared).state = .fresh ∧ (2 : Byte) ≠ 0
      ∧ (missed .shared).cfg.staleAfter ≤ min ((missed .shared).age + 1) 3 ∧ (missed .shared).cfg.required = true
      ∧ (missed .shared).conflict = false ∧ idle.reports.length + 2 ≤ 64
      ∧ (noded { node with state := .stale }).node 0 = some { node with state := .stale } := by decide +kernel

/-- A part in which record 0 is as given and held once. -/
def holding (r : Record) (g : Option Gate) : State :=
  { part (rested .idle) g with records := r :: idle.records.drop 1, useCounts := 1 :: List.replicate 2047 0 }

/-- A part with gate 0 OPEN and flow on in context 0. -/
def flowingOpen : State :=
  { flowing (rested .idle) with gates := (gated .open).gates }

theorem witness_PointWritesFollowTheTable_checks :
    (([pointWrite].map PointWrite.index).Nodup ∧ (∀ x ∈ [pointWrite], idle.checkPoint x = none)
        ∧ pointWrite.index ∈ [pointWrite].map PointWrite.index ∧ 512 ∉ [pointWrite].map PointWrite.index
        ∧ (idle.checkPoint { pointWrite with index := 512 }).isSome = true)
      ∧ (firstFailing (pointChecks { flowFields with direction := none }) = some 0
          ∧ firstFailing (pointChecks { flowFields with edge := some .rise }) = some 13
          ∧ firstFailing (pointChecks flowFields) = none ∧ pointWrite.index < 512)
      ∧ ((at' running).pointInUse 0 (some (.set, flowCfg)) = true ∧ (gated .closed).pointInUse 2 none = true
          ∧ (holding (rec (headOf .process) [.set { point := 0, target := 0, ramp := 0 }]) none).pointInUse 0 none = true
          ∧ (gated .open).pointInUse 2 (some (.set, digitalCfg 1 10 0)) = true
          ∧ flowingOpen.pointInUse 0 (some (.set, flowCfg)) = true ∧ idle.pointInUse 511 none = false)
      ∧ idle.executes (small 20) 20 = true ∧ idle.point 511 = .empty := by decide +kernel

/-- A write of node 0. -/
def nodeZero (owner : Owner) : NodeWrite := { index := 0, content := some { node.cfg with owner := owner } }

theorem witness_NodeWritesMakeSamplesStale_checks :
    (firstFailing (nodeChecks { node.cfg with ring := 0 }) = some 0 ∧ firstFailing (nodeChecks { node.cfg with staleAfter := 4 }) = some 5
        ∧ firstFailing (nodeChecks node.cfg) = none)
      ∧ ((at' running).node 0 = some node ∧ (at' running).ownerBusy .shared = true ∧ (at' running).ownerBusy (.ctx 0) = true)
      ∧ ((at' running).pointEntry 0 = some (.set, flowCfg) ∧ flowCfg.node = 0)
      ∧ (at' running).checkNode (nodeZero .shared) = some (refusal .inUse (some 0) none)
      ∧ idle.checkNode (nodeZero .shared) = none := by decide +kernel

/-- Context 0 stands at the step, its job asking for every report. -/
def reportsAll : State :=
  part { runningAt running with job := some { job := { job 5 with reportAll := true }, startTime := 0, runTime := 0 } } none

theorem witness_TakingDiverts_reports :
    (at' running).reports.length + 2 ≤ 64 ∧ ((at' running).ctx 0).step = some running ∧ running.step.head.report = false
      ∧ ((at' reporting).ctx 0).step = some reporting ∧ reporting.step.head.report = true
      ∧ (reportsAll.ctx 0).isl = .none ∧ ((reportsAll.ctx 0).job.any (·.job.reportAll)) = true ∧ (idle.ctx 0).step = none
      ∧ (waiting.ctx 0).step = some plain ∧ waiting.waits.any (·.ctx == 0) = true := by decide +kernel

/-- A GATE step of gate 0 in MOTION. -/
def moving : StepState := { standing { headOf .gateOpen with gate := some 0 } [] with phase := .motion }

/-- Context 0 at the GATE step, with gate 0 in a state. -/
def awaiting (state : GateState) : State := part (runningAt moving) (some (gateIn state))

theorem witness_ReadingsMoveGates_rest :
    (readingIn .closed 1 0 = some .closedSw ∧ readingIn .opening 1 0 = some .closedSw ∧ readingIn .opening 0 0 = some .mid
        ∧ readingIn .open 0 1 = some .openSw ∧ readingIn .closing 0 1 = some .openSw ∧ readingIn .closing 0 0 = some .mid
        ∧ readingIn .fault 0 1 = some .openSw ∧ readingIn .fault 0 0 = some .mid ∧ readingIn .fault 1 1 = some .both)
      ∧ (switches .opening 0 1).reports.length < 64
      ∧ (((awaiting .open).ctx 0).step = some moving ∧ moving.phase = .motion ∧ (awaiting .open).gate 0 = some (gateIn .open))
      ∧ ((gated .open).ctx 0).step = none ∧ (gated .open).hold 0 = false ∧ (gated .opening).hold 0 = true
      ∧ (gated .fault).gate 0 = some (gateIn .fault) ∧ idle.toTake 0 = none
      ∧ (part { rested .running with flags := 8 } none).toTake 0 = some .operatorAbort := by decide +kernel

theorem witness_GateRequestsMoveGates_refusals :
    (gated .open).executes (small 40) 40 = true ∧ idle.executes (small 40) 40 = true ∧ idle.gate 0 = none
      ∧ (((gated .open).arrived 0).requestConditions (gateIn .open))[0]? = some true
      ∧ (((gated .open).arrived 0).requestConditions (gateIn .open))[1]? = some false
      ∧ ((awaiting .opening).arrived 0).gateStepStands 0 (gateIn .opening) = true
      ∧ (awaiting .opening).executes (small 40) 40 = true ∧ (gated .closed).freshF (some 1) = some 300
      ∧ (gated .closed).freshF (some 5) = some 350 := by decide +kernel

theorem witness_SupplyAndGateWritesAreMade_checks :
    ((at' running).point 0 = .set flowCfg (SetRec.fresh 0) ∧ flowCfg.line = some 0 ∧ ((at' running).ctx 0).state = .running
        ∧ idle.checkSupply { line := 0, budget := true, capacity := 100000 } = none)
      ∧ (firstFailing (gateChecks { gateCfg with owner := 6 }) = some 0 ∧ firstFailing (gateChecks gateCfg) = none
          ∧ firstFailing (idle.gatePoints { gateCfg with openOut := 0 }) = some 2 ∧ firstFailing (idle.gatePoints gateCfg) = none)
      ∧ ((gated .open).checkGate { index := 0, content := some gateCfg } = some (refusal .inUse (some 0) none)
          ∧ (gated .closed).checkGate { index := 1, content := some gateCfg } = some (refusal .inUse (some 1) none)
          ∧ (holding (rec (headOf .process) [.set { point := 2, target := 0, ramp := 0 }]) none).checkGate
              { index := 0, content := some gateCfg } = some (refusal .inUse (some 0) none)
          ∧ (holding (rec { headOf .gateOpen with gate := some 0 } []) (some (gateIn .closed))).checkGate
              { index := 0, content := none } = some (refusal .inUse (some 0) none)
          ∧ (gated .fault).checkGate { index := 0, content := none } = none) := by decide +kernel

/-- A HALTED context with a job that waits. -/
def haltedWithJob : State := part { rested .halted with queue := [job 1] } none

theorem witness_WriteContextEnablesAndDisables_checks :
    (haltedWithJob.quiet = true ∧ haltedWithJob.sized = true ∧ haltedWithJob.executes (small 50) 50 = true
        ∧ (haltedWithJob.arrived 0).checkContext 0 ctxFields false = none ∧ haltedWithJob.reports.length + 1 ≤ 64)
      ∧ (firstFailing (ctxChecks { ctxFields with kind := none }) = some 0 ∧ firstFailing (ctxChecks ctxFields) = none
          ∧ firstFailing (idle.ctxPoints 0 { ctxFields with pressure := some 0 }) = some 1
          ∧ firstFailing (idle.ctxPoints 0 ctxFields) = none)
      ∧ (((at' running).ctx 0).busy = true ∧ ((gated .open).ctx 0).busy = false
          ∧ (gated .open).checkContext 0 ctxFields false = some (refusal .inUse (some 0) none)
          ∧ (gated .open).checkContext 0 ctxFields true = none)
      ∧ ((idle.arrived 0).checkContext 6 ctxFields true = some (refusal .outOfRange (some 6) none)
          ∧ idle.executes (small 50) 50 = true
          ∧ (match (idle.arrived 0).validate 0 (ctxCfgOf { ctxFields with idleStep := 2047 }) with
             | .error (p, e) => some (p, e.reason)
             | .ok _ => none) = some (.idle, .notHead)) := by decide +kernel

theorem witness_SubmittedJobsQueueAndStart_refusals :
    (idle.ctx 5).state = .offline ∧ (idle.ctx 0).state ≠ .offline ∧ ((at' running).ctx 0).job.any (·.job.tag == 5) = true
      ∧ 4 ≤ (full.ctx 0).queue.length
      ∧ (match idle.countJob 0 2047, idle.countJob 0 3 with
         | .error e, .ok ok => some (e.reason, ok.1)
         | _, _ => none) = some (.notHead, [3, 4])
      ∧ idle.executes (small 80) 80 = true
      ∧ (idle.arrived 0).checkSubmit 0 0 3 (some .normal) = some (refusal .outOfRange (some 0) none) := by decide +kernel

theorem witness_CancelAndAbort_taken :
    (let a := (at' running).arrived 0
     (at' running).agenda = [] ∧ (at' running).sized = true ∧ (at' running).executes (small 81) 81 = true
       ∧ (at' running).executes (small 82) 82 = true ∧ (a.ctx 0).active = true ∧ (a.ctx 0).isl = .none ∧ a.hold 0 = false
       ∧ (a.ctx 0).flags = 0 ∧ (a.ctx 0).jobTag = some 5 ∧ ((a.ctx 0).queue.any fun j => j.tag == 5) = false
       ∧ (a.raiseFlag 0 .operatorAbort).toTake 0 = some .operatorAbort)
      ∧ idle.executes (small 81) 81 = true ∧ (idle.ctx 0).jobTag ≠ some 5 ∧ ((idle.ctx 0).queue.any fun j => j.tag == 5) = false := by
  decide +kernel

/-- Those of ClearBringsHaltedToIdle, ParkBringsToRest and WakeBringsToIdle. -/
theorem witness_RestRequests_refusals :
    (haltedWithJob.quiet = true ∧ haltedWithJob.executes (small 83) 83 = true ∧ (haltedWithJob.ctx 0).flags &&& 7 = 0
        ∧ (haltedWithJob.ctx 0).queue ≠ [])
      ∧ idle.executes (small 83) 83 = true ∧ idle.executes (small 84) 84 = true ∧ idle.executes (small 85) 85 = true := by
  decide +kernel

theorem witness_SoftResetWaitsAndUnknownCodesAreRefused_spelled :
    idle.executesFrame (small 83).frame = true ∧ requestCode (small 83).frame ≠ 113
      ∧ isNext (exec (.softReset 0 (small 83)) idle) = true := by decide +kernel

/-- The reason of a walk's refusal. -/
def walkReason (s : State) (purpose : Purpose) (start : Nat) : Option WalkReason :=
  match s.walk 0 purpose start with
  | .ok _ => none
  | .error e => some e.reason

/-- The checks of R68 come after those of R63 to R67: a RETURN with a level open in an EMERGENCY path, and a LOOP_END as a rest step, are
LOOP_UNBALANCED (R64); a RETURN in an EMERGENCY path with no level open breaks a rule of its purpose (R68). -/
theorem test_purpose_is_checked_last :
    walkReason { idle with records := idle.records.set 6 (rec (headOf .ret) []) } .handlerEmergency 5 = some .loopUnbalanced
      ∧ walkReason idle .idle 6 = some .loopUnbalanced
      ∧ (walkReason idle .handlerEmergency 1).isSome = true
      ∧ walkReason idle .handlerEmergency 1 ≠ some .loopUnbalanced := by decide +kernel

/-! ### Witnesses of the clauses on admission, taking, tables and views -/

theorem witness_StoreBeginsAndCompletes_ranges :
    let oks := fun f : PageFields => [decide (1 ≤ f.address ∧ f.address ≤ 254), decide (f.period ≤ 3),
      decide (2 ≤ f.nGap ∧ f.nGap ≤ 15), decide (f.offset ≤ 1344), decide (f.override ≤ 1)]
    (∀ k, k < 5 → (oks pageFull)[k]? = some true) ∧ (oks { pageFull with address := 0 })[0]? = some false
      ∧ (oks { pageFull with override := 2 })[4]? = some false ∧ (∀ j, j < 4 → (oks { pageFull with override := 2 })[j]? = some true)
      ∧ idle.executes (small 112) 112 = true ∧ idle.loader.state = .ready := by decide +kernel

theorem witness_CollectionIsFreshOrStale_again :
    let s := (noded { node with state := .stale }).setPoint 1 (.sample (sampleCfg (.ctx 0) .pressure 0) { seen 300 with stale := true })
    s.point 1 = .sample (sampleCfg (.ctx 0) .pressure 0) { seen 300 with stale := true } ∧ s.nodeFresh 0 = false := by decide +kernel

/-- Step states in ADMIT of a rate-of-rise step, a gate step, one with bands, and one whose only condition is due at admission. -/
def rorStep : StepState := standing { headOf .ror with rorSettle := 1, rorMeasure := 1 } [.set { point := 6, target := 1, ramp := 0 }]
def gateStep (k : StepKind) : StepState := standing { headOf k with gate := some 0 } []
def band (mode : BandMode) : BandItem :=
  { point := 1, mode := mode, low := -10000000, high := 10000000, reference := 0, settle := 0, persist := 0, source := .pressure }
def banded : StepState :=
  standing { headOf .process with zeroOthers := true, maxTime := 1, strikeWindow := 60000 }
    [.set { point := 0, target := 1000, ramp := 60000 }, .band (band .relative), .band { band .absolute with low := 0 }]
def dueAtOnce (all : Bool) : StepState :=
  (standing { headOf .process with endAll := all } [.cond (.time 0), .cond (.below 1 0 0)]).admitted 0

/-- Record 3 is as given. -/
def taking (r : Record) : State := { part (rested .running) (some (gateIn .closed)) with records := idle.records.set 3 r }

theorem witness_AdmissionRaisesReservations_takeUp :
    (let s := part (rested .running) none
     s.sized = true ∧ (s.ctx 0).active = true ∧ (stepAt s.records 3).map (·.head.kind.timed) = some true
       ∧ s.point 0 = .set flowCfg (SetRec.fresh 0) ∧ flowCfg.owner = .ctx 0)
      ∧ ((taking (rec { headOf .gateOpen with gate := some 0 } [])).ctx 0).active = true
      ∧ (stepAt (taking (rec { headOf .gateOpen with gate := some 0 } [])).records 3).map (·.head.kind.timed) = some true := by
  decide +kernel

theorem witness_AdmissionRaisesReservations_start :
    (((at' plain).ctx 0).step = some plain ∧ plain.step.sets = [] ++ { point := 0, target := 1000, ramp := 100 } :: []
        ∧ (∀ k ∈ plain.step.sets, k.point ≠ 6) ∧ (at' plain).point 511 = .empty)
      ∧ (((at' rorStep).ctx 0).step = some rorStep ∧ rorStep.step.head.kind.gate = false ∧ rorStep.step.longestRamp = 0)
      ∧ (((at' (gateStep .gateClose)).ctx 0).step = some (gateStep .gateClose) ∧ (gateStep .gateClose).step.head.kind.gate = true)
      ∧ (((at' banded).ctx 0).step = some banded ∧ banded.step.head.zeroOthers = true ∧ banded.step.longestRamp = 60000
          ∧ banded.step.bands[0]? = some (band .relative) ∧ (banded.step.bands[1]?.map (·.mode)) = some .absolute
          ∧ (banded.step.sets.find? fun x => x.point == 0) = some { point := 0, target := 1000, ramp := 60000 }) := by decide +kernel

theorem witness_AdmissionRaisesReservations_end :
    (((at' banded).modStep 0 (·.admitted 0)).ctx 0).step = some (banded.admitted 0) ∧ (banded.admitted 0).conds = []
      ∧ ((at' running).ctx 0).step = some running ∧ running.phase ≠ .waiting ∧ running.conds ≠ []
      ∧ (∀ k ∈ running.conds, ¬timerDue k.timer (at' running).now = true)
      ∧ (∃ k ∈ (dueAtOnce false).conds, timerDue k.timer (at' (dueAtOnce false)).now = true)
      ∧ (let new := (dueAtOnce false).conds.map fun k => if timerDue k.timer 0 then { k with met := true, timer := none } else k
         endReason false (dueAtOnce false).conds new = some 0 ∧ endReason true (dueAtOnce true).conds new = none) := by decide +kernel

theorem witness_TakingDiverts_points :
    Source.emergencyInput.level 0 = .emergency ∧ Source.operatorAbort.level 0 = .high
      ∧ (at' running).point 0 = .set flowCfg (SetRec.fresh 0) ∧ (at' running).sized = true := by decide +kernel

theorem witness_GateRequestsMoveGates_steps :
    (gated .open).gate 0 = some (gateIn .open) ∧ (gated .closed).gate 0 = some (gateIn .closed)
      ∧ (gated .closing).gate 0 = some (gateIn .closing) := by decide +kernel

theorem witness_ReadsAnswerAndChangeNothing_spans :
    (1 ≤ 1 ∧ 1 ≤ 32 ∧ 512 < 512 + 1 ∧ 32 < 33) ∧ idle.point 511 = .empty ∧ idle.point 0 = .set flowCfg (SetRec.fresh 0)
      ∧ idle.point 1 = .sample (sampleCfg (.ctx 0) .pressure 0) (seen 300) ∧ idle.gate 0 = none
      ∧ (gated .opening).gate 0 = some (gateIn .opening) ∧ (gateIn .opening).timer = some { start := 0, dur := 3000000 }
      ∧ (gateIn .closed).timer = none ∧ (gated .opening).point 2 = .set (digitalCfg 1 10 0) (SetRec.fresh 0)
      ∧ ((gated .opening).ctx 0).cfg.pressure = some 1 ∧ (State.reset.ctx 0).cfg.pressure = none := by decide +kernel

theorem witness_ReadStatusClears_waits :
    (waiting.ctx (entry 0 .job .normal none).ctx).step = some plain := by decide +kernel

/-- What a record's bytes decode to, or where they break their ranges. -/
def faultOf (bs : List Byte) : Option (Option Nat × Option Nat) :=
  match decodeRecord bs with
  | .error e => some (e.slot, e.check)
  | .ok _ => none

/-- A CONT record of ten slots, the last with a SET item that ramps over so many ms. -/
def contBytes (ramp : Nat) : List Byte :=
  leBytes 2 1 ++ zeros 7 ++ zeros 180 ++ encodeItem (.set { point := 0, target := 0, ramp := ramp })

theorem witness_TableWritesAreMade_checks :
    (2048 < 2048 + 1 ∧ idle.executes (ask 48 208) 48 = true ∧ 208 * 1 ≤ bodyLength (ask 48 208).frame)
      ∧ ((holding .empty none).arrived 0).checkRecords 0 [zeros 208] = some (refusal .inUse (some 0) none)
      ∧ faultOf (leBytes 3 1 ++ zeros 207) = some (none, none) ∧ faultOf (leBytes 1 1 ++ leBytes 11 1 ++ zeros 206) = some (none, some 0)
      ∧ faultOf (contBytes 60001) = some (some 9, some 2) ∧ faultOf (contBytes 60000) = none
      ∧ (let s := { idle with groups := { members := [0, 5], holder := none } :: idle.groups.drop 1 }
         s.checkRoughing { group := 0, members := [5] } = some (refusal .inUse (some 0) none)
           ∧ s.checkRoughing { group := 0, members := [0] } = none
           ∧ s.checkRoughing { group := 2, members := [6] } = some (refusal .outOfRange (some 2) none)
           ∧ s.checkRoughing { group := 3, members := [] } = some (refusal .outOfRange (some 3) none)
           ∧ checkEntries RoughingWrite.group s.checkRoughing [] [{ group := 1, members := [] }, { group := 1, members := [] }] =
               some (refusal .badRequest (some 1) none)) := by decide +kernel

theorem witness_SetMaskWritesMasksAndLevels_taken :
    (let s := part { rested .running with flags := 0x8000 } none
     s.agenda = [] ∧ s.sized = true ∧ s.executes (ask 64 32) 64 = true ∧ (∀ l ∈ (List.replicate 16 Level.high).drop 4, l = .low ∨ l = .high)
       ∧ ((s.arrived 0).writeMasks 0 0 (List.replicate 16 .high)).toTake 0 = some .saturation)
      ∧ ¬(∀ l ∈ (List.replicate 16 Level.emergency).drop 4, l = .low ∨ l = .high) ∧ idle.executes (ask 64 32) 64 = true := by
  decide +kernel

end Sys2Proof.Tests
end

section
/-!
A BELOW or ABOVE condition at a collection of its point (R99). The two rows of R99's table for a meeting collection are one
equation: a hold that starts now has lasted 0, so it is long enough exactly where h is 0.
-/
namespace Sys2Proof.Machine

section
variable (now : Time) (h : Nat) (k : Cond)

/-- A meeting collection keeps the hold start, or starts the hold now, and sets the met flag once the hold has lasted h ms. -/
theorem Cond.threshold_of_meeting :
    k.threshold now h true =
      { k with
        holdStart := some (k.holdStart.getD now)
        met := k.met || decide (h * 1000 ≤ (now - k.holdStart.getD now).toNat) } := by
  cases hs : k.holdStart with
  | none => simp [Cond.threshold, hs, beq_eq_decide]
  | some t => simp [Cond.threshold, hs]

/-- A stale collection, or one that does not meet the condition, clears the hold start and the met flag. -/
theorem Cond.threshold_of_not_meeting :
    k.threshold now h false = { k with holdStart := none, met := false } := rfl

/-- R99's table, where a collection meets the condition exactly where `P` holds. -/
theorem Cond.threshold_iff {meets : Bool} {P : Prop} (hP : meets = true ↔ P) :
    (P → (k.threshold now h meets).holdStart = some (k.holdStart.getD now)
        ∧ ((k.threshold now h meets).met = true ↔ k.met = true ∨ h * 1000 ≤ (now - k.holdStart.getD now).toNat))
      ∧ (¬P → (k.threshold now h meets).met = false ∧ (k.threshold now h meets).holdStart = none) := by
  rw [← hP]
  cases meets with
  | true => simp [Cond.threshold_of_meeting]
  | false => simp [Cond.threshold_of_not_meeting]

end

section
variable {s : State} {image len p v h : Nat} {k : Cond}

/-- A condition whose point the pass did not collect stands as it stood. -/
theorem State.evalCond_of_not_collected (hp : k.item.point = some p) (hc : s.collected image len p = none) :
    s.evalCond image len k = k := by
  simp [State.evalCond, hp, hc]

/-- A BELOW condition at a collection of its point. -/
theorem State.evalCond_below {fresh : Bool} (hk : k.item = .below p v h) (hc : s.collected image len p = some fresh) :
    s.evalCond image len k = k.threshold s.now h (fresh && decide (s.fOf p ≤ v)) := by
  simp [State.evalCond, hk, EndItem.point, hc]

/-- An ABOVE condition at a collection of its point. -/
theorem State.evalCond_above {fresh : Bool} (hk : k.item = .above p v h) (hc : s.collected image len p = some fresh) :
    s.evalCond image len k = k.threshold s.now h (fresh && decide (v ≤ s.fOf p)) := by
  simp [State.evalCond, hk, EndItem.point, hc]

end

/-- Settles O34: each condition is R99's table with its own comparison. -/
theorem thresholdsHoldTheirTime : Obligations.ThresholdsHoldTheirTime := by
  intro s image len p v h k
  refine ⟨fun fresh hc hk => ?below, fun fresh hc hk => ?above, fun hc hk => ?notCollected⟩
  case below =>
    rw [State.evalCond_below hk hc]
    exact k.threshold_iff s.now h (by simp)
  case above =>
    rw [State.evalCond_above hk hc]
    exact k.threshold_iff s.now h (by simp)
  case notCollected =>
    have hp : k.item.point = some p := by
      rcases hk with hk | hk <;> rw [hk] <;> rfl
    exact State.evalCond_of_not_collected hp hc

end Sys2Proof.Machine
end

section
/-!
How a request is answered whose frame is executed: carried out where its check passes, and without effect where it is refused (R179). Only
SOFT_RESET leaves a reset behind in the holder (R190), so for every other request the next state is one of these two.
-/
namespace Sys2Proof.Machine

section
variable {s : State} {dt : Nat} {m : Mailbox} {q : Request}

/-- The next state at an executed request that its check passes. -/
theorem State.arriveU_of_passes (h : s.executes m q.code = true) (hb : q.bodyHeld m = true) (hc : q.counted = true)
    (hq : q.code ≠ softResetCode) (hp : q.check (s.arrived dt) = none) :
    (s.advance dt).arriveU m (some q) =
      .next ((q.effect (s.arrived dt)).settle.answered m (q.respond (s.arrived dt) (q.effect (s.arrived dt)).settle)) := by
  rw [State.arriveU_executes s dt m q h hb hc, q.run_of_passes _ hp, beq_false_of_ne hq, Bool.false_and, State.answered]

/-- The next state at an executed request that its check refuses. -/
theorem State.arriveU_of_refused {r : Response} (h : s.executes m q.code = true) (hb : q.bodyHeld m = true)
    (hc : q.counted = true) (hq : q.code ≠ softResetCode) (hr : q.check (s.arrived dt) = some r) :
    (s.advance dt).arriveU m (some q) = .next ((s.arrived dt).answered m r) := by
  rw [State.arriveU_executes s dt m q h hb hc, q.run_of_refused _ _ hr, beq_false_of_ne hq, Bool.false_and, State.answered]

end

/-- An index within its table is no fault. -/
theorem indexFault_of_lt {i size : Nat} (h : i < size) : indexFault i size = none := by
  simp [indexFault, refuseIf, h]

/-- An index past the end of its table is out of range, and is the refusal's subject. -/
theorem indexFault_of_le {i size : Nat} (h : size ≤ i) : indexFault i size = some (refusal .outOfRange (some i) none) := by
  simp [indexFault, refuseIf, h]

/-- A part with the part's sizes has its six contexts. -/
theorem State.length_ctxs_of_sized {s : State} (h : s.sized = true) : s.ctxs.length = Config.contexts := by
  simp only [State.sized, Bool.and_eq_true, beq_iff_eq] at h
  obtain ⟨⟨⟨⟨⟨-, hctxs⟩, -⟩, -⟩, -⟩, -⟩ := h
  exact hctxs

@[simp] theorem State.length_ctxs_arrived (s : State) (dt : Nat) : (s.arrived dt).ctxs.length = s.ctxs.length := by
  simp [State.arrived]

/-- On the arrival state only the interval counts of a context have risen (R1). -/
theorem State.ctx_arrived (s : State) (dt c : Nat) : (s.arrived dt).ctx c = (s.ctx c).advance dt :=
  s.ctxs.getD_map (d := Ctx.reset) (n := c) (Ctx.advance dt)

@[simp] theorem Ctx.advance_flags (dt : Nat) (x : Ctx) : (x.advance dt).flags = x.flags := rfl

@[simp] theorem State.clearFlags_agenda (s : State) (c : Nat) (sources : BitVec 16) :
    (s.clearFlags c sources).agenda = s.agenda := rfl

/-- The flags that a cleared set of sources leaves (R159). -/
theorem State.flags_clearFlags {s : State} {c : Nat} (sources : BitVec 16) (h : c < s.ctxs.length) :
    ((s.clearFlags c sources).ctx c).flags = (s.ctx c).flags &&& ~~~sources := by
  simp [State.clearFlags, h]

/-- The body of an executed CLEAR_REQUEST is held: one byte is all that the manual asks of it (log 2). -/
theorem clearRequestRequest_bodyHeld {s : State} {m : Mailbox} (c : Nat) (sources : BitVec 16) (h : s.executes m 65 = true) :
    (clearRequestRequest c sources).bodyHeld m = true :=
  Request.bodyHeld_of_executes _ s m h rfl (Nat.le_refl 1)

/-- CLEAR_REQUEST is executed as the request of its row. -/
theorem exec_clearRequest (dt : Nat) (m : Mailbox) (c : Nat) (sources : BitVec 16) (s : State) :
    exec (.clearRequest dt m c sources) s = (s.advance dt).arriveU m (some (clearRequestRequest c sources)) := rfl

/-- Settles O54: the request leaves no work behind, so settling after it changes nothing, and the flags it answers are those of the
arrival state before and after the clearing. -/
theorem clearRequestClearsFlags : Obligations.ClearRequestClearsFlags := by
  intro s dt m c sources hagenda hsized hexec
  have hbody := clearRequestRequest_bodyHeld c sources hexec
  have hcode : (clearRequestRequest c sources).code ≠ softResetCode := by simp [clearRequestRequest, softResetCode]
  rw [exec_clearRequest]
  refine ⟨fun hc => ?accepted, fun hc => ?refused⟩
  case accepted =>
    have hlt : c < (s.arrived dt).ctxs.length := by
      rw [State.length_ctxs_arrived, State.length_ctxs_of_sized hsized]
      exact Nat.lt_succ_of_le hc
    have hflags : ((s.arrived dt).ctx c).flags = (s.ctx c).flags := by simp [State.ctx_arrived]
    have hsettle : ((s.arrived dt).clearFlags c sources).settle = (s.arrived dt).clearFlags c sources :=
      State.settle_of_nil _ (by simp [hagenda])
    rw [State.arriveU_of_passes hexec hbody rfl hcode (indexFault_of_lt (Nat.lt_succ_of_le hc))]
    simp only [clearRequestRequest, hsettle, State.flags_clearFlags sources hlt, hflags]
    rw [State.clearFlags, hflags]
  case refused =>
    exact State.arriveU_of_refused hexec hbody rfl hcode (indexFault_of_le hc)

end Sys2Proof.Machine
end

section
/-!
The load (R185): each value in use is its page field where the field lies in its range of Table 10-4, and its default elsewhere. The
address is the straps' where the page asks for them, and where its own is out of range.
-/
namespace Sys2Proof.Machine

/-! ### The straps -/

/-- A strap value of 0 or 255 is no address, and gives 1. -/
theorem strappedAddress_of_end {straps : Byte} (h : straps = 0 ∨ straps = 255) : strappedAddress straps = 1 :=
  if_pos h

/-- Every other strap value is the address itself. -/
theorem strappedAddress_of_ne {straps : Byte} (h0 : straps ≠ 0) (h255 : straps ≠ 255) :
    strappedAddress straps = straps.toNat :=
  if_neg (not_or.mpr ⟨h0, h255⟩)

/-! ### The values in use, field by field -/

section
variable (straps : Byte) (f : PageFields)

/-- The page asks for the straps only with an override field of 1: every other nonzero value is out of range. -/
theorem inUseOf_override : (inUseOf straps f).override = decide (f.override = 1) := by
  have hrange : f.override = 1 → f.override ≤ 1 := Nat.le_of_eq
  simpa [inUseOf, pageChecks, beq_eq_decide] using hrange

/-- The source of the address is STORED where nothing calls for the straps. -/
theorem inUseOf_stored : (inUseOf straps f).stored = true ↔ ¬(f.override = 1 ∨ f.address = 0 ∨ 254 < f.address) := by
  have hstored : (inUseOf straps f).stored = (!(inUseOf straps f).override && within 1 254 f.address) := by
    simp [inUseOf, pageChecks]
  rw [hstored, inUseOf_override]
  simp only [within, Bool.and_eq_true, Bool.not_eq_true', decide_eq_true_eq, decide_eq_false_iff_not]
  omega

/-- The source says which of the two addresses is in use. -/
theorem inUseOf_address_eq_ite_stored :
    (inUseOf straps f).address = if (inUseOf straps f).stored = true then f.address else strappedAddress straps := by
  simp only [inUseOf, Bool.not_eq_true', ← Bool.not_eq_true, ite_not]

/-- The address in use. -/
theorem inUseOf_address :
    (inUseOf straps f).address =
      if f.override = 1 ∨ f.address = 0 ∨ 254 < f.address then strappedAddress straps else f.address := by
  simp only [inUseOf_address_eq_ite_stored, inUseOf_stored, ite_not]

/-- P: one of the four period codes, 1000 for any other. -/
theorem inUseOf_period :
    (inUseOf straps f).period =
      if f.period = 0 then 250 else if f.period = 1 then 500 else if f.period = 3 then 2000 else 1000 := by
  have hform : (inUseOf straps f).period = if f.period ≤ 3 then periodOf f.period else 1000 := by
    simp [inUseOf, pageChecks]
  rw [hform]
  match f.period with
  | 0 | 1 | 2 | 3 => rfl
  | n + 4 => simp

theorem inUseOf_nGap : (inUseOf straps f).nGap = if 2 ≤ f.nGap ∧ f.nGap ≤ 15 then f.nGap else 4 := by
  simp [inUseOf, pageChecks, within]

theorem inUseOf_offset : (inUseOf straps f).offset = if f.offset ≤ 1344 then f.offset else 0 := by
  simp [inUseOf, pageChecks]

end

/-- A field joins the defaulted set where it lies outside its range. -/
theorem defaultedFields_eq (f : PageFields) :
    defaultedFields f =
      [decide (f.address = 0 ∨ 254 < f.address), decide (3 < f.period), decide (f.nGap < 2 ∨ 15 < f.nGap),
       decide (1344 < f.offset), decide (1 < f.override)] := by
  simp only [defaultedFields, pageChecks, List.map, within, ← Bool.decide_and, ← decide_not, not_and_or, Nat.not_le,
    Nat.lt_one_iff]

/-! ### A blank page and a memory that does not answer -/

/-- A blank page: every byte 0xFF. -/
def blankPage : List Byte := List.replicate 32 0xFF

/-- Every field of a blank page has all its bits set. -/
theorem pageFields_blankPage :
    pageFields blankPage = { address := 255, period := 255, nGap := 255, offset := 65535, override := 255 } := by decide

/-- Every field of a blank page is out of range. -/
theorem defaultedFields_blankPage : defaultedFields (pageFields blankPage) = [true, true, true, true, true] := by
  rw [pageFields_blankPage]
  rfl

/-- A blank page gives the defaults of Table 10-4. -/
theorem inUseOf_blankPage (straps : Byte) :
    inUseOf straps (pageFields blankPage) =
      { address := strappedAddress straps, stored := false, period := 1000, nGap := 4, offset := 0, override := false } := by
  rw [pageFields_blankPage]
  rfl

/-- A memory that does not answer loads as a blank page, with CONFIG_FAULT set. -/
theorem State.endLoad_none (s : State) :
    s.endLoad none =
      { s with
        loader := { s.loader with
          state := .ready, page := blankPage, defaulted := [true, true, true, true, true], fault := true, last := .none }
        inUse := { address := strappedAddress s.straps, stored := false, period := 1000, nGap := 4, offset := 0,
                   override := false } } := by
  rw [← defaultedFields_blankPage, ← inUseOf_blankPage]
  rfl

/-- A blank page that is read differs from no answer in CONFIG_FAULT alone: both leave the same page image. -/
theorem State.endLoad_blankPage (s : State) :
    s.endLoad (some blankPage) = { s.endLoad none with loader := { (s.endLoad none).loader with fault := false } } :=
  rfl

/-- Settles O11: Table 10-4 field by field for any page, and the blank page for both ways a load can find nothing stored. -/
theorem loadFormsTheValuesInUse : Obligations.LoadFormsTheValuesInUse := by
  refine ⟨fun straps f => ?fields, strappedAddress_of_end (.inl rfl), strappedAddress_of_end (.inr rfl),
    fun _ => strappedAddress_of_ne, fun s => ?nothingStored⟩
  case fields =>
    exact ⟨inUseOf_address straps f, inUseOf_stored straps f, inUseOf_period straps f, inUseOf_nGap straps f,
      inUseOf_offset straps f, by simp [inUseOf_override], defaultedFields_eq f⟩
  case nothingStored =>
    refine ⟨s.endLoad_blankPage, ?_⟩
    simp only [State.endLoad_none, and_self]

end Sys2Proof.Machine
end

section
/-!
READ_REPORTS and READ_COUNTERS (R198, R201). A count out of range is refused before the request is looked at further (R178 stage 5);
otherwise the request leaves no work behind, and what it removes or clears is all that it changes.
-/
namespace Sys2Proof.Machine

section
variable {s : State} {dt : Nat} {m : Mailbox} {q : Request}

/-- The arrival of a frame whose request is executed: the request is performed on the arrival state. -/
theorem State.arriveU_performs (h : s.executes m q.code = true) :
    (s.advance dt).arriveU m (some q) = .next ((s.arrived dt).perform m q) := by
  simp only [State.executes, State.executesFrame, Bool.and_eq_true, beq_iff_eq, bne_iff_ne, ne_eq, Bool.not_eq_true',
    Option.isNone_iff_eq_none] at h
  obtain ⟨⟨⟨⟨⟨⟨hgood, hclass⟩, hholder⟩, hloader⟩, hfit⟩, hcode⟩, -⟩ := h
  have hclass' : classify ((s.advance dt).goodArrival).inUse.address m.frame = .mailbox := by simpa using hclass
  have hheld : ¬((s.arrived dt).holder.isSome = true ∨ (s.arrived dt).loader.state = .loading) := by
    simp [State.arrived, hholder, hloader]
  simp only [State.arriveU, hgood, hclass', State.execute, hfit, hcode, Bool.false_eq_true, if_true, if_false]
  exact congrArg Host.Outcome.next (if_neg hheld)

/-- A count out of range is refused at stage 5 of R178, and the request has no effect. -/
theorem State.arriveU_of_not_counted (h : s.executes m q.code = true) (hc : q.counted = false) :
    (s.advance dt).arriveU m (some q) = .next ((s.arrived dt).answered m badRequest) := by
  rw [State.arriveU_performs h, State.perform, hc, Bool.and_false, if_neg Bool.false_ne_true, State.answered]

/-- The next state at an executed request that its check passes and that leaves no work behind: what it does is its effect alone. -/
theorem State.arriveU_of_passes_of_nil (h : s.executes m q.code = true) (hb : q.bodyHeld m = true) (hc : q.counted = true)
    (hq : q.code ≠ softResetCode) (hp : q.check (s.arrived dt) = none) (hn : (q.effect (s.arrived dt)).agenda = []) :
    (s.advance dt).arriveU m (some q) =
      .next ((q.effect (s.arrived dt)).answered m (q.respond (s.arrived dt) (q.effect (s.arrived dt)))) := by
  rw [State.arriveU_of_passes h hb hc hq hp, State.settle_of_nil _ hn]

end

/-- A number lies within its bounds. -/
theorem within_eq_true_of_le {a b n : Nat} (ha : a ≤ n) (hb : n ≤ b) : within a b n = true := by
  simp [within, ha, hb]

/-- A count of 0, or one above the most that a request takes, is out of range. -/
theorem within_one_eq_false {most n : Nat} (h : n = 0 ∨ most < n) : within 1 most n = false := by
  simp only [within, Bool.and_eq_false_iff, decide_eq_false_iff_not]
  omega

/-- A span that ends within its table is no fault. -/
theorem spanFault_of_le {start count size : Nat} (h : start + count ≤ size) : spanFault start count size = none := by
  simp [spanFault, refuseIf, h]

/-- A span past the end of its table is out of range, and names no subject. -/
theorem spanFault_of_lt {start count size : Nat} (h : size < start + count) :
    spanFault start count size = some (refusal .outOfRange none none) := by
  simp [spanFault, refuseIf, h]

/-! ### READ_REPORTS -/

/-- Bytes 12 to 31 of a report, of every kind. -/
@[simp] theorem ReportBody.length_bytes (b : ReportBody) : b.bytes.length = 20 := by
  cases b <;> simp [ReportBody.bytes]

/-- A report record has 32 bytes (R195). -/
@[simp] theorem Report.length_bytes (r : Report) : r.bytes.length = 32 := by
  simp [Report.bytes]

section
variable {s : State} {dt : Nat} {m : Mailbox} {count : Nat}

/-- READ_REPORTS is executed as the request of its row. -/
theorem exec_readReports (dt : Nat) (m : Mailbox) (count : Nat) (s : State) :
    exec (.readReports dt m count) s = (s.advance dt).arriveU m (some (readReportsRequest count)) := rfl

@[simp] theorem State.arrived_lost (s : State) (dt : Nat) : (s.arrived dt).lost = s.lost := rfl

/-- READ_REPORTS with a count in range removes the oldest reports, and answers them with what the queue then holds. -/
theorem exec_readReports_of_counted (h : s.executes m 96 = true) (hn : s.agenda = []) (h1 : 1 ≤ count) (h8 : count ≤ 8) :
    exec (.readReports dt m count) s =
      .next ({ s.arrived dt with reports := s.reports.drop count }.answered m
        (okay (.reports (s.reports.length - count) s.lost ((s.reports.take count).map Report.bytes)))) := by
  have hbody : (readReportsRequest count).bodyHeld m = true := Request.bodyHeld_of_executes _ s m h rfl (Nat.le_refl 1)
  have hcode : (readReportsRequest count).code ≠ softResetCode := by simp [readReportsRequest, softResetCode]
  have hcounted : (readReportsRequest count).counted = true := within_eq_true_of_le h1 h8
  rw [exec_readReports, State.arriveU_of_passes_of_nil h hbody hcounted hcode rfl hn]
  simp only [readReportsRequest, State.arrived_reports, State.arrived_lost, List.length_drop]

end

/-- Settles O47: the request leaves no work behind, so the depth it answers is that of the queue it has shortened. -/
theorem readReportsDrainsTheQueue : Obligations.ReadReportsDrainsTheQueue :=
  ⟨fun _ _ _ _ h =>
    ⟨exec_readReports_of_counted h, fun hc => State.arriveU_of_not_counted h (within_one_eq_false hc)⟩,
   Report.length_bytes⟩

/-! ### READ_COUNTERS -/

/-- A counter's four bytes hold its value below its overflow flag: the word does not wrap. -/
theorem Counter.toNat_word {k : Counter} (h : k.value ≤ 2147483647) :
    k.word.toNat = k.value + flagBit k.overflow 2147483648 := by
  have hflag : flagBit k.overflow 2147483648 ≤ 2147483648 := by
    unfold flagBit; split <;> omega
  rw [Counter.word, BitVec.toNat_ofNat, Nat.mod_eq_of_lt]
  omega

/-- The low 31 bits of a counter's word are its value, and the top bit its overflow flag (R201). -/
theorem Counter.word_fields {k : Counter} (h : k.value ≤ 2147483647) :
    k.word.toNat % 2147483648 = k.value ∧ (2147483648 ≤ k.word.toNat ↔ k.overflow = true) := by
  rw [Counter.toNat_word h]
  cases hk : k.overflow with
  | false => simp only [flagBit, Bool.false_eq_true, if_false, iff_false]; omega
  | true => simp only [flagBit, if_true, iff_true]; omega

/-- Clearing zeroes the counters of its range, and no other (R201). -/
theorem State.getElem?_clearCounters (s : State) (start count n : Nat) :
    (s.clearCounters start count).counters[n]? =
      s.counters[n]?.map fun k => if start ≤ n ∧ n < start + count then { value := 0, overflow := false } else k := by
  simp [State.clearCounters, getElem?_mapFrom]

/-- Clearing touches the counters only, so it commutes with holding a response. -/
theorem State.clearCounters_answered (s : State) (start count : Nat) (m : Mailbox) (r : Response) :
    (s.clearCounters start count).answered m r =
      { s.answered m r with counters := (s.clearCounters start count).counters } := rfl

section
variable {s : State} {dt : Nat} {m : Mailbox} {start count : Nat}

/-- READ_COUNTERS is executed as the request of its row. -/
theorem exec_readCounters (dt : Nat) (m : Mailbox) (start count : Nat) (clear : Bool) (s : State) :
    exec (.readCounters dt m start count clear) s = (s.advance dt).arriveU m (some (readCountersRequest start count clear)) := rfl

/-- The body of an executed READ_COUNTERS is held: one byte is all that the manual asks of it (log 2). -/
theorem readCountersRequest_bodyHeld (start count : Nat) (clear : Bool) (h : s.executes m 97 = true) :
    (readCountersRequest start count clear).bodyHeld m = true :=
  Request.bodyHeld_of_executes _ s m h rfl (Nat.le_refl 1)

/-- READ_COUNTERS is not SOFT_RESET. -/
theorem readCountersRequest_code_ne (start count : Nat) (clear : Bool) :
    (readCountersRequest start count clear).code ≠ softResetCode := by
  simp [readCountersRequest, softResetCode]

/-- READ_COUNTERS of a range within the bank answers the counters as they stood on arrival, cleared after that where it is asked to. -/
theorem exec_readCounters_of_span (clear : Bool) (h : s.executes m 97 = true) (hn : s.agenda = []) (h1 : 1 ≤ count)
    (h64 : count ≤ 64) (hspan : start + count ≤ Config.counters) :
    exec (.readCounters dt m start count clear) s =
      .next ((if clear then (s.arrived dt).clearCounters start count else s.arrived dt).answered m
        (okay (.counters start count (slice start count fun n => ((s.arrived dt).counter n).word)))) := by
  have hnil : ((readCountersRequest start count clear).effect (s.arrived dt)).agenda = [] := by
    cases clear <;> exact hn
  exact State.arriveU_of_passes_of_nil h (readCountersRequest_bodyHeld start count clear h) (within_eq_true_of_le h1 h64)
    (readCountersRequest_code_ne start count clear) (spanFault_of_le hspan) hnil

/-- READ_COUNTERS of a range past the bank is refused, and clears nothing. -/
theorem exec_readCounters_of_past (clear : Bool) (h : s.executes m 97 = true) (h1 : 1 ≤ count) (h64 : count ≤ 64)
    (hpast : Config.counters < start + count) :
    exec (.readCounters dt m start count clear) s = .next ((s.arrived dt).answered m (refusal .outOfRange none none)) :=
  State.arriveU_of_refused h (readCountersRequest_bodyHeld start count clear h) (within_eq_true_of_le h1 h64)
    (readCountersRequest_code_ne start count clear) (spanFault_of_lt hpast)

end

/-- Settles O48: both forms answer the counters of the arrival state, which has counted the request's own frame; clearing follows. -/
theorem readCountersReturnsAndClears : Obligations.ReadCountersReturnsAndClears := by
  intro s dt m start count h
  refine ⟨fun hn h1 h64 hspan => ⟨?read, ?clear⟩, fun clear hc => ?badCount, fun clear h1 h64 hpast => ?past,
    fun k => Counter.word_fields⟩
  case read => exact exec_readCounters_of_span false h hn h1 h64 hspan
  case clear =>
    refine ⟨_, exec_readCounters_of_span true h hn h1 h64 hspan, State.clearCounters_answered .., fun n k hk => ?_⟩
    change ((s.arrived dt).clearCounters start count).counters[n]? = _
    rw [State.getElem?_clearCounters, hk, Option.map_some]
  case badCount => exact State.arriveU_of_not_counted h (within_one_eq_false hc)
  case past => exact exec_readCounters_of_past clear h h1 h64 hpast

end Sys2Proof.Machine
end

section
/-!
The wire form of step records: what a field reads of the bytes that were written, item by item, slot by slot and record by record (R194,
Tables 10-10 and 10-11), and that what a record write accepts is in range (R58).
-/
namespace Sys2Proof.Machine

/-! ### Fields of bytes -/

theorem byteAt_eq_leAt (bs : List Byte) (k : Nat) : byteAt bs k = leAt bs k 1 := by simp [leAt]

/-- A field behind some bytes is read of the bytes that follow. -/
theorem leAt_append_right (xs ys : List Byte) (k n : Nat) (h : xs.length ≤ k) :
    leAt (xs ++ ys) k n = leAt ys (k - xs.length) n := by
  induction n generalizing k with
  | zero => rfl
  | succ n ih =>
    rw [leAt, leAt, ih (k + 1) (by omega), byteAt, byteAt, List.getD_append_right _ _ _ _ h, Nat.sub_add_comm h]

/-- A field reads back the value that was written, modulo the field's size. -/
theorem leAt_leBytes (v n : Nat) (ys : List Byte) : leAt (leBytes v n ++ ys) 0 n = v % 256 ^ n := by
  induction n generalizing v with
  | zero => simp [leAt, Nat.mod_one]
  | succ n ih =>
    have hrest : leAt (leBytes v (n + 1) ++ ys) 1 n = leAt (leBytes (v / 256) n ++ ys) 0 n :=
      leAt_append_right [BitVec.ofNat 8 v] (leBytes (v / 256) n ++ ys) 1 n (Nat.le_refl 1)
    have hbyte : byteAt (leBytes v (n + 1) ++ ys) 0 = v % 256 := by simp [leBytes, byteAt]
    rw [leAt, hrest, ih, hbyte, Nat.pow_succ', Nat.mod_mul]

theorem leAt_lt (bs : List Byte) (k n : Nat) : leAt bs k n < 256 ^ n := by
  induction n generalizing k with
  | zero => simp [leAt]
  | succ n ih =>
    have hbyte : byteAt bs k < 256 := (bs.getD k 0).isLt
    have hrest := ih (k + 1)
    rw [leAt, Nat.pow_succ]
    omega

/-- A field of bytes that begin with another field. -/
theorem leAt_behind (v m k n : Nat) (ys : List Byte) (h : m ≤ k) : leAt (leBytes v m ++ ys) k n = leAt ys (k - m) n := by
  simpa using leAt_append_right (leBytes v m) ys k n (by simpa using h)

/-- A two's complement field reads back its value. -/
theorem signed_roundtrip {v : Int} (hlo : -2147483648 ≤ v) (hhi : v < 2147483648) :
    (BitVec.ofNat 32 (signedCode v)).toInt = v := by
  rw [signedCode, BitVec.ofNat_toNat, BitVec.setWidth_eq, BitVec.toInt_ofInt]
  exact Int.bmod_eq_of_le (by omega) (by omega)

theorem signedCode_lt (v : Int) : signedCode v < 256 ^ 4 := (BitVec.ofInt 32 v).isLt

/-! ### Checks -/

/-- Fields that pass all checks give their value. -/
theorem checked_of_all {α : Type} {oks : List Bool} (x : α) (h : ∀ b ∈ oks, b = true) : checked oks x = .ok x := by
  have : oks.findIdx? (!·) = none := by simpa [List.findIdx?_eq_none_iff] using h
  rw [checked, this]

/-- What passes its checks passed each of them. -/
theorem checked_eq_ok {α : Type} {oks : List Bool} {x y : α} (h : checked oks x = .ok y) : x = y ∧ ∀ b ∈ oks, b = true := by
  unfold checked at h
  split at h
  · cases h
  · next hn => exact ⟨by simpa using h, by simpa [List.findIdx?_eq_none_iff] using hn⟩

/-! ### Items -/

theorem length_encodeItem (i : Item) : (encodeItem i).length = 20 := by
  rcases i with _ | i | i | (_ | _ | _ | _) <;> simp [encodeItem]

/-- The fields of an item's bytes are read one behind the other. -/
theorem decodeItem_encodeItem (i : Item) (h : i.inRange = true) : decodeItem (encodeItem i) = .ok i := by
  rcases i with _ | i | i | (t | ⟨p, v, d⟩ | ⟨p, v, d⟩ | ⟨p, v⟩)
  · rfl
  case set =>
    simp only [Item.inRange, Bool.and_eq_true, decide_eq_true_eq] at h
    simp only [maxValue, Config.points] at h
    obtain ⟨⟨hp, ht⟩, hr⟩ := h
    have hp' : i.point % 256 ^ 2 = i.point := Nat.mod_eq_of_lt (by omega)
    have ht' : i.target % 256 ^ 4 = i.target := Nat.mod_eq_of_lt (by omega)
    have hr' : i.ramp % 256 ^ 2 = i.ramp := Nat.mod_eq_of_lt (by omega)
    simp only [decodeItem, encodeItem, byteAt_eq_leAt, List.append_assoc, leAt_behind, leAt_leBytes, Nat.le_refl, Nat.reduceLeDiff,
      Nat.reduceSub, hp', ht', hr']
    exact checked_of_all _ (by simp [hp, ht, hr, maxValue, Config.points])
  case band =>
    obtain ⟨point, mode, low, high, reference, settle, persist, source⟩ := i
    simp only [Item.inRange, Bool.and_eq_true, decide_eq_true_eq] at h
    simp only [maxMs, Config.points] at h
    obtain ⟨⟨⟨⟨⟨⟨hp, hlo⟩, hle⟩, hhi⟩, href⟩, hs⟩, hper⟩ := h
    have hp' : point % 256 ^ 2 = point := Nat.mod_eq_of_lt (by omega)
    have href' : reference % 256 ^ 2 = reference := Nat.mod_eq_of_lt (by omega)
    have hs' : settle % 256 ^ 3 = settle := Nat.mod_eq_of_lt (by omega)
    have hper' : persist % 256 ^ 3 = persist := Nat.mod_eq_of_lt (by omega)
    have hlo' : -2147483648 ≤ low := by cases mode <;> simp only at hlo <;> omega
    have hlow : (BitVec.ofNat 32 (signedCode low % 256 ^ 4)).toInt = low := by
      rw [Nat.mod_eq_of_lt (signedCode_lt low)]; exact signed_roundtrip hlo' (by omega)
    have hhigh : (BitVec.ofNat 32 (signedCode high % 256 ^ 4)).toInt = high := by
      rw [Nat.mod_eq_of_lt (signedCode_lt high)]; exact signed_roundtrip (by omega) (by omega)
    cases mode <;> simp only at hlo <;> cases source <;>
      simp only [decodeItem, decodeBand, encodeItem, byteAt_eq_leAt, List.append_assoc, leAt_behind, leAt_leBytes, Nat.le_refl,
        Nat.reduceLeDiff, Nat.reduceSub, hp', href', hs', hper', signedAt, hlow, hhigh]
    all_goals exact checked_of_all _ (by simpa [Config.points, maxMs, hp, href, hs, hper, hle, hhi] using by omega)
  case time =>
    simp only [Item.inRange, decide_eq_true_eq] at h
    simp only [maxMs] at h
    have ht' : t % 256 ^ 4 = t := Nat.mod_eq_of_lt (by omega)
    simp only [decodeItem, decodeEnd, encodeItem, byteAt_eq_leAt, List.append_assoc, leAt_behind, leAt_leBytes, Nat.le_refl,
      Nat.reduceLeDiff, Nat.reduceSub, ht']
    exact checked_of_all _ (List.forall_mem_singleton.mpr (decide_eq_true h))
  case input =>
    simp only [Item.inRange, decide_eq_true_eq] at h
    simp only [Config.points] at h
    have hp' : p % 256 ^ 2 = p := Nat.mod_eq_of_lt (by omega)
    cases v <;>
      simp only [decodeItem, decodeEnd, encodeItem, byteAt_eq_leAt, List.append_assoc, leAt_behind, leAt_leBytes, Nat.le_refl,
        Nat.reduceLeDiff, Nat.reduceSub, hp', flagBit]
    all_goals exact checked_of_all _ (by simp [h, Config.points])
  all_goals
    simp only [Item.inRange, Bool.and_eq_true, decide_eq_true_eq] at h
    simp only [maxValue, maxMs, Config.points] at h
    obtain ⟨⟨hp, hv⟩, hd⟩ := h
    have hp' : p % 256 ^ 2 = p := Nat.mod_eq_of_lt (by omega)
    have hv' : v % 256 ^ 4 = v := Nat.mod_eq_of_lt (by omega)
    have hd' : d % 256 ^ 4 = d := Nat.mod_eq_of_lt (by omega)
    simp only [decodeItem, decodeEnd, encodeItem, byteAt_eq_leAt, List.append_assoc, leAt_behind, leAt_leBytes, Nat.le_refl,
      Nat.reduceLeDiff, Nat.reduceSub, hp', hv', hd']
    exact checked_of_all _ (by simp [hp, hv, hd, maxValue, maxMs, Config.points])

/-- An item that its checks accept is in range (Tables 4-2 to 4-4). -/
theorem inRange_of_decodeItem {bs : List Byte} {i : Item} (h : decodeItem bs = .ok i) : i.inRange = true := by
  unfold decodeItem at h
  split at h
  · cases h; rfl
  · obtain ⟨rfl, hall⟩ := checked_eq_ok h
    simpa [Item.inRange, and_assoc] using hall
  · obtain ⟨rfl, hall⟩ := checked_eq_ok h
    simp only [List.forall_mem_cons, Bool.and_eq_true] at hall
    obtain ⟨hp, -, ⟨hlow, -⟩, ⟨⟨-, hhigh⟩, hle⟩, href, hsettle, hpersist, -, -⟩ := hall
    simp only [Item.inRange, Bool.and_eq_true]
    exact ⟨⟨⟨⟨⟨⟨hp, hlow⟩, hle⟩, hhigh⟩, href⟩, hsettle⟩, hpersist⟩
  · unfold decodeEnd at h
    dsimp only at h
    split at h <;> obtain ⟨rfl, hall⟩ := checked_eq_ok h <;> simp_all [Item.inRange]

/-! ### Slots -/

/-- The slots of a record read back one behind the other. -/
theorem decodeSlots_encode (xs : List Byte) (is : List Item) (ys : List Byte) (slot : Nat) (h : is.all Item.inRange = true) :
    decodeSlots (xs ++ (is.flatMap encodeItem ++ ys)) xs.length slot is.length = .ok is := by
  induction is generalizing xs slot with
  | nil => rfl
  | cons i is ih =>
    simp only [List.all_cons, Bool.and_eq_true] at h
    have hitem : ((xs ++ ((i :: is).flatMap encodeItem ++ ys)).drop xs.length).take 20 = encodeItem i := by
      rw [List.drop_left, List.flatMap_cons, List.append_assoc]
      exact List.take_left' (length_encodeItem i)
    have hrest := ih (xs ++ encodeItem i) (slot + 1) h.2
    rw [List.length_append, length_encodeItem, List.append_assoc] at hrest
    rw [List.length_cons, decodeSlots, hitem, decodeItem_encodeItem i h.1]
    simp only [List.flatMap_cons, List.append_assoc, hrest]

theorem decodeSlots_eq_ok {bs : List Byte} {k slot n : Nat} {is : List Item} (h : decodeSlots bs k slot n = .ok is) :
    is.length = n ∧ is.all Item.inRange = true := by
  induction n generalizing k slot is with
  | zero => cases h; exact ⟨rfl, rfl⟩
  | succ n ih =>
    unfold decodeSlots at h
    split at h
    · cases h
    · next i hi =>
      split at h
      · cases h
      · next rest hrest =>
        cases h
        obtain ⟨hlen, hall⟩ := ih hrest
        exact ⟨by simp [hlen], by simp [inRange_of_decodeItem hi, hall]⟩

theorem length_flatMap_encodeItem (is : List Item) : (is.flatMap encodeItem).length = 20 * is.length := by
  induction is with
  | nil => rfl
  | cons i is ih => simp [length_encodeItem, ih]; omega

/-! ### Records -/

theorem stepKindOf_code (k : StepKind) : stepKindOf (stepKindCode k) = some k := by cases k <;> rfl

theorem stepKindCode_lt (k : StepKind) : stepKindCode k < 11 := by cases k <;> decide

/-- The 32 bytes of a HEAD record before its slots (Table 10-10). -/
def encodeHead (h : Head) (more : Bool) : List Byte :=
  leBytes (1 + flagBit more 128) 1 ++ leBytes (stepKindCode h.kind) 1
    ++ leBytes (flagBit h.report 1 + flagBit h.zeroOthers 2 + flagBit h.creditTime 4 + flagBit h.endAll 8) 1
    ++ leBytes (h.group.getD 3 + 16 * h.gate.getD 8) 1 ++ leBytes (nextCode h.next) 2 ++ leBytes h.admitTimeout 3
    ++ leBytes h.maxTime 3 ++ leBytes h.rorSettle 3 ++ leBytes h.rorMeasure 3 ++ leBytes h.rorLimit 4
    ++ leBytes h.loopCount 2 ++ leBytes h.strikeWindow 2 ++ zeros 6

/-- The group and the gate share a byte: two bits, and the upper four. -/
theorem group_gate_roundtrip (group gate : Option Nat) (hgroup : group.all (· < Config.groups) = true)
    (hgate : gate.all (· < Config.gates) = true) :
    group.getD 3 + 16 * gate.getD 8 < 256 ∧ gate.getD 8 ≤ 8
      ∧ (if (group.getD 3 + 16 * gate.getD 8) % 4 = 3 then none else some ((group.getD 3 + 16 * gate.getD 8) % 4)) = group
      ∧ (group.getD 3 + 16 * gate.getD 8) / 16 = gate.getD 8 ∧ (if gate.getD 8 = 8 then none else some (gate.getD 8)) = gate := by
  have hg : ∀ a, group = some a → a < 3 := fun a e => by rw [e, Option.all_some] at hgroup; exact of_decide_eq_true hgroup
  have hv : ∀ a, gate = some a → a < 8 := fun a e => by rw [e, Option.all_some] at hgate; exact of_decide_eq_true hgate
  cases group with
  | none =>
    cases gate with
    | none => simp
    | some b =>
      have := hv b rfl
      simp only [Option.getD_none, Option.getD_some]
      refine ⟨by omega, by omega, ?_, by omega, ?_⟩
      · rw [if_pos (by omega)]
      · rw [if_neg (by omega)]
  | some a =>
    have := hg a rfl
    cases gate with
    | none =>
      simp only [Option.getD_none, Option.getD_some]
      refine ⟨by omega, by omega, ?_, by omega, rfl⟩
      rw [if_neg (by omega)]; congr 1; omega
    | some b =>
      have := hv b rfl
      simp only [Option.getD_some]
      refine ⟨by omega, by omega, ?_, by omega, ?_⟩
      · rw [if_neg (by omega)]; congr 1; omega
      · rw [if_neg (by omega)]

/-- The flags of a HEAD record share a byte. -/
theorem flags_roundtrip (a b c d : Bool) :
    let v := flagBit a 1 + flagBit b 2 + flagBit c 4 + flagBit d 8
    v < 256 ∧ (v % 2 == 1) = a ∧ (v / 2 % 2 == 1) = b ∧ (v / 4 % 2 == 1) = c ∧ (v / 8 % 2 == 1) = d := by
  revert a b c d; decide

theorem nextCode_roundtrip (n : Next) (h : (match n with
    | .sequential => true
    | .index k => decide (k < Config.records)) = true) :
    nextCode n < 65536 ∧ (nextCode n < Config.records ∨ nextCode n = 65535)
      ∧ (if nextCode n = 65535 then .sequential else .index (nextCode n)) = n := by
  cases n with
  | sequential => exact ⟨by decide, .inr rfl, rfl⟩
  | index k =>
    have hk : k < 2048 := of_decide_eq_true h
    refine ⟨?_, .inl hk, if_neg ?_⟩ <;> simp only [nextCode] <;> omega

theorem decodeHead_encode (h : Head) (more : Bool) (ys : List Byte) (hr : h.inRange = true) :
    decodeHead (encodeHead h more ++ ys) = .ok h := by
  obtain ⟨kind, report, zeroOthers, creditTime, next, admitTimeout, maxTime, endAll, group, gate, loopCount, strikeWindow, rorSettle,
    rorMeasure, rorLimit⟩ := h
  simp only [Head.inRange, Bool.and_eq_true, decide_eq_true_eq] at hr
  obtain ⟨⟨⟨⟨⟨⟨⟨⟨⟨⟨hnext, hadmit⟩, hmax⟩, hgroup⟩, hgate⟩, hlo⟩, hhi⟩, hstrike⟩, hsettle⟩, hmeasure⟩, hlimit⟩ := hr
  simp only [maxMs] at hadmit hmax hsettle hmeasure
  have hkind : stepKindCode kind % 256 ^ 1 = stepKindCode kind := Nat.mod_eq_of_lt (by have := stepKindCode_lt kind; omega)
  obtain ⟨hflags, hrep, hzero, hcredit, hend⟩ := flags_roundtrip report zeroOthers creditTime endAll
  obtain ⟨hplant, hle, hgroup', hgate', hgate''⟩ := group_gate_roundtrip group gate hgroup hgate
  obtain ⟨hcode, hlisted, hnext'⟩ := nextCode_roundtrip next hnext
  have fields : ∀ n, n ≤ 3600000 → n % 256 ^ 3 = n := fun n hn => Nat.mod_eq_of_lt (by omega)
  have hflags' := Nat.mod_eq_of_lt (show _ < 256 ^ 1 from hflags)
  have hplant' := Nat.mod_eq_of_lt (show _ < 256 ^ 1 from hplant)
  have hcode' := Nat.mod_eq_of_lt (show _ < 256 ^ 2 from hcode)
  have hcount : loopCount % 256 ^ 2 = loopCount := Nat.mod_eq_of_lt (by omega)
  have hstrike' : strikeWindow % 256 ^ 2 = strikeWindow := Nat.mod_eq_of_lt (by omega)
  have hlimit' : rorLimit % 256 ^ 4 = rorLimit := Nat.mod_eq_of_lt (by omega)
  simp only [decodeHead, encodeHead, byteAt_eq_leAt, List.append_assoc, leAt_behind, leAt_leBytes, Nat.le_refl, Nat.reduceLeDiff,
    Nat.reduceSub, hkind, hflags', hplant', hcode', hcount, hstrike', hlimit', fields _ hadmit, fields _ hmax, fields _ hsettle,
    fields _ hmeasure, stepKindOf_code, hrep, hzero, hcredit, hend, hgroup', hgate', hgate'', hnext', Option.getD_some]
  refine checked_of_all _ ?_
  simpa [maxMs, hadmit, hmax, hsettle, hmeasure, hle, hlo, hhi, hstrike] using hlisted

theorem length_encodeHead (h : Head) (more : Bool) : (encodeHead h more).length = 32 := by simp [encodeHead]

theorem encodeRecord_head (h : Head) (is : List Item) (more : Bool) :
    encodeRecord (.head h is more) = encodeHead h more ++ (is.flatMap encodeItem ++ zeros 56) := by
  simp only [encodeRecord, encodeHead, List.append_assoc]

/-- The first byte of a record: its form in two bits, and MORE in the highest. -/
theorem form_roundtrip (form : Nat) (hform : form < 4) (more : Bool) (ys : List Byte) :
    byteAt (leBytes (form + flagBit more 128) 1 ++ ys) 0 % 4 = form
      ∧ (byteAt (leBytes (form + flagBit more 128) 1 ++ ys) 0 / 128 == 1) = more := by
  rw [byteAt_eq_leAt, leAt_leBytes]
  cases more <;> simp [flagBit] <;> omega

theorem length_encodeRecord {r : Record} (h : r.inRange = true) : (encodeRecord r).length = 208 := by
  cases r with
  | empty => rfl
  | head hd is more =>
    simp only [Record.inRange, Bool.and_eq_true, beq_iff_eq] at h
    simp only [encodeRecord_head, List.length_append, length_encodeHead, length_flatMap_encodeItem, h.1.2, length_zeros]
  | cont is more =>
    simp only [Record.inRange, Bool.and_eq_true, beq_iff_eq] at h
    simp only [encodeRecord, List.length_append, length_leBytes, length_zeros, length_flatMap_encodeItem, h.1]

theorem decodeRecord_encode {r : Record} (h : r.inRange = true) : decodeRecord (encodeRecord r) = .ok r := by
  cases r with
  | empty => decide
  | head hd is more =>
    simp only [Record.inRange, Bool.and_eq_true, beq_iff_eq] at h
    obtain ⟨⟨hhead, hlen⟩, hall⟩ := h
    obtain ⟨hform, hmore⟩ : byteAt (encodeRecord (.head hd is more)) 0 % 4 = 1 ∧ (byteAt (encodeRecord (.head hd is more)) 0 / 128 == 1) = more := by
      simp only [encodeRecord, List.append_assoc]
      exact form_roundtrip 1 (by decide) more _
    have hslots := decodeSlots_encode (encodeHead hd more) is (zeros 56) 0 hall
    rw [length_encodeHead, hlen, ← encodeRecord_head] at hslots
    have hdecode : decodeHead (encodeRecord (.head hd is more)) = .ok hd := by
      rw [encodeRecord_head]; exact decodeHead_encode hd more _ hhead
    simp only [decodeRecord, hform, hmore, hdecode, hslots]
  | cont is more =>
    simp only [Record.inRange, Bool.and_eq_true, beq_iff_eq] at h
    obtain ⟨hlen, hall⟩ := h
    obtain ⟨hform, hmore⟩ : byteAt (encodeRecord (.cont is more)) 0 % 4 = 2 ∧ (byteAt (encodeRecord (.cont is more)) 0 / 128 == 1) = more := by
      simp only [encodeRecord, List.append_assoc]
      exact form_roundtrip 2 (by decide) more _
    have hslots := decodeSlots_encode (leBytes (2 + flagBit more 128) 1 ++ zeros 7) is [] 0 hall
    rw [List.append_nil, hlen] at hslots
    have hslots' : decodeSlots (encodeRecord (.cont is more)) 8 0 10 = .ok is := hslots
    simp only [decodeRecord, hform, hmore, hslots']

/-- A HEAD that its checks accept is in range (Table 4-1). -/
theorem inRange_of_decodeHead {bs : List Byte} {h : Head} (hd : decodeHead bs = .ok h) : h.inRange = true := by
  obtain ⟨rfl, hall⟩ := checked_eq_ok hd
  simp only [List.forall_mem_cons, Bool.and_eq_true, Bool.or_eq_true, decide_eq_true_eq, beq_iff_eq] at hall
  obtain ⟨-, -, -, -, hnext, hadmit, hmax, -, -, hgate, ⟨hlo, hhi⟩, hstrike, hsettle, hmeasure, -, -, -⟩ := hall
  simp only [Head.inRange, Bool.and_eq_true, decide_eq_true_eq]
  refine ⟨⟨⟨⟨⟨⟨⟨⟨⟨⟨?_, hadmit⟩, hmax⟩, ?_⟩, ?_⟩, hlo⟩, hhi⟩, hstrike⟩, hsettle⟩, hmeasure⟩, ?_⟩
  · split
    · rfl
    · next n hn =>
      split at hn <;> cases hn
      next hne => exact decide_eq_true (hnext.resolve_right hne)
  · split
    · rfl
    · exact decide_eq_true (show byteAt bs 3 % 4 < 3 by omega)
  · split
    · rfl
    · exact decide_eq_true (show byteAt bs 3 / 16 < 8 by omega)
  · have := leAt_lt bs 18 4
    omega

/-- A record that WRITE_RECORDS accepts is in range (R58). -/
theorem inRange_of_decodeRecord {bs : List Byte} {r : Record} (h : decodeRecord bs = .ok r) : r.inRange = true := by
  unfold decodeRecord at h
  dsimp only at h
  split at h
  · cases h; rfl
  · split at h
    · cases h
    · next hd hhd =>
      split at h
      · cases h
      · next is his =>
        cases h
        obtain ⟨hlen, hall⟩ := decodeSlots_eq_ok his
        simp [Record.inRange, inRange_of_decodeHead hhd, hlen, hall]
  · split at h
    · cases h
    · next is his =>
      cases h
      obtain ⟨hlen, hall⟩ := decodeSlots_eq_ok his
      simp [Record.inRange, hlen, hall]
  · cases h

/-- Settles O10: the wire form reads back field by field, and every check that a record passes is one of its ranges. -/
theorem recordReadsBack : Obligations.RecordReadsBack :=
  ⟨fun _ hr => ⟨length_encodeRecord hr, decodeRecord_encode hr⟩, fun _ _ h => inRange_of_decodeRecord h⟩

end Sys2Proof.Machine
end

section
/-!
What an event's work can do, said once. Every piece of work (`Task`) is a chain of a few kinds of update; `Works s t` says that t comes of s
by such a chain. Each kind carries what the laws need to know of it, so that a law is proved by one case for each kind and not by one
for each operation of the model.
-/
namespace Sys2Proof.Machine

/-! ### What an update may do to an entry -/

/-- A point keeps its configuration. A setpoint record keeps what the last stamp left, and is not forced anew; a sample is free. -/
inductive Point.Moves : Point → Point → Prop
  | empty : Moves .empty .empty
  | set (cfg : PointCfg) (r r' : SetRec) (hforced : r'.forced = r.forced ∨ r'.forced = none)
      (hsaturated : r'.saturated = r.saturated) (hraw : r'.lastRaw = r.lastRaw) : Moves (.set cfg r) (.set cfg r')
  | sample (cfg : PointCfg) (st st' : Sample) : Moves (.sample cfg st) (.sample cfg st')

/-- The motion timer runs exactly in OPENING and CLOSING (R145 to R149). -/
def Gate.timed (x : Gate) : Bool := x.timer.isSome == (x.state == .opening || x.state == .closing)

/-- The piece of work is the last of a return pass, the only one that moves the ring. -/
def Task.finishes : Task → Bool
  | .finishReturn .. => true
  | _ => false

/-- How many of the context's paths hold record i. -/
def Ctx.holds (x : Ctx) (i : Nat) : Nat := x.heldPaths.countP fun path => path.contains i

/-- The masks and levels of sources 0 to 3 have no bit set (R156). -/
def Ctx.fixedSources (x : Ctx) : Bool :=
  x.masks &&& 0x000F == 0 && x.highs &&& 0x000F == 0 && x.cfg.masks &&& 0x000F == 0 && x.cfg.highs &&& 0x000F == 0

/-- The running job is one in RUNNING or DIVERTED (R83, R86). -/
def Ctx.jobRuns (x : Ctx) : Prop := x.job.isSome = true → x.active = true

/-- What the job law says of one context: its running job runs, its tags stand apart, and the use counts reach its paths (R69 to R71). -/
structure State.JobsOk (s : State) (c : Nat) : Prop where
  whole : s.useCounts.length = Config.records
  runs : (s.ctx c).jobRuns
  apart : (s.ctx c).tags.Nodup
  counted : ∀ i, i < Config.records → (s.ctx c).holds i ≤ s.useCount i

/-- What the laws need to know of context c becoming x, with the use counts us from then on. -/
structure CtxMoves (s : State) (c : Nat) (x : Ctx) (us : List Nat) : Prop where
  fixed : (s.ctx c).fixedSources = true → x.fixedSources = true
  stack : (s.ctx c).stackLaw = true → x.stackLaw = true
  bounded : s.records.all Record.inRange = true → (s.ctx c).bounded = true → x.bounded = true
  stands : ((s.ctx c).step.isSome = true → (s.ctx c).active = true) → x.step.isSome = true → x.active = true
  demand : ∀ st, x.step = some st →
    (∃ st', (s.ctx c).step = some st' ∧ st.demand = st'.demand) ∨ ∀ l, st.demandOn l ≠ 0 → s.feeds c l = true
  plant : (s.ctx c).active = true → x.active = true ∨ s.holdsPlant c = false
  job : (s.ctx c).jobRuns → x.jobRuns
  offline : s.JobsOk c → ((s.ctx c).state = .offline → (s.ctx c).heldPaths = []) → x.state = .offline → x.heldPaths = []
  tags : s.JobsOk c →
    x.tags.Subperm (s.ctx c).tags ∨ ∃ tag, x.tags.Perm (tag :: (s.ctx c).tags) ∧ s.tagHeld tag = false
  uses : s.JobsOk c →
    ∀ i, i < Config.records → us.getD i 0 + (s.ctx c).holds i = s.useCount i + x.holds i
  inside : c < s.ctxs.length ∨ us = s.useCounts
  length : us.length = s.useCounts.length
  limit : (∀ n ∈ s.useCounts, n ≤ 60) → ∀ n ∈ us, n ≤ 60

/-! ### The kinds of update -/

/-- t comes of s by work of an event other than the end of a return pass. -/
inductive Works (s : State) : State → Prop
  | refl : Works s s
  | agenda {t : State} (h : Works s t) (ts : List Task) (hts : ∀ x ∈ ts, x ∈ t.agenda ∨ x.finishes = false) :
      Works s { t with agenda := ts }
  | report {t : State} (h : Works s t) (c st : Option Nat) (tag : Option (BitVec 32)) (b : ReportBody) :
      Works s (t.report c st tag b)
  | count {t : State} (h : Works s t) (n : Nat) (hn : n < 8 * t.ctxs.length ∨ 53 ≤ n) : Works s (t.count n)
  | points {t : State} (h : Works s t) (ps : List Point) (hps : List.Forall₂ Point.Moves t.points ps) :
      Works s { t with points := ps }
  | node {t : State} (h : Works s t) (n : Nat) (x : Node) (hx : x.age ≤ 3) : Works s (t.setNode n (some x))
  | gate {t : State} (h : Works s t) (g : Nat) (x x' : Gate) (hg : t.gate g = some x) (hcfg : x'.cfg = x.cfg)
      (ht : x.timed = true → x'.timed = true) : Works s (t.setGate g (some x'))
  | remove {t : State} (h : Works s t) (c : Nat) : Works s (t.removeEntry c)
  | enter {t : State} (h : Works s t) (e : WaitEntry) (hc : e.ctx < t.ctxs.length) :
      Works s { t with waits :=
        ((t.waits.filter fun y => y.ctx != e.ctx).takeWhile fun y => decide (waitRank y.cls y.priority ≤ waitRank e.cls e.priority))
          ++ e :: ((t.waits.filter fun y => y.ctx != e.ctx).dropWhile fun y =>
            decide (waitRank y.cls y.priority ≤ waitRank e.cls e.priority)) }
  | scanning {t : State} (h : Works s t) (a b : Bool) : Works s { t with scanning := a, scanAgain := b }
  | lower {t : State} (h : Works s t) (c : Nat) (f : Nat → Nat → Nat) (hf : ∀ l r, f l r ≤ r) : Works s (t.setReservations c f)
  | raise {t : State} (h : Works s t) (c : Nat) (st : StepState) (hs : (t.ctx c).step = some st) (hn : t.needsMet c st = true) :
      Works s (t.raisePlant c st)
  | release {t : State} (h : Works s t) (c : Nat) : Works s (t.release c)
  | ctx {t : State} (h : Works s t) (c : Nat) (x : Ctx) (us : List Nat) (hx : CtxMoves t c x us) :
      Works s { t.setCtx c x with useCounts := us }

/-- Work follows on work. -/
theorem Works.trans {s t u : State} (h : Works s t) (k : Works t u) : Works s u := by
  induction k with
  | refl => exact h
  | agenda _ ts hts ih => exact ih.agenda ts hts
  | report _ c st tag b ih => exact ih.report c st tag b
  | count _ n hn ih => exact ih.count n hn
  | points _ ps hps ih => exact ih.points ps hps
  | node _ n x hx ih => exact ih.node n x hx
  | gate _ g x x' hg hcfg ht ih => exact ih.gate g x x' hg hcfg ht
  | remove _ c ih => exact ih.remove c
  | enter _ e hc ih => exact ih.enter e hc
  | scanning _ a b ih => exact ih.scanning a b
  | lower _ c f hf ih => exact ih.lower c f hf
  | raise _ c st hs hn ih => exact ih.raise c st hs hn
  | release _ c ih => exact ih.release c
  | ctx _ c x us hx ih => exact ih.ctx c x us hx

/-! ### Updates of the agenda and of the points -/

theorem Works.push {s t : State} (h : Works s t) (ts : List Task) (hts : ∀ x ∈ ts, x.finishes = false) : Works s (t.push ts) :=
  h.agenda _ fun x hx => (List.mem_append.mp hx).elim (fun hx => .inr (hts x hx)) .inl

theorem Works.triggerIf {s t : State} (h : Works s t) (b : Bool) : Works s (t.triggerIf b) := by
  cases b
  · exact h
  · exact h.push _ (by simp [Task.finishes])

theorem Point.Moves.refl (p : Point) : p.Moves p := by
  cases p with
  | empty => exact .empty
  | set cfg r => exact .set cfg r r (.inl rfl) rfl rfl
  | sample cfg st => exact .sample cfg st st

/-- A retarget touches neither the force nor what the last stamp left (R25). -/
theorem Point.Moves.retarget (cfg : PointCfg) (r : SetRec) (now : Time) (t d : Nat) :
    (Point.set cfg r).Moves (.set cfg (r.retarget now t d)) :=
  .set cfg _ _ (.inl rfl) rfl rfl

/-- One entry of the point table moves. -/
theorem forall₂_set {ps : List Point} {p : Nat} {x : Point} (h : ∀ y, ps[p]? = some y → y.Moves x) :
    List.Forall₂ Point.Moves ps (ps.set p x) := by
  refine List.forall₂_iff_get.mpr ⟨by simp, fun k hk hk' => ?_⟩
  simp only [List.get_eq_getElem, List.getElem_set]
  split
  · subst p; exact h _ (by simp [hk])
  · exact .refl _

/-- Every entry of the point table moves by itself. -/
theorem forall₂_map {ps : List Point} {f : Point → Point} (h : ∀ p, Point.Moves p (f p)) : List.Forall₂ Point.Moves ps (ps.map f) := by
  induction ps with
  | nil => exact .nil
  | cons p ps ih => exact .cons (h p) ih

theorem forall₂_mapFrom {ps : List Point} {f : Nat → Point → Point} (n : Nat) (h : ∀ k p, Point.Moves p (f k p)) :
    List.Forall₂ Point.Moves ps (mapFrom f n ps) := by
  induction ps generalizing n with
  | nil => exact .nil
  | cons p ps ih => exact .cons (h n p) (ih (n + 1))

/-- Entry p of the point table, where it holds x. -/
theorem State.getElem?_of_point {s : State} {p : Nat} {x : Point} (h : s.point p = x) (hx : x ≠ .empty) : s.points[p]? = some x := by
  rw [State.point, List.getD_eq_getElem?_getD] at h
  cases hp : s.points[p]? with
  | none => rw [hp] at h; exact absurd h.symm hx
  | some y => rw [hp] at h; exact congrArg some h

theorem Works.setPoint {s t : State} (h : Works s t) (p : Nat) (x : Point) (hx : (t.point p).Moves x) : Works s (t.setPoint p x) :=
  h.points _ (forall₂_set fun y hy => by simpa [State.point, List.getD_eq_getElem?_getD, hy] using hx)

theorem Works.retarget {s t : State} (h : Works s t) (p target d : Nat) : Works s (t.retarget p target d) := by
  unfold State.retarget
  split
  · next cfg r hp => exact h.setPoint p _ (hp ▸ .retarget cfg r ..)
  · exact h

theorem Works.zeroHot {s t : State} (h : Works s t) (c : Nat) : Works s (t.zeroHot c) := by
  refine h.points _ (forall₂_map fun p => ?_)
  cases p with
  | set cfg r => dsimp only; split; exacts [.retarget .., .refl _]
  | empty | sample => exact .refl _

theorem Works.zeroOthers {s t : State} (h : Works s t) (c : Nat) (is : List SetItem) : Works s (t.zeroOthers c is) := by
  refine h.points _ (forall₂_mapFrom 0 fun k p => ?_)
  cases p with
  | set cfg r => dsimp only; split; exacts [.retarget .., .refl _]
  | empty | sample => exact .refl _

theorem Works.releaseForces {s t : State} (h : Works s t) (c : Nat) : Works s (t.releaseForces c) := by
  refine h.points _ (forall₂_map fun p => ?_)
  cases p with
  | set cfg r => dsimp only; split; exacts [.set _ _ _ (.inr rfl) rfl rfl, .refl _]
  | empty | sample => exact .refl _

theorem Works.staleNode {s t : State} (h : Works s t) (n : Nat) : Works s (t.staleNode n) := by
  refine h.points _ (forall₂_map fun p => ?_)
  cases p with
  | sample cfg st => dsimp only; split; exacts [.sample .., .refl _]
  | empty | set => exact .refl _

theorem Works.applyItems {s t : State} (h : Works s t) (is : List SetItem) : Works s (t.applyItems is) := by
  induction is generalizing t with
  | nil => exact h
  | cons i is ih => exact ih (h.retarget ..)

theorem Works.applyRest {s t : State} (h : Works s t) (c k : Nat) : Works s (t.applyRest c k) :=
  (h.applyItems _).zeroOthers _ _

end Sys2Proof.Machine
end

section
/-!
What the updates of contexts keep: reading a context after each shared operation, and the moves of a context that the operations make.
-/
namespace Sys2Proof.Machine

/-! ### Reading a context after an operation -/

section
variable (s : State)

@[simp] theorem State.ctx_push (ts : List Task) (c : Nat) : (s.push ts).ctx c = s.ctx c := rfl
@[simp] theorem State.ctx_count (n c : Nat) : (s.count n).ctx c = s.ctx c := rfl
@[simp] theorem State.ctx_setPoint (p : Nat) (x : Point) (c : Nat) : (s.setPoint p x).ctx c = s.ctx c := rfl
@[simp] theorem State.ctx_setNode (n : Nat) (x : Option Node) (c : Nat) : (s.setNode n x).ctx c = s.ctx c := rfl
@[simp] theorem State.ctx_setGate (g : Nat) (x : Option Gate) (c : Nat) : (s.setGate g x).ctx c = s.ctx c := rfl
@[simp] theorem State.ctx_zeroHot (d c : Nat) : (s.zeroHot d).ctx c = s.ctx c := rfl
@[simp] theorem State.ctx_zeroOthers (d : Nat) (is : List SetItem) (c : Nat) : (s.zeroOthers d is).ctx c = s.ctx c := rfl
@[simp] theorem State.ctx_releaseForces (d c : Nat) : (s.releaseForces d).ctx c = s.ctx c := rfl
@[simp] theorem State.ctx_staleNode (n c : Nat) : (s.staleNode n).ctx c = s.ctx c := rfl
@[simp] theorem State.ctx_release (d c : Nat) : (s.release d).ctx c = s.ctx c := rfl
@[simp] theorem State.ctx_removeEntry (d c : Nat) : (s.removeEntry d).ctx c = s.ctx c := rfl
@[simp] theorem State.ctx_setReservations (d : Nat) (f : Nat → Nat → Nat) (c : Nat) : (s.setReservations d f).ctx c = s.ctx c := rfl
@[simp] theorem State.ctx_lowerReservations (d : Nat) (st : StepState) (c : Nat) : (s.lowerReservations d st).ctx c = s.ctx c := rfl
@[simp] theorem State.ctx_raisePlant (d : Nat) (st : StepState) (c : Nat) : (s.raisePlant d st).ctx c = s.ctx c := rfl
@[simp] theorem State.ctx_report (d st : Option Nat) (tag : Option (BitVec 32)) (b : ReportBody) (c : Nat) :
    (s.report d st tag b).ctx c = s.ctx c := by simp [State.ctx]
@[simp] theorem State.ctx_retarget (p t d c : Nat) : (s.retarget p t d).ctx c = s.ctx c := by simp [State.ctx]
@[simp] theorem State.ctx_releaseForce (p c : Nat) : (s.releaseForce p).ctx c = s.ctx c := by simp [State.ctx]
@[simp] theorem State.ctx_triggerIf (b : Bool) (c : Nat) : (s.triggerIf b).ctx c = s.ctx c := by simp [State.ctx]
@[simp] theorem State.ctx_applyItems (is : List SetItem) (c : Nat) : (s.applyItems is).ctx c = s.ctx c := by
  rw [State.applyItems_only]; rfl
@[simp] theorem State.ctx_applyRest (d h c : Nat) : (s.applyRest d h).ctx c = s.ctx c := by simp [State.applyRest]
@[simp] theorem State.ctxs_applyItems (is : List SetItem) : (s.applyItems is).ctxs = s.ctxs := by
  rw [State.applyItems_only]
@[simp] theorem State.ctxs_applyRest (d h : Nat) : (s.applyRest d h).ctxs = s.ctxs := by simp [State.applyRest]

end

/-- A context outside the table reads as one right after reset. -/
theorem State.ctx_of_le {s : State} {c : Nat} (h : s.ctxs.length ≤ c) : s.ctx c = Ctx.reset := by
  simp [State.ctx, List.getD_eq_getElem?_getD, h]

/-- Only a context of the table stands at a step. -/
theorem State.lt_of_step {s : State} {c : Nat} {st : StepState} (h : (s.ctx c).step = some st) : c < s.ctxs.length := by
  by_contra hc
  rw [State.ctx_of_le (Nat.le_of_not_lt hc)] at h
  exact absurd h (by simp [Ctx.reset])

/-- Only a context of the table is in a state other than OFFLINE. -/
theorem State.lt_of_state {s : State} {c : Nat} (h : (s.ctx c).state ≠ .offline) : c < s.ctxs.length := by
  by_contra hc
  rw [State.ctx_of_le (Nat.le_of_not_lt hc)] at h
  exact absurd rfl h

theorem Ctx.state_of_active {x : Ctx} (h : x.active = true) : x.state = .running ∨ x.state = .diverted := by
  simpa [Ctx.active] using h

theorem Ctx.state_ne_of_active {x : Ctx} (h : x.active = true) : x.state ≠ .offline := by
  rcases Ctx.state_of_active h with h | h <;> simp [h]

theorem State.lt_of_active {s : State} {c : Nat} (h : (s.ctx c).active = true) : c < s.ctxs.length :=
  State.lt_of_state (Ctx.state_ne_of_active h)

/-! ### Moves of a context -/

/-- The paths that a context holds are those of its table entry, its queue and its running job (R69). -/
def Ctx.jobs (x : Ctx) : List (List Nat) × List Job × Option RunningJob := (x.paths, x.queue, x.job)

/-- Whether the levels of the loops of a context and of its return records keep R112. -/
def Ctx.loopsOk (x : Ctx) : Bool := loopsLaw x.loops && x.stack.all fun r => loopsLaw r.loops

theorem Ctx.bounded_iff (x : Ctx) : x.bounded = true ↔ x.queue.length ≤ Config.queue ∧ x.loopsOk = true := by
  simp [Ctx.bounded, Ctx.loopsOk, and_assoc]

/-- Paths, queue and running job determine the held paths and the tags. -/
theorem Ctx.heldPaths_of_jobs {x y : Ctx} (h : x.jobs = y.jobs) : x.heldPaths = y.heldPaths := by
  simp only [Ctx.jobs, Prod.mk.injEq] at h
  simp [Ctx.heldPaths, h]

theorem Ctx.tags_of_jobs {x y : Ctx} (h : x.jobs = y.jobs) : x.tags = y.tags := by
  simp only [Ctx.jobs, Prod.mk.injEq] at h
  simp [Ctx.tags, h]

theorem Ctx.fixedSources_of_unit {x y : Ctx} (h : x.unit = y.unit) : x.fixedSources = y.fixedSources := by
  obtain ⟨hcfg, hmasks, hhighs⟩ := (Ctx.unit_eq x y).mp h
  simp [Ctx.fixedSources, hcfg, hmasks, hhighs]

/-- What a step state may carry of demand: that of the step which stood before, or one on lines of the context's own points. -/
def State.carries (s : State) (c : Nat) (st : StepState) : Prop :=
  (∃ st', (s.ctx c).step = some st' ∧ st.demand = st'.demand) ∨ ∀ l, st.demandOn l ≠ 0 → s.feeds c l = true

section
variable {s : State} {c : Nat} {x : Ctx}

/-- A context that keeps its configuration and its jobs. -/
theorem CtxMoves.of_jobs (hunit : x.unit = (s.ctx c).unit) (hjobs : x.jobs = (s.ctx c).jobs)
    (hstack : (s.ctx c).stackLaw = true → x.stackLaw = true)
    (hloops : s.records.all Record.inRange = true → (s.ctx c).loopsOk = true → x.loopsOk = true)
    (hstands : ((s.ctx c).step.isSome = true → (s.ctx c).active = true) → x.step.isSome = true → x.active = true)
    (hdemand : ∀ st, x.step = some st → s.carries c st)
    (hplant : (s.ctx c).active = true → x.active = true ∨ s.holdsPlant c = false)
    (hjob : (s.ctx c).jobRuns → x.jobRuns) (hoffline : x.state = .offline → (s.ctx c).state = .offline) :
    CtxMoves s c x s.useCounts where
  fixed h := (Ctx.fixedSources_of_unit hunit).trans h
  stack := hstack
  bounded hr h := by
    obtain ⟨hqueue, hlo⟩ := (Ctx.bounded_iff _).mp h
    simp only [Ctx.jobs, Prod.mk.injEq] at hjobs
    exact (Ctx.bounded_iff _).mpr ⟨hjobs.2.1 ▸ hqueue, hloops hr hlo⟩
  stands := hstands
  demand := hdemand
  plant := hplant
  job := hjob
  offline _ h hx := (Ctx.heldPaths_of_jobs hjobs).trans (h (hoffline hx))
  tags _ := .inl (Ctx.tags_of_jobs hjobs ▸ List.Subperm.refl _)
  uses _ i _ := by simp only [Ctx.holds, Ctx.heldPaths_of_jobs hjobs, State.useCount]
  inside := .inr rfl
  length := rfl
  limit h := h

/-- What decides the laws of a context, but for the step at which it stands. -/
def Ctx.frame (x : Ctx) := (x.unit, x.jobs, x.state, x.isl, x.stack, x.loops)

/-- A context that changes no more than its step, its timers, its flags and what it shows. -/
theorem CtxMoves.of_frame (hframe : x.frame = (s.ctx c).frame)
    (hstep : ∀ st, x.step = some st → ((s.ctx c).step.isSome = true ∨ (s.ctx c).active = true) ∧ s.carries c st) :
    CtxMoves s c x s.useCounts := by
  simp only [Ctx.frame, Prod.mk.injEq] at hframe
  obtain ⟨hunit, hjobs, hstate, hisl, hstack, hloops⟩ := hframe
  have hjob : x.job = (s.ctx c).job := by simp only [Ctx.jobs, Prod.mk.injEq] at hjobs; exact hjobs.2.2
  have hactive : x.active = (s.ctx c).active := by simp [Ctx.active, hstate]
  refine CtxMoves.of_jobs hunit hjobs ?_ ?_ (fun h hx => ?_) (fun st h => (hstep st h).2) (fun h => .inl (hactive.trans h))
    ?_ (hstate ▸ id)
  · simp [Ctx.stackLaw, hisl, hstack]
  · simp [Ctx.loopsOk, hloops, hstack]
  · obtain ⟨st, hst⟩ := Option.isSome_iff_exists.mp hx
    exact hactive.trans ((hstep st hst).1.elim h id)
  · simp [Ctx.jobRuns, hjob, hactive]

/-- A context that keeps its step, and changes no more than its timers, its flags and what it shows. -/
theorem CtxMoves.of_frame_step (hframe : x.frame = (s.ctx c).frame) (hstep : x.step = (s.ctx c).step) :
    CtxMoves s c x s.useCounts :=
  .of_frame hframe fun st h => ⟨.inl (hstep ▸ h ▸ rfl), .inl ⟨st, hstep ▸ h, rfl⟩⟩

/-- A context that drops its step, and changes no more than its timers, its flags and what it shows. -/
theorem CtxMoves.of_frame_none (hframe : x.frame = (s.ctx c).frame) (hstep : x.step = none) : CtxMoves s c x s.useCounts :=
  .of_frame hframe fun st h => by simp [hstep] at h

end

theorem Works.setCtx {s t : State} (h : Works s t) (c : Nat) (x : Ctx) (hx : CtxMoves t c x t.useCounts) :
    Works s (t.setCtx c x) :=
  h.ctx c x _ hx

/-- The standing step changes, but not its demand. -/
theorem Works.modStep {s t : State} (h : Works s t) (c : Nat) (f : StepState → StepState)
    (hf : ∀ st, (t.ctx c).step = some st → t.carries c (f st)) : Works s (t.modStep c f) := by
  refine h.setCtx c _ (.of_frame rfl fun st hst => ?_)
  obtain ⟨st', hst', rfl⟩ := Option.map_eq_some_iff.mp hst
  exact ⟨.inl (hst' ▸ rfl), hf st' hst'⟩

/-- A step with the demand of the one that stands. -/
theorem State.carries_of_eq {s : State} {c : Nat} {st st' : StepState} (h : (s.ctx c).step = some st') (hd : st.demand = st'.demand) :
    s.carries c st := .inl ⟨st', h, hd⟩

end Sys2Proof.Machine
end

section
/-!
The operations of the arbiter, of the sequencers, of the request units and of the gates as chains of updates (chapters 5 to 9).
-/
namespace Sys2Proof.Machine

/-! ### The demand of a step taken up (R95) -/

/-- Prospective targets are those of the context's own SET points. -/
theorem State.owner_of_mem_prospective {s : State} {c : Nat} {st : Step} {t : Nat × Nat} (h : t ∈ s.prospective c st) :
    ∃ cfg r, s.points[t.1]? = some (.set cfg r) ∧ cfg.owner = .ctx c := by
  obtain ⟨k, p, hk, hp⟩ := (mem_pickFrom ..).mp h
  rw [Nat.zero_add] at hp
  split at hp
  · next cfg r =>
    split at hp
    · next howner => split at hp <;> cases hp <;> exact ⟨cfg, r, hk, by simpa using howner⟩
    · cases hp
  · cases hp

/-- The targets of its own points give a context demand only on lines that it feeds. -/
theorem State.feeds_of_demandOf {s : State} {c l : Nat} {st : Step}
    (h : (s.demandOf (s.prospective c st)).getD l 0 ≠ 0) : s.feeds c l = true := by
  have hl : l < Config.lines := by
    by_contra hl
    simp [State.demandOf, List.getD_eq_getElem?_getD, Nat.le_of_not_lt hl] at h
  have hsum : (((s.prospective c st).filter fun t => s.onLine l t.1).map (·.2)).sum ≠ 0 := by
    simpa [State.demandOf, List.getD_eq_getElem?_getD, hl] using h
  obtain ⟨v, hv, -⟩ : ∃ v ∈ ((s.prospective c st).filter fun t => s.onLine l t.1).map (·.2), v ≠ 0 := by
    by_contra hno
    push Not at hno
    exact hsum (List.sum_eq_zero hno)
  obtain ⟨t, ht, -⟩ := List.mem_map.mp hv
  obtain ⟨hmem, hon⟩ := List.mem_filter.mp ht
  obtain ⟨cfg, r, hp, howner⟩ := State.owner_of_mem_prospective hmem
  have hline : cfg.quantity = .flow ∧ cfg.line = some l := by
    simpa [State.onLine, State.point, List.getD_eq_getElem?_getD, hp] using hon
  exact List.any_eq_true.mpr ⟨_, List.mem_of_getElem? hp, by simp [hline, howner]⟩

theorem State.carries_admitState (s : State) (c k : Nat) (st : Step) : s.carries c (s.admitState c st k) :=
  .inr fun _ h => State.feeds_of_demandOf h

section
variable {s t : State} (h : Works s t)
include h

/-! ### The arbiter -/

theorem Works.startStep {c : Nat} {st : StepState} (hs : (t.ctx c).step = some st) : Works s (t.startStep c st) := by
  unfold State.startStep
  split
  · exact h.setCtx c _ (.of_frame rfl fun st' e => by cases e; exact ⟨.inl (by simp [hs]), .inl ⟨st, hs, rfl⟩⟩)
  · dsimp only
    split
    · exact ((h.applyItems _).zeroOthers _ _).setCtx c _
        (.of_frame rfl fun st' e => by cases e; exact ⟨.inl (by simp [hs]), .inl ⟨st, by simp [hs], rfl⟩⟩)
    · exact (h.applyItems _).setCtx c _
        (.of_frame rfl fun st' e => by cases e; exact ⟨.inl (by simp [hs]), .inl ⟨st, by simp [hs], rfl⟩⟩)

theorem Works.lowerReservations (c : Nat) (st : StepState) : Works s (t.lowerReservations c st) :=
  h.lower c _ fun _ _ => Nat.min_le_left ..

theorem Works.admitStep {c : Nat} {st : StepState} {emergency : Bool} (hs : (t.ctx c).step = some st)
    (hn : emergency = false → t.needsMet c st = true) : Works s (t.admitStep c st emergency) := by
  have hraise : Works s (if emergency then t.removeEntry c else (t.removeEntry c).raisePlant c st) := by
    cases emergency with
    | true => exact h.remove c
    | false => exact (h.remove c).raise c st hs (hn rfl)
  have hstart := hraise.startStep (c := c) (st := st) (by cases emergency <;> exact hs)
  refine Works.push ?_ _ (List.forall_mem_append.mpr ⟨List.forall_mem_append.mpr ⟨?_, ?_⟩, ?_⟩)
  · split
    · exact hstart.lowerReservations c st
    · exact hstart
  · split
    · split <;> simp [Task.finishes]
    · simp
  · split <;> simp [Task.finishes]
  · split <;> simp [Task.finishes]

theorem Works.present {c : Nat} {st : StepState} (hs : (t.ctx c).step = some st) : Works s (t.present c st) := by
  have hc := State.lt_of_step hs
  unfold State.present
  dsimp only
  split
  · exact h.admitStep hs (by simp)
  · split
    · next hneeds => exact h.admitStep hs fun _ => (Bool.and_eq_true .. ▸ hneeds).1
    · have hlast : 8 * c + 7 < 8 * t.ctxs.length := by omega
      exact ((h.enter
        { ctx := c, cls := classOf (t.ctx c).isl, priority := (t.ctx c).priority, entryTime := st.admitEntry, waited := 0,
          timer := msTimer st.admitEntry st.step.head.admitTimeout, raised := false } hc).count _ (.inl hlast)).push _
        (by simp [Task.finishes])

theorem Works.trigger : Works s t.trigger := by
  unfold State.trigger
  split
  · exact h.scanning t.scanning true
  · exact (h.scanning true t.scanAgain).push _ (by simp [Task.finishes])

theorem Works.scanOn (left : List Nat) : Works s (t.scanOn left) := by
  unfold State.scanOn
  split
  · split
    · exact (h.scanning t.scanning false).push _ (by simp [Task.finishes])
    · exact h.scanning false t.scanAgain
  · split
    · exact h.push _ (by simp [Task.finishes])
    · next e _ st hs =>
      split
      · next hneeds =>
        exact (h.push _ (by simp [Task.finishes])).admitStep hs fun _ => (Bool.and_eq_true .. ▸ hneeds).1
      · exact h.push _ (by simp [Task.finishes])

theorem Works.notifyArbiter (image len : Nat) : Works s (t.notifyArbiter image len) := h.triggerIf _

/-! ### Ends of steps -/

theorem Works.reportStep (c : Nat) (st : StepState) (r : EndReason) : Works s (t.reportStep c st r) := by
  unfold State.reportStep
  dsimp only
  split
  · exact h.report ..
  · exact h

theorem Works.endStep (c : Nat) (r : EndReason) : Works s (t.endStep c r) := by
  unfold State.endStep
  split
  · exact h
  · next st hs =>
    have hlen : (t.reportStep c st r).ctxs.length = t.ctxs.length := by
      unfold State.reportStep; dsimp only; split <;> simp
    have hc := State.lt_of_step hs
    refine Works.push (Works.setCtx ((h.reportStep c st r).count _ (.inl (by rw [hlen]; omega))) c _ ?_) _ ?_
    · exact .of_frame_none rfl rfl
    · simp [Task.finishes]

theorem Works.evaluateEnd (c : Nat) {st : StepState} (new : List Cond) : Works s (t.evaluateEnd c st new) := by
  have hmod : Works s (t.modStep c fun st => { st with conds := new }) :=
    h.modStep c _ fun st hst => State.carries_of_eq hst rfl
  unfold State.evaluateEnd
  dsimp only
  split
  · exact hmod.push _ (by simp [Task.finishes])
  · exact hmod

theorem Works.admitEnd (c : Nat) : Works s (t.admitEnd c) := by
  unfold State.admitEnd
  split
  · exact h
  · split
    · exact h
    · split
      · exact h.push _ (by simp [Task.finishes])
      · split
        · exact h.evaluateEnd c _
        · exact h

/-! ### Evaluations at a collection (R102) -/

omit h in
theorem State.demand_seePressure (u : State) (cfg : CtxCfg) (image len : Nat) (st : StepState) :
    (u.seePressure cfg image len st).demand = st.demand := by
  unfold State.seePressure
  split
  · rfl
  · split <;> rfl

omit h in
theorem State.demand_evalPlasma (u : State) (cfg : CtxCfg) (image len : Nat) (st : StepState) :
    (u.evalPlasma cfg image len st).1.demand = st.demand := by
  unfold State.evalPlasma
  split
  · rfl
  · split
    · split
      · split <;> rfl
      · split <;> rfl
      · rfl
    · rfl

theorem Works.notifyCtx (c image len : Nat) : Works s (t.notifyCtx c image len) := by
  unfold State.notifyCtx
  dsimp only
  split
  · exact h
  · next st hs =>
    split
    · exact h
    · generalize hpl : t.evalPlasma (t.ctx c).cfg image len (t.seePressure (t.ctx c).cfg image len st) = pl
      have hdemand : pl.1.demand = st.demand := by
        rw [← hpl, State.demand_evalPlasma, State.demand_seePressure]
      have hstep : ∀ (bands : List Band) (raises : List Source), Works s ((t.setCtx c { t.ctx c with step := some { pl.1 with bands := bands } }).push
          (raises.map fun src => .raise c src)) := fun bands raises => by
        refine (h.setCtx c _ ?_).push _ ?_
        · exact .of_frame rfl fun st' e => by cases e; exact ⟨.inl (hs ▸ rfl), .inl ⟨st, hs, hdemand⟩⟩
        · simp [Task.finishes]
      split
      · exact (hstep ..).evaluateEnd c _
      · exact hstep ..

/-! ### Requests -/

theorem Works.raiseFlag (c : Nat) (src : Source) : Works s (t.raiseFlag c src) := by
  unfold State.raiseFlag
  dsimp only
  split
  · exact h
  · refine Works.report (h.setCtx c _ ?_) ..
    exact .of_frame_step rfl rfl

theorem Works.raiseSource (c : Nat) (src : Source) : Works s (t.raise c src) :=
  (h.raiseFlag c src).push _ (by simp [Task.finishes])

theorem Works.abandonStanding (c : Nat) : Works s (t.abandonStanding c) := by
  unfold State.abandonStanding
  split
  · exact (h.reportStep ..).remove c
  · exact h

theorem Works.emergencyZero (c : Nat) (l : Level) : Works s (t.emergencyZero c l) := by
  unfold State.emergencyZero
  split
  · exact (h.zeroHot c).release c
  · exact h

end

/-- A candidate is a request of a level above the in-service level, in a context of the table that is not OFFLINE (R160). -/
theorem State.of_candidate {s : State} {c : Nat} {src : Source} (h : s.candidate c src = true) :
    levelRank (s.ctx c).isl < levelRank (src.level (s.ctx c).highs) ∧ (s.ctx c).state ≠ .offline := by
  simp only [State.candidate, Bool.and_eq_true, decide_eq_true_eq] at h
  obtain ⟨⟨⟨-, hlevel⟩, -⟩, hstate⟩ := h
  exact ⟨hlevel, fun e => by simp [e] at hstate⟩

@[simp] theorem State.ctx_reportStep (s : State) (d : Nat) (st : StepState) (r : EndReason) (c : Nat) :
    (s.reportStep d st r).ctx c = s.ctx c := by
  unfold State.reportStep; dsimp only; split <;> simp
@[simp] theorem State.ctx_abandonStanding (s : State) (d c : Nat) : (s.abandonStanding d).ctx c = s.ctx c := by
  unfold State.abandonStanding; split <;> simp
@[simp] theorem State.ctx_emergencyZero (s : State) (d : Nat) (l : Level) (c : Nat) : (s.emergencyZero d l).ctx c = s.ctx c := by
  unfold State.emergencyZero; split <;> simp
@[simp] theorem State.ctxs_reportStep (s : State) (d : Nat) (st : StepState) (r : EndReason) :
    (s.reportStep d st r).ctxs = s.ctxs := by
  unfold State.reportStep; dsimp only; split <;> simp
@[simp] theorem State.ctxs_abandonStanding (s : State) (d : Nat) : (s.abandonStanding d).ctxs = s.ctxs := by
  unfold State.abandonStanding; split <;> simp
@[simp] theorem State.ctxs_emergencyZero (s : State) (d : Nat) (l : Level) : (s.emergencyZero d l).ctxs = s.ctxs := by
  unfold State.emergencyZero; split <;> simp

/-- Dropping flags moves a context's frame nowhere. -/
theorem Ctx.returnRecord_level {x : Ctx} {r : ReturnRecord} (h : x.returnRecord = some r) : r.level = x.isl ∧ r.loops = x.loops := by
  unfold Ctx.returnRecord at h
  split at h <;> cases h
  exact ⟨rfl, rfl⟩

/-- The stack of a taking rises to the level that is taken (R166, R167). -/
theorem Ctx.stackLaw_take {x : Ctx} {level : Level} (hl : levelRank x.isl < levelRank level) (h : x.stackLaw = true) :
    ((x.stack ++ x.returnRecord.toList).map (levelRank ·.level) ++ [levelRank level]).Pairwise (· < ·) := by
  have hold : (x.stack.map (levelRank ·.level) ++ [levelRank x.isl]).Pairwise (· < ·) := by simpa [Ctx.stackLaw] using h
  simp only [List.pairwise_append, List.mem_singleton, forall_eq] at hold ⊢
  obtain ⟨hstack, -, hbelow⟩ := hold
  cases hr : x.returnRecord with
  | none => simpa [hstack] using fun a ha => Nat.lt_trans (hbelow _ (List.mem_map_of_mem ha)) hl
  | some r =>
    have hlevel := (Ctx.returnRecord_level hr).1
    simp only [Option.toList_some, List.map_append, List.map_cons, List.map_nil, hlevel, List.pairwise_append,
      List.pairwise_singleton, List.mem_singleton, forall_eq, List.mem_append, true_and]
    exact ⟨⟨hstack, hbelow⟩, fun a ha => ha.elim (fun ha => Nat.lt_trans (hbelow a ha) hl) fun ha => ha ▸ hl⟩

/-- The loop levels of a taking's return record are those that stood open (R166). -/
theorem Ctx.loopsOk_take {x : Ctx} (h : x.loopsOk = true) : (x.stack ++ x.returnRecord.toList).all (fun r => loopsLaw r.loops) = true := by
  simp only [Ctx.loopsOk, Bool.and_eq_true] at h
  rw [List.all_append, Bool.and_eq_true]
  refine ⟨h.2, ?_⟩
  cases hr : x.returnRecord with
  | none => rfl
  | some r => simp [(Ctx.returnRecord_level hr).2, h.1]

section
variable {s t : State} (h : Works s t)
include h

theorem Works.take {c : Nat} {src : Source} (hcand : t.candidate c src = true) : Works s (t.take c src) := by
  obtain ⟨hlevel, hstate⟩ := State.of_candidate hcand
  have hc := State.lt_of_state hstate
  have hflags : Works s (t.setCtx c { t.ctx c with flags := (t.ctx c).flags &&& ~~~src.bit }) :=
    h.setCtx c _ (.of_frame_step rfl rfl)
  have hcount : ∀ l : Level, diversionCounter c l < 8 * t.ctxs.length := fun l => by
    cases l <;> simp only [diversionCounter] <;> omega
  refine Works.push (Works.setCtx (Works.releaseForces (Works.count (Works.report ((hflags.abandonStanding c).emergencyZero c _) ..)
    _ (.inl ?_)) c) c _ ?_) _ (List.forall_mem_append.mpr ⟨?_, ?_⟩)
  · simpa using hcount _
  · have hread : ∀ f : Ctx → Ctx, (t.setCtx c (f (t.ctx c))).ctx c = f (t.ctx c) := fun f => State.ctx_setCtx_self _ _ _ hc
    refine CtxMoves.of_jobs ?_ ?_ (fun hs => ?_) (fun _ hl => ?_) ?_ ?_ (fun _ => .inl rfl) (fun _ _ => rfl) ?_
    · simp [hc]
    · simp [Ctx.jobs, hc]
    · exact decide_eq_true (Ctx.stackLaw_take hlevel (by simpa [hc, Ctx.stackLaw] using hs))
    · have hl' : (t.ctx c).loopsOk = true := by simpa [hc, Ctx.loopsOk] using hl
      simpa [Ctx.loopsOk, loopsLaw] using Ctx.loopsOk_take hl'
    · intro _ hx; simp at hx
    · intro st hst; simp at hst
    · intro e; cases e
  · split <;> simp [Task.finishes]
  · simp [Task.finishes]

theorem Works.attempt (c : Nat) : Works s (t.attempt c) := by
  unfold State.attempt
  split
  · next src hsrc => exact h.take (t.candidate_of_toTake c src hsrc)
  · exact h

end

end Sys2Proof.Machine
end

section
/-!
The operations of the sequencers on jobs, rest and terminators as chains of updates (chapters 5 and 9).
-/
namespace Sys2Proof.Machine

/-! ### Paths that a context lets go -/

theorem length_releasePath (us path : List Nat) : (releasePath us path).length = us.length := by simp [releasePath]

theorem getD_releasePath (us path : List Nat) (i : Nat) :
    (releasePath us path).getD i 0 = if path.contains i then us.getD i 0 - 1 else us.getD i 0 := by
  rw [List.getD_eq_getElem?_getD, List.getD_eq_getElem?_getD, getElem?_releasePath]
  cases us[i]? <;> simp

/-- Releasing a path raises no count. -/
theorem releasePath_le {us path : List Nat} {b : Nat} (h : ∀ n ∈ us, n ≤ b) : ∀ n ∈ releasePath us path, n ≤ b := by
  intro n hn
  obtain ⟨i, hi⟩ := List.mem_iff_getElem?.mp hn
  rw [getElem?_releasePath] at hi
  obtain ⟨m, hm, rfl⟩ := Option.map_eq_some_iff.mp hi
  have := h m (List.mem_of_getElem? hm)
  split <;> omega

theorem Ctx.holds_of_perm {x : Ctx} {i : Nat} {paths : List (List Nat)} (h : x.heldPaths.Perm paths) :
    x.holds i = paths.countP fun path => path.contains i := h.countP_eq _

/-- A context that lets one job go, and changes no more than its queue and its running job. -/
theorem CtxMoves.of_release {s : State} {c : Nat} {x : Ctx} {path : List Nat} (hc : c < s.ctxs.length)
    (hunit : x.unit = (s.ctx c).unit) (hstate : x.state = (s.ctx c).state) (hisl : x.isl = (s.ctx c).isl)
    (hstack : x.stack = (s.ctx c).stack) (hloops : x.loops = (s.ctx c).loops) (hstep : x.step = (s.ctx c).step)
    (hqueue : x.queue.length ≤ (s.ctx c).queue.length) (hjob : x.job.isSome = true → (s.ctx c).job.isSome = true)
    (hempty : (s.ctx c).heldPaths = [] → x.heldPaths = []) (htags : x.tags.Subperm (s.ctx c).tags)
    (hheld : s.JobsOk c → (s.ctx c).heldPaths.Perm (path :: x.heldPaths)) :
    CtxMoves s c x (releasePath s.useCounts path) where
  fixed h := (Ctx.fixedSources_of_unit hunit).trans h
  stack h := by simpa [Ctx.stackLaw, hisl, hstack] using h
  bounded _ h := by
    obtain ⟨hq, hl⟩ := (Ctx.bounded_iff _).mp h
    exact (Ctx.bounded_iff _).mpr ⟨Nat.le_trans hqueue hq, by simpa [Ctx.loopsOk, hloops, hstack] using hl⟩
  stands h hx := by simpa [Ctx.active, hstate] using h (hstep ▸ hx)
  demand st h := .inl ⟨st, hstep ▸ h, rfl⟩
  plant h := .inl (by simpa [Ctx.active, hstate] using h)
  job h hx := by simpa [Ctx.active, hstate] using h (hjob hx)
  offline _ h hx := hempty (h (hstate ▸ hx))
  tags _ := .inl htags
  uses hl i hi := by
    have hn := hl.counted i hi
    have e : (s.ctx c).holds i = (if path.contains i then 1 else 0) + x.holds i := by
      rw [Ctx.holds_of_perm (hheld hl), List.countP_cons, Nat.add_comm]; rfl
    rw [getD_releasePath, ← State.useCount, e]
    rw [e] at hn
    split <;> split at hn <;> omega
  inside := .inl hc
  length := length_releasePath ..
  limit h := releasePath_le h

/-! ### Jobs -/

@[simp] theorem State.ctx_endJob (s : State) (d : Nat) (j : Job) (o : JobOutcome) (st : Option Nat) (r c : Nat) :
    (s.endJob d j o st r).ctx c = s.ctx c := by
  unfold State.endJob; dsimp only; split <;> exact s.ctx_report ..

/-- The running job of a context ends, and nothing else in it changes. -/
theorem State.ctx_endRunning (s : State) (c : Nat) (o : JobOutcome) : (s.endRunning c o).ctx c = { s.ctx c with job := none } := by
  unfold State.endRunning
  dsimp only
  split
  · next hj => rw [← hj]
  · next j hj =>
    have hc : c < s.ctxs.length := by
      by_contra hc
      rw [State.ctx_of_le (Nat.le_of_not_lt hc)] at hj
      exact absurd hj (by simp [Ctx.reset])
    simp [hc]

theorem outcomeCounter_lt {c n : Nat} {o : JobOutcome} (h : outcomeCounter c o = some n) : n < 8 * c + 8 := by
  cases o <;> simp only [outcomeCounter, Option.some.injEq, reduceCtorEq] at h <;> omega

/-- The report of a job's end and the release of its path touch no context. -/
theorem State.endJob_setCtx (s : State) (c : Nat) (x : Ctx) (j : Job) (o : JobOutcome) (st : Option Nat) (r : Nat) :
    (s.setCtx c x).endJob c j o st r =
      let u := s.report (some c) st (some j.tag) (.jobEnd o j.priority j.start r)
      let v := { u.setCtx c x with useCounts := releasePath u.useCounts j.path }
      match outcomeCounter c o with
      | some n => v.count n
      | none => v := by
  by_cases hlen : s.reports.length < Config.reports
  · simp only [State.endJob, State.report, State.setCtx, hlen, if_true] <;> rfl
  · simp only [State.endJob, State.report, State.setCtx, hlen, if_false] <;> rfl

/-- The report touches no context, no line and no use count. -/
theorem CtxMoves.report {s : State} {c : Nat} {x : Ctx} {us : List Nat} (h : CtxMoves s c x us) (d st : Option Nat)
    (tag : Option (BitVec 32)) (b : ReportBody) : CtxMoves (s.report d st tag b) c x us := by
  unfold State.report
  split
  · exact { h with
      tags := fun k => h.tags ⟨k.whole, k.runs, k.apart, k.counted⟩
      uses := fun k => h.uses ⟨k.whole, k.runs, k.apart, k.counted⟩
      offline := fun k => h.offline ⟨k.whole, k.runs, k.apart, k.counted⟩ }
  · exact { h with
      tags := fun k => h.tags ⟨k.whole, k.runs, k.apart, k.counted⟩
      uses := fun k => h.uses ⟨k.whole, k.runs, k.apart, k.counted⟩
      offline := fun k => h.offline ⟨k.whole, k.runs, k.apart, k.counted⟩ }

section
variable {s t : State} (h : Works s t)
include h

theorem Works.endJob {c : Nat} {x : Ctx} {j : Job} (o : JobOutcome) (st : Option Nat) (r : Nat) (hc : c < t.ctxs.length)
    (hx : CtxMoves t c x (releasePath t.useCounts j.path)) : Works s ((t.setCtx c x).endJob c j o st r) := by
  rw [State.endJob_setCtx]
  have hu := (h.report (some c) st (some j.tag) (.jobEnd o j.priority j.start r)).ctx c x _ (hx.report ..)
  rw [show t.useCounts = (t.report (some c) st (some j.tag) (.jobEnd o j.priority j.start r)).useCounts by simp] at hu
  dsimp only
  split
  · next n hn =>
    refine hu.count n (.inl ?_)
    have := outcomeCounter_lt hn
    simp
    omega
  · exact hu

theorem Works.endRunning (c : Nat) (o : JobOutcome) : Works s (t.endRunning c o) := by
  unfold State.endRunning
  dsimp only
  split
  · exact h
  · next j hj =>
    have hc : c < t.ctxs.length := by
      by_contra hc
      rw [State.ctx_of_le (Nat.le_of_not_lt hc)] at hj
      exact absurd hj (by simp [Ctx.reset])
    refine h.endJob o _ _ hc (.of_release hc rfl rfl rfl rfl rfl rfl (Nat.le_refl _) ?_ ?_ ?_ ?_)
    · simp
    · simp +contextual [Ctx.heldPaths]
    · simpa [Ctx.tags] using (List.sublist_append_left _ _).subperm
    · intro _
      simp only [Ctx.heldPaths, hj, Option.map_some, Option.toList_some, Option.map_none, Option.toList_none, List.append_nil]
      exact List.perm_append_singleton ..

theorem Works.startJob {c : Nat} (hidle : (t.ctx c).state = .idle) : Works s (t.startJob c) := by
  unfold State.startJob
  dsimp only
  split
  · exact h
  · next j rest hq =>
    have hact : (t.ctx c).active = false := by simp [Ctx.active, hidle]
    have hnone : (t.ctx c).jobRuns → (t.ctx c).job = none := fun hr => by
      by_contra hj
      exact absurd (hr (by simpa [Option.isSome_iff_ne_none] using hj)) (by simp [hact])
    refine ((Works.setCtx h c _ ?_).releaseForces c).push _ (by simp [Task.finishes])
    exact
      { fixed := id
        stack := fun hs => by simpa [Ctx.stackLaw] using hs
        bounded := fun _ hb => by
          simp only [Ctx.bounded, hq, List.length_cons, Bool.and_eq_true, decide_eq_true_eq] at hb ⊢
          exact ⟨⟨by omega, by simp [loopsLaw]⟩, hb.2⟩
        stands := fun _ _ => rfl
        demand := fun st hst => .inl ⟨st, hst, rfl⟩
        plant := fun ha => by simp [hact] at ha
        job := fun _ _ => rfl
        offline := fun _ _ e => by cases e
        tags := fun hl => .inl (by
          simp only [Ctx.tags, hnone hl.runs, hq, Option.map_some, Option.toList_some, Option.map_none, Option.toList_none,
            List.append_nil, List.map_cons]
          exact (List.perm_append_singleton ..).subperm)
        uses := fun hl i _ => by
          have hperm : ({ t.ctx c with
              queue := rest, job := some { job := j, startTime := t.now, runTime := 0 }, autoPark := none, loops := [],
              cur := some j.start, state := .running } : Ctx).heldPaths.Perm (t.ctx c).heldPaths := by
            simp only [Ctx.heldPaths, hnone hl.runs, hq, Option.map_some, Option.toList_some, Option.map_none,
              Option.toList_none, List.append_nil, List.map_cons, List.append_assoc]
            exact (List.perm_append_singleton ..).append_left _
          rw [Ctx.holds_of_perm hperm]; rfl
        inside := .inr rfl
        length := rfl
        limit := id }

/-! ### Rest -/

omit h in
/-- A context without reservation and group after its release (R133). -/
theorem State.holdsPlant_release (u : State) (c : Nat) : (u.release c).holdsPlant c = false := by
  simp only [State.holdsPlant, State.release, Bool.or_eq_false_iff, List.any_eq_false, List.mem_map, forall_exists_index, and_imp,
    forall_apply_eq_imp_iff₂]
  refine ⟨fun x _ => ?_, fun g _ => ?_⟩
  · by_cases hc : c < x.reservations.length
    · simp [Supply.reserved, hc]
    · simp [Supply.reserved, List.getD_eq_getElem?_getD, hc]
  · split <;> simp_all

omit h in
/-- A context that is at rest on a step: no step stands, no loop level is open (R79, R87, R88). -/
theorem CtxMoves.of_rest {u : State} {c : Nat} {x : Ctx} (hunit : x.unit = (u.ctx c).unit) (hjobs : x.jobs = (u.ctx c).jobs)
    (hisl : x.isl = (u.ctx c).isl) (hstack : x.stack = (u.ctx c).stack) (hloops : x.loops = []) (hstep : x.step = none)
    (hstate : x.state ≠ .offline) (hplant : (u.ctx c).active = true → u.holdsPlant c = false)
    (hjob : (u.ctx c).jobRuns → (u.ctx c).job = none) : CtxMoves u c x u.useCounts := by
  have hj : x.job = (u.ctx c).job := by simp only [Ctx.jobs, Prod.mk.injEq] at hjobs; exact hjobs.2.2
  refine CtxMoves.of_jobs hunit hjobs ?_ (fun _ hl => ?_) (fun _ hx => ?_) (fun st hst => ?_) (fun ha => .inr (hplant ha)) ?_
    (fun e => absurd e hstate)
  · simp [Ctx.stackLaw, hisl, hstack]
  · simp only [Ctx.loopsOk, hloops, hstack, Bool.and_eq_true] at hl ⊢
    exact ⟨rfl, hl.2⟩
  · simp [hstep] at hx
  · simp [hstep] at hst
  · intro hr hx
    rw [hj, hjob hr] at hx
    exact absurd hx (by simp)

omit h in
/-- A context that is neither RUNNING nor DIVERTED has no running job under the job law. -/
theorem Ctx.job_of_not_active {x : Ctx} (ha : x.active = false) (hr : x.jobRuns) : x.job = none := by
  by_contra hj
  exact absurd (hr (by simpa [Option.isSome_iff_ne_none] using hj)) (by simp [ha])

theorem Works.idleRest {c : Nat} (hj : (t.ctx c).jobRuns → (t.ctx c).job = none) : Works s (t.idleRest c) := by
  have hrest := (h.applyRest c (t.ctx c).cfg.idleStep).release c
  refine Works.setCtx hrest c _ ?_
  refine .of_rest ?_ ?_ rfl rfl rfl rfl (by simp) (fun _ => State.holdsPlant_release ..) ?_
  · rfl
  · rfl
  · simpa using hj

theorem Works.restStart (c : Nat) : Works s (t.restStart c) := by
  unfold State.restStart
  dsimp only
  split
  · next hidle =>
    split
    · refine h.setCtx c _ ?_
      exact .of_frame_step rfl rfl
    · exact h.startJob hidle
  · exact h

theorem Works.idleEntry {c : Nat} (hj : (t.ctx c).jobRuns → (t.ctx c).job = none) : Works s (t.idleEntry c) :=
  ((h.idleRest hj).push _ (by simp [Task.finishes])).triggerIf _

theorem Works.parkAt {c : Nat} (ha : (t.ctx c).active = false) (l : ParkLevel) : Works s (t.parkAt c l) := by
  refine Works.triggerIf (Works.setCtx (Works.setCtx (h.applyRest c ((t.ctx c).cfg.parkStep l)) c _ ?_) c _ ?_) _
  · refine .of_rest rfl rfl rfl rfl rfl rfl (by simp) (fun he => ?_) fun hr => ?_
    · simp [ha] at he
    · exact Ctx.job_of_not_active (by simpa using ha) hr
  · exact .of_frame_step rfl rfl

theorem Works.wakeEnd {c : Nat} (ha : (t.ctx c).active = false) : Works s (t.wakeEnd c) := by
  refine Works.triggerIf (Works.push (Works.release (Works.setCtx h c _ ?_) c) _ (by simp [Task.finishes])) _
  refine .of_jobs rfl rfl ?_ (fun _ hl => hl) (fun _ hx => by simp at hx) (fun st hst => by simp at hst)
    (fun he => by simp [ha] at he) (fun hr hx => ?_) (fun e => by cases e)
  · simp [Ctx.stackLaw]
  · rw [Ctx.job_of_not_active ha hr] at hx
    exact absurd hx (by simp)

theorem Works.wakeFrom {c : Nat} (ha : (t.ctx c).active = false) (hc : c < t.ctxs.length) (l : ParkLevel) :
    Works s (t.wakeFrom c l) := by
  have hrest : Works s ((t.rest c (t.ctx c).cfg.idleStep .waking).releaseForces c) := by
    refine Works.releaseForces (Works.setCtx (h.applyRest c (t.ctx c).cfg.idleStep) c _ ?_) c
    refine .of_rest rfl rfl rfl rfl rfl rfl (by simp) (fun he => ?_) fun hr => ?_
    · simp [ha] at he
    · exact Ctx.job_of_not_active (by simpa using ha) hr
  have hdelay : Works s (((t.rest c (t.ctx c).cfg.idleStep .waking).releaseForces c).setCtx c
      { ((t.rest c (t.ctx c).cfg.idleStep .waking).releaseForces c).ctx c with
        wakeDelay := some { start := t.now, dur := wakeSeconds ((t.ctx c).cfg.wakeCode l) * 1000000 } }) := by
    refine hrest.setCtx c _ ?_
    exact .of_frame_step rfl rfl
  unfold State.wakeFrom
  dsimp only
  refine Works.triggerIf ?_ _
  split
  · refine hdelay.wakeEnd ?_
    simp [State.rest, hc, Ctx.active]
  · exact hdelay

/-! ### Terminators -/

theorem Works.returnStep (c : Nat) : Works s (t.returnStep c) := by
  unfold State.returnStep
  dsimp only
  split
  · exact h
  · next r hr =>
    have hstack : (t.ctx c).stack = (t.ctx c).stack.dropLast ++ [r] := (List.dropLast_append_getLast? r hr).symm
    refine (Works.setCtx h c _ ?_).push _ (by simp [Task.finishes])
    refine .of_jobs rfl rfl (fun hs => ?_) (fun _ hl => ?_) (fun _ _ => ?_) (fun st hst => .inl ⟨st, hst, rfl⟩)
      (fun _ => .inl ?_) (fun _ _ => ?_) (fun e => ?_)
    · have hs' : ((t.ctx c).stack.map (levelRank ·.level) ++ [levelRank (t.ctx c).isl]).Pairwise (· < ·) := by
        simpa [Ctx.stackLaw] using hs
      rw [hstack, List.map_append, List.map_cons, List.map_nil] at hs'
      exact decide_eq_true (List.Pairwise.sublist (List.sublist_append_left ..) hs')
    · simp only [Ctx.loopsOk, Bool.and_eq_true, List.all_eq_true] at hl ⊢
      exact ⟨hl.2 r (List.mem_of_getLast? hr), fun x hx => hl.2 x (List.mem_of_mem_dropLast hx)⟩
    · dsimp only [Ctx.active]; split <;> rfl
    · dsimp only [Ctx.active]; split <;> rfl
    · dsimp only [Ctx.active]; split <;> rfl
    · dsimp only at e; split at e <;> cases e

/-- A handler ends: the stack is emptied and the in-service level NONE (R172, R173). -/
theorem Works.emptyStack (c : Nat) : Works s (t.setCtx c { t.ctx c with stack := [], isl := .none }) := by
  refine h.setCtx c _ ?_
  refine .of_jobs rfl rfl (fun _ => ?_) (fun _ hl => ?_) id (fun st hst => .inl ⟨st, hst, rfl⟩) (fun ha => .inl ha) id id
  · simp [Ctx.stackLaw]
  · simp only [Ctx.loopsOk, Bool.and_eq_true] at hl ⊢
    exact ⟨hl.1, rfl⟩

theorem Works.haltStep (c : Nat) : Works s (t.haltStep c) := by
  have hend := (((h.emptyStack c).zeroHot c).endRunning c .halted).release c
  refine Works.triggerIf (Works.setCtx hend c _ ?_) _
  refine .of_rest rfl rfl rfl rfl rfl rfl (by simp) (fun _ => State.holdsPlant_release ..) fun _ => ?_
  rw [State.ctx_release, State.ctx_endRunning]

theorem Works.abandonStep (c : Nat) : Works s (t.abandonStep c) := by
  refine Works.idleEntry (((h.emptyStack c).endRunning c .aborted).push _ (by simp [Task.finishes])) fun _ => ?_
  rw [State.ctx_push, State.ctx_endRunning]

theorem Works.jobEndStep (c : Nat) : Works s (t.jobEndStep c) := by
  unfold State.jobEndStep
  split
  · exact h
  · refine (h.endRunning c .completed).idleEntry fun _ => ?_
    rw [State.ctx_endRunning]

/-! ### Loops and taking up -/

theorem Works.loopEnd (c : Nat) (st : Step) : Works s (t.loopEnd c st) := by
  unfold State.loopEnd
  dsimp only
  split
  · exact h
  · next l hl =>
    have hloops : (t.ctx c).loops = (t.ctx c).loops.dropLast ++ [l] := (List.dropLast_append_getLast? l hl).symm
    have move : ∀ ls, ((t.ctx c).loopsOk = true → loopsLaw ls = true) → Works s (t.setCtx c { t.ctx c with loops := ls }) := by
      intro ls hls
      refine h.setCtx c _ ?_
      refine .of_jobs rfl rfl (fun hs => hs) (fun _ hok => ?_) id (fun st hst => .inl ⟨st, hst, rfl⟩) (fun ha => .inl ha) id id
      have := hls hok
      simp only [Ctx.loopsOk, Bool.and_eq_true] at hok ⊢
      exact ⟨this, hok.2⟩
    split
    · next hlt =>
      refine (move _ fun hok => ?_).push _ (by simp [Task.finishes])
      simp only [Ctx.loopsOk, Bool.and_eq_true] at hok
      rw [hloops] at hok
      simp only [loopsLaw, List.length_append, List.all_append, Bool.and_eq_true, decide_eq_true_eq, List.all_cons, List.all_nil,
        List.length_cons, List.length_nil] at hok ⊢
      exact ⟨hok.1.1, hok.1.2.1, ⟨by omega, by omega⟩, trivial⟩
    · refine (move _ fun hok => ?_).push _ (by simp [Task.finishes])
      simp only [Ctx.loopsOk, Bool.and_eq_true] at hok
      rw [hloops] at hok
      simp only [loopsLaw, List.length_append, List.all_append, Bool.and_eq_true, decide_eq_true_eq, List.length_cons,
        List.length_nil] at hok ⊢
      exact ⟨by omega, hok.1.2.1⟩

omit h in
/-- A step of the store has a loop count of 1 or more where the records are in range (Table 4-1). -/
theorem one_le_loopCount {records : List Record} {k : Nat} {st : Step} (hr : records.all Record.inRange = true)
    (hst : stepAt records k = some st) : 1 ≤ st.head.loopCount := by
  unfold stepAt at hst
  split at hst
  · next hd is more hk =>
    cases hst
    have hmem : Record.head hd is more ∈ records := by
      rw [List.getD_eq_getElem?_getD] at hk
      cases hx : records[k]? with
      | none => simp [hx] at hk
      | some r => rw [hx] at hk; exact hk ▸ List.mem_of_getElem? hx
    have := List.all_eq_true.mp hr _ hmem
    simp only [Record.inRange, Head.inRange, Bool.and_eq_true, decide_eq_true_eq] at this
    dsimp only
    omega
  · cases hst

theorem Works.loopBegin {c k : Nat} {st : Step} (hst : stepAt t.records k = some st) : Works s (t.loopBegin c k st) := by
  refine (Works.setCtx h c _ ?_).push _ (by simp [Task.finishes])
  refine .of_jobs rfl rfl (fun hs => hs) (fun hr hok => ?_) id (fun st hst => .inl ⟨st, hst, rfl⟩) (fun ha => .inl ha) id id
  have hcount := one_le_loopCount hr hst
  simp only [Ctx.loopsOk, Bool.and_eq_true] at hok ⊢
  refine ⟨?_, hok.2⟩
  split
  · simp only [loopsLaw, List.length_append, List.all_append, Bool.and_eq_true, decide_eq_true_eq, List.length_cons,
      List.length_nil, List.all_cons, List.all_nil] at hok ⊢
    exact ⟨by omega, hok.1.2, ⟨Nat.le_refl 1, hcount⟩, trivial⟩
  · exact hok.1

theorem Works.takeUpStep {c k credit : Nat} {st : Step} (hst : stepAt t.records k = some st) (ha : (t.ctx c).active = true) :
    Works s (t.takeUpStep c k credit st) := by
  unfold State.takeUpStep
  split
  · exact h.loopBegin hst
  · exact h.loopEnd c st
  · exact h.jobEndStep c
  · exact h.returnStep c
  · exact h.haltStep c
  · exact h.abandonStep c
  · have hc := State.lt_of_active ha
    refine Works.present (h.setCtx c _ ?_) (by rw [State.ctx_setCtx_self _ _ _ hc])
    exact .of_frame rfl fun st' e => by cases e; exact ⟨.inr ha, t.carries_admitState ..⟩

theorem Works.takeUp (c k credit : Nat) : Works s (t.takeUp c k credit) := by
  unfold State.takeUp
  split
  · exact h
  · next st hst =>
    split
    · next ha =>
      have hc := State.lt_of_active ha
      refine Works.takeUpStep (Works.setCtx h c _ ?_) hst ?_
      · exact .of_frame_none rfl rfl
      · rw [State.ctx_setCtx_self _ _ _ hc]; exact ha
    · exact h

end

end Sys2Proof.Machine
end

section
/-!
The gate controller, the frame's evaluations and collections, and so every piece of work but the last of a return pass, as chains of
updates (chapters 2, 3 and 8).
-/
namespace Sys2Proof.Machine

section
variable {s t : State} (h : Works s t)
include h

/-! ### Gates -/

theorem Works.changeGate {g : Nat} {x x' : Gate} (hg : t.gate g = some x) (hcfg : x'.cfg = x.cfg)
    (ht : x.timed = true → x'.timed = true) (cause : GateCause) (reading : Option Reading) :
    Works s (t.changeGate g x x' cause reading) :=
  ((h.gate g x x' hg hcfg ht).report ..).push _ (by simp [Task.finishes])

theorem Works.reformNeeds (c : Nat) : Works s (t.reformNeeds c) := by
  refine h.modStep c _ fun st hst => ?_
  dsimp only
  split
  · exact .inr fun _ => State.feeds_of_demandOf
  · exact State.carries_of_eq hst rfl

omit h in
@[simp] theorem State.gate_reformNeeds (u : State) (c g : Nat) : (u.reformNeeds c).gate g = u.gate g := rfl

omit h in
@[simp] theorem State.gate_zeroHot (u : State) (c g : Nat) : (u.zeroHot c).gate g = u.gate g := rfl

omit h in
@[simp] theorem State.gate_retarget (u : State) (p v d g : Nat) : (u.retarget p v d).gate g = u.gate g := by
  simp [State.gate]

theorem Works.enterFault {g : Nat} {x : Gate} (hg : t.gate g = some x) (cause : GateCause) (reading : Option Reading) :
    Works s (t.enterFault g x cause reading) := by
  generalize hout : (if t.targetOf x.cfg.openOut = 0 then t else t.retarget x.cfg.openOut 0 0) = u
  have hu : Works s u ∧ u.gate g = some x := by
    subst hout
    split
    · exact ⟨h, hg⟩
    · exact ⟨h.retarget .., by simp [hg]⟩
  unfold State.enterFault
  rw [hout]
  dsimp only
  split
  · refine Works.changeGate ((((hu.1.zeroHot _).zeroHot _).reformNeeds _).reformNeeds _) ?_ ?_ ?_ ..
    · simp [hu.2]
    · rfl
    · exact fun _ => rfl
  · refine Works.changeGate hu.1 hu.2 ?_ ?_ ..
    · rfl
    · exact fun _ => rfl

theorem Works.openGate {g : Nat} {x : Gate} (hg : t.gate g = some x) (cause : GateCause) : Works s (t.openGate g x cause) := by
  refine Works.changeGate (h.retarget ..) ?_ ?_ ?_ ..
  · simp [hg]
  · rfl
  · exact fun _ => rfl

theorem Works.closeGate {g : Nat} {x : Gate} (hg : t.gate g = some x) (cause : GateCause) : Works s (t.closeGate g x cause) := by
  have hmove := (h.retarget x.cfg.openOut 0 0).changeGate (g := g) (x := x)
    (x' := { x with state := .closing, timer := motionTimer x.cfg t.now }) (by simp [hg]) rfl (fun _ => rfl)
    cause none
  unfold State.closeGate
  split
  · exact hmove
  · exact hmove
  · exact hmove
  · exact h
  · exact h

theorem Works.gateStart (c g : Nat) (opening : Bool) : Works s (t.gateStart c g opening) := by
  unfold State.gateStart
  split
  · exact h
  · next x hg =>
    split
    · exact h.openGate hg _
    · split
      · exact h.push _ (by simp [Task.finishes])
      · exact h.closeGate hg _

theorem Works.tellSequencer (g : Nat) : Works s (t.tellSequencer g) := by
  unfold State.tellSequencer
  split
  · exact h
  · next x _ =>
    split
    · exact h
    · next st _ =>
      have hpush := h.push [.stepEnd x.cfg.owner .none] (by simp [Task.finishes])
      dsimp only
      repeat' split
      all_goals assumption

theorem Works.tellUnit (g : Nat) (held : Bool) : Works s (t.tellUnit g held) := by
  unfold State.tellUnit
  split
  · exact h
  · dsimp only
    split
    · exact (h.raiseFlag ..).attempt _
    · split
      · exact h.attempt _
      · exact h

omit h in
/-- A gate that a reading moves out of a motion has come to its end (Table 8-4). -/
theorem readingMoves_rests {st st' : GateState} {r : Reading} (h : readingMoves st r = some st') : st' ≠ .opening ∧ st' ≠ .closing := by
  cases st <;> cases r <;> simp_all [readingMoves]
  all_goals subst h; simp

theorem Works.readGate (g image len : Nat) : Works s (t.readGate g image len) := by
  unfold State.readGate
  split
  · exact h
  · next x hg =>
    split
    · exact h
    · split
      · exact h.gate g x _ hg rfl id
      · exact h.enterFault hg ..
      · next st' _ hmoves =>
        obtain ⟨hopening, hclosing⟩ := readingMoves_rests hmoves
        refine Works.changeGate h hg ?_ ?_ ..
        · rfl
        · exact fun _ => by simp [Gate.timed, hopening, hclosing]

theorem Works.compareGate (g image len : Nat) : Works s (t.compareGate g image len) := by
  unfold State.compareGate
  split
  · exact h
  · next x hg =>
    dsimp only
    split
    · split
      · refine (h.gate g x { x with tripRaised := true } hg rfl id).push _ ?_
        simp [Task.finishes]
      · exact h
    · exact h

theorem Works.motionExpiry (g : Nat) : Works s (t.motionExpiry g) := by
  unfold State.motionExpiry
  split
  · exact h
  · next hg =>
    split
    · exact h.enterFault hg ..
    · exact h

/-! ### Nodes and samples -/

theorem Works.nodeReport (n : Nat) (x : Node) (e : NodeEvent) (touch : Byte) : Works s (t.nodeReport n x e touch) := h.report ..

theorem Works.seeNode (n : Nat) (x : Node) (touch : Byte) : Works s (t.seeNode n x touch) := by
  have hset := h.node n { x with age := 0, state := .fresh, lastSeen := some t.now } (Nat.zero_le 3)
  unfold State.seeNode
  dsimp only
  split
  · exact hset.nodeReport ..
  · exact hset

theorem Works.missNode (n : Nat) (x : Node) (touch : Byte) (conflict : Bool) : Works s (t.missNode n x touch conflict) := by
  unfold State.missNode
  dsimp only
  generalize hx : ({ x with
      age := min (x.age + 1) 3, conflict := x.conflict || conflict,
      state := if (x.state == .fresh && decide (x.cfg.staleAfter ≤ min (x.age + 1) 3)) = true then .stale else x.state } : Node) = x'
  have hage : x'.age ≤ 3 := hx ▸ Nat.min_le_right ..
  have hmiss : Works s (if (conflict && !x.conflict) = true then ((t.setNode n (some x')).count (53 + n)).nodeReport n x' .conflict touch
      else (t.setNode n (some x')).count (53 + n)) := by
    have hcount := (h.node n x' hage).count (53 + n) (.inr (Nat.le_add_right ..))
    split
    · exact hcount.nodeReport ..
    · exact hcount
  split
  · have hstale := (hmiss.staleNode n).nodeReport n x' .stale touch
    split
    · exact hstale.push _ (List.forall_mem_map.mpr fun _ _ => rfl)
    · exact hstale
  · exact hmiss

theorem Works.evaluateNode (n : Nat) (touch : Byte) : Works s (t.evaluateNode n touch) := by
  unfold State.evaluateNode
  split
  · split
    · exact h.seeNode ..
    · exact h.missNode ..
  · exact h

theorem Works.collectPoint (p x : Nat) : Works s (t.collectPoint p x) := by
  unfold State.collectPoint
  split
  · next cfg st hp =>
    have hset : ∀ st', Works s (t.setPoint p (.sample cfg st')) := fun st' => h.setPoint p _ (hp ▸ .sample ..)
    split
    · dsimp only
      split
      · split
        · exact (hset _).push _ (List.forall_mem_map.mpr fun _ _ => rfl)
        · exact hset _
      · exact hset _
    · exact hset _
  · exact h

end

/-- Every piece of work but the last of a return pass is a chain of updates. -/
theorem doTask_works {x : Task} (hx : x.finishes = false) (s : State) : Works s (doTask x s) := by
  have h := Works.refl (s := s)
  cases x with
  | takeUp c head credit => exact h.takeUp ..
  | restStart c => exact h.restStart c
  | attempt c => exact h.attempt c
  | raise c src => exact h.raiseSource ..
  | trigger => exact h.trigger
  | scan left => exact h.scanOn left
  | admitEnd c => exact h.admitEnd c
  | stepEnd c reason => exact h.endStep ..
  | gateStart c gate opening => exact h.gateStart ..
  | tellSequencer gate => exact h.tellSequencer gate
  | tellUnit gate held => exact h.tellUnit ..
  | evalNode node touch => exact h.evaluateNode ..
  | collect point x => exact h.collectPoint ..
  | notifyCtx c image len => exact h.notifyCtx ..
  | readGate gate image len => exact h.readGate ..
  | compareGate gate image len => exact h.compareGate ..
  | notifyArbiter image len => exact h.notifyArbiter ..
  | finishReturn image f => cases hx

end Sys2Proof.Machine
end

section
/-!
What a command can do once its interval has passed: the work of its event (`Works`), and the updates that the command itself makes.
`Acts s t` says that t comes of s by such a chain.
-/
namespace Sys2Proof.Machine

/-- t comes of s by what a command other than RESET does when its interval has passed. -/
inductive Acts (s : State) : State → Prop
  | refl : Acts s s
  | works {t u : State} (h : Acts s t) (k : Works t u) : Acts s u
  | agenda {t : State} (h : Acts s t) (ts : List Task) : Acts s { t with agenda := ts }
  | other {t : State} (h : Acts s t) (up down : Option Frame) (degraded : Bool) (holder : Option Held) (loader : Loader) (inUse : InUse)
      (free : Nat) :
      Acts s { t with sentU := up, sentD := down, degraded := degraded, holder := holder, loader := loader, inUse := inUse, free := free }
  | badRun {t : State} (h : Acts s t) (n : Nat) (hn : n ≤ 255) : Acts s { t with badRun := n }
  | ring {t : State} (h : Acts s t) (r : Ring) (g : Option Timer) (hg : g.isSome = (r == .up)) :
      Acts s { t with ring := r, gapTimer := g }
  | count {t : State} (h : Acts s t) (n : Nat) : Acts s (t.count n)
  | tally {t : State} (h : Acts s t) (rs : List Report) (n : Nat) (ks : List Counter) (hrs : rs.length ≤ t.reports.length)
      (hn : n ≤ t.lost) (hlen : ks.length = t.counters.length) (hks : ∀ k ∈ ks, k ∈ t.counters ∨ k.value = 0) :
      Acts s { t with reports := rs, lost := n, counters := ks }
  | points {t : State} (h : Acts s t) (ps : List Point) (hlen : ps.length = t.points.length)
      (hforce : t.hotUnforced = true → { t with points := ps }.hotUnforced = true)
      (hfeeds : ∀ c l, (t.ctx c).active = true → t.feeds c l = true → { t with points := ps }.feeds c l = true) :
      Acts s { t with points := ps }
  | nodes {t : State} (h : Acts s t) (ns : List (Option Node)) (hlen : ns.length = t.nodes.length)
      (hage : ∀ x, some x ∈ ns → some x ∈ t.nodes ∨ x.age ≤ 3) : Acts s { t with nodes := ns }
  | gates {t : State} (h : Acts s t) (gs : List (Option Gate)) (hlen : gs.length = t.gates.length)
      (htimed : ∀ x, some x ∈ gs → some x ∈ t.gates ∨ x.timed = true) : Acts s { t with gates := gs }
  | records {t : State} (h : Acts s t) (rs : List Record) (hlen : rs.length = t.records.length)
      (hrange : ∀ r ∈ rs, r ∈ t.records ∨ r.inRange = true)
      (hheld : ∀ i, 0 < s.useCount i → rs.getD i .empty = t.record i) : Acts s { t with records := rs }
  | supply {t : State} (h : Acts s t) (e : SupplyWrite) (hfree : t.lineInUse e.line = false) : Acts s (t.writeSupply e)
  | members {t : State} (h : Acts s t) (gs : List Roughing) (hholders : gs.map (·.holder) = t.groups.map (·.holder)) :
      Acts s { t with groups := gs }
  | waits {t : State} (h : Acts s t) (ws : List WaitEntry)
      (hplaces : ws.map (fun e => (e.ctx, e.cls, e.priority)) = t.waits.map fun e => (e.ctx, e.cls, e.priority)) :
      Acts s { t with waits := ws }
  | tables {t : State} (h : Acts s t) : Acts s t.softResetTables
  | unsized {t : State} (h : Acts s t) (us : List Nat) (hs : t.ctxs.length < Config.contexts) : Acts s { t with useCounts := us }

/-- What a command does follows on what it did before that touched no use count. -/
theorem Acts.trans {s t u : State} (h : Acts s t) (hu : t.useCounts = s.useCounts) (k : Acts t u) : Acts s u := by
  induction k with
  | refl => exact h
  | works _ k ih => exact ih.works k
  | agenda _ ts ih => exact ih.agenda ts
  | other _ a b c d e f g ih => exact ih.other a b c d e f g
  | badRun _ n hn ih => exact ih.badRun n hn
  | ring _ r g hg ih => exact ih.ring r g hg
  | count _ n ih => exact ih.count n
  | tally _ rs n ks hrs hn hlen hks ih => exact ih.tally rs n ks hrs hn hlen hks
  | points _ ps hlen hforce hfeeds ih => exact ih.points ps hlen hforce hfeeds
  | nodes _ ns hlen hage ih => exact ih.nodes ns hlen hage
  | gates _ gs hlen htimed ih => exact ih.gates gs hlen htimed
  | records _ rs hlen hrange hheld ih => exact ih.records rs hlen hrange (by simpa only [State.useCount, hu] using hheld)
  | supply _ e hfree ih => exact ih.supply e hfree
  | members _ gs hh ih => exact ih.members gs hh
  | waits _ ws hp ih => exact ih.waits ws hp
  | tables _ ih => exact ih.tables
  | unsized _ us hs ih => exact ih.unsized us hs

theorem Works.acts {s t : State} (h : Works s t) : Acts s t := Acts.refl.works h

section
variable {s t : State} (h : Acts s t)
include h

theorem Acts.push (ts : List Task) : Acts s (t.push ts) := h.agenda _

theorem Acts.sendU (f : Frame) : Acts s (t.sendU f) := h.other _ t.sentD t.degraded t.holder t.loader t.inUse t.free

theorem Acts.sendD (f : Frame) : Acts s (t.sendD f) := h.other t.sentU _ t.degraded t.holder t.loader t.inUse t.free

theorem Acts.forward (p : Port) (f : Frame) : Acts s (t.forward p f) := by
  cases p with
  | u => exact h.sendD f
  | d => exact h.sendU f

theorem Acts.setHolder (x : Option Held) : Acts s { t with holder := x } := h.other t.sentU t.sentD t.degraded x t.loader t.inUse t.free

theorem Acts.setLoader (l : Loader) (u : InUse) : Acts s { t with loader := l, inUse := u } :=
  h.other t.sentU t.sentD t.degraded t.holder l u t.free

theorem Acts.setFree (n : Nat) : Acts s { t with free := n } := h.other t.sentU t.sentD t.degraded t.holder t.loader t.inUse n

theorem Acts.holdResponse (f : Frame) (r : Response) (soft : Bool) : Acts s (t.holdResponse f r soft) := (h.setHolder _).forward ..

theorem Acts.goodArrival : Acts s t.goodArrival := h.badRun 0 (Nat.zero_le _)

theorem Acts.badArrival (p : Port) (f : Frame) : Acts s (t.badArrival p f) :=
  ((((h.badRun _ (Nat.min_le_right ..)).other t.sentU t.sentD (t.degraded || decide (3 ≤ min (t.badRun + 1) 255)) t.holder t.loader
    t.inUse t.free)).count 51).forward ..

/-! ### The event's work -/

theorem Acts.finishReturn (image : Nat) (f : Frame) : Acts s (t.finishReturn image f) := by
  unfold State.finishReturn
  split
  · exact (h.ring .up _ rfl).sendU _
  · exact h.sendU _

theorem Acts.doTask (x : Task) : Acts s (doTask x t) := by
  cases hx : x.finishes with
  | false => exact h.works (doTask_works hx t)
  | true =>
    cases x with
    | finishReturn image f => exact h.finishReturn image f
    | _ => cases hx

theorem Acts.settle : Acts s t.settle := t.settle_induction (Acts s) (fun x _ k => k.doTask x) (fun _ ts k => k.agenda ts) h

end

end Sys2Proof.Machine
end

section
/-!
The checks of requests that carry entries, and the writes of points, nodes, lines, groups, gates and records as chains of updates (chapters
2, 3, 4, 7 and 8).
-/
namespace Sys2Proof.Machine

/-! ### Checks -/

theorem firstRefusal_eq_none {checks : List (Option Response)} : firstRefusal checks = none ↔ ∀ x ∈ checks, x = none := by
  simp [firstRefusal, List.findSome?_eq_none_iff]

@[simp] theorem refuseIf_eq_none {b : Bool} {r : Response} : refuseIf b r = none ↔ b = false := by
  cases b <;> simp [refuseIf]

/-- Entries that pass their checks pass each by itself, and stand at indices that differ. -/
theorem checkEntries_eq_none {α : Type} {index : α → Nat} {check : α → Option Response} {es : List α} {seen : List Nat}
    (h : checkEntries index check seen es = none) :
    (∀ e ∈ es, check e = none) ∧ (es.map index).Nodup ∧ ∀ e ∈ es, index e ∉ seen := by
  induction es generalizing seen with
  | nil => simp
  | cons e es ih =>
    unfold checkEntries at h
    split at h
    · cases h
    · next hnone =>
      simp only [firstRefusal_eq_none, List.forall_mem_cons, refuseIf_eq_none] at hnone
      obtain ⟨hseen, hcheck, -⟩ := hnone
      obtain ⟨hall, hnodup, hfresh⟩ := ih h
      have hseen' : index e ∉ seen := by simpa using hseen
      refine ⟨List.forall_mem_cons.mpr ⟨hcheck, hall⟩, List.nodup_cons.mpr ⟨fun hmem => ?_, hnodup⟩,
        List.forall_mem_cons.mpr ⟨hseen', fun k hk hmem => hfresh k hk (List.mem_cons_of_mem _ hmem)⟩⟩
      obtain ⟨k, hk, hke⟩ := List.mem_map.mp hmem
      exact hfresh k hk (by simp [hke])

/-! ### Points -/

/-- A context feeds a line by a FLOW SET point of its own in the table. -/
theorem State.feeds_iff {s : State} {c l : Nat} :
    s.feeds c l = true ↔ ∃ (p : Nat) (cfg : PointCfg) (r : SetRec), s.points[p]? = some (.set cfg r) ∧ cfg.quantity = .flow ∧ cfg.line = some l ∧ cfg.owner = .ctx c := by
  simp only [State.feeds, List.any_eq_true, List.mem_iff_getElem?]
  constructor
  · rintro ⟨x, ⟨p, hp⟩, hx⟩
    split at hx
    · next cfg r => exact ⟨p, cfg, r, hp, by simpa [and_assoc] using hx⟩
    · cases hx
  · rintro ⟨p, cfg, r, hp, hq, hl, ho⟩
    exact ⟨_, ⟨p, hp⟩, by simp [hq, hl, ho]⟩

/-- A point that is no forced FLOW or POWER point (R33). -/
def Point.unforced : Point → Bool
  | .set cfg r => !cfg.flowOrPower || r.forced.isNone
  | _ => true

theorem State.hotUnforced_iff (s : State) : s.hotUnforced = true ↔ ∀ p ∈ s.points, p.unforced = true := by
  rw [State.hotUnforced, List.all_eq_true]
  exact forall₂_congr fun p _ => by cases p <;> rfl

section
variable {s t : State} (h : Acts s t)
include h

/-- One entry of the point table is written. -/
theorem Acts.setPoint (p : Nat) (x : Point) (hforce : (t.point p).unforced = true → x.unforced = true)
    (hfeeds : ∀ cfg r c, t.point p = .set cfg r → cfg.owner = .ctx c → (t.ctx c).active = true →
      ∃ r', x = .set cfg r') : Acts s (t.setPoint p x) := by
  refine h.points _ (List.length_set ..) (fun hu => ?_) fun c l ha hl => ?_
  · rw [State.hotUnforced_iff] at hu ⊢
    intro y hy
    rcases List.mem_or_eq_of_mem_set hy with hy | rfl
    · exact hu y hy
    · refine hforce ?_
      by_cases hp : p < t.points.length
      · rw [State.point, List.getD_eq_getElem _ _ hp]; exact hu _ (List.getElem_mem hp)
      · rw [State.point, List.getD_eq_default _ _ (Nat.le_of_not_lt hp)]; rfl
  · obtain ⟨k, cfg, r, hk, hq, hline, howner⟩ := State.feeds_iff.mp hl
    rw [State.feeds_iff]
    by_cases hkp : p = k
    · subst hkp
      have hp : t.point p = .set cfg r := by simp [State.point, List.getD_eq_getElem?_getD, hk]
      obtain ⟨r', rfl⟩ := hfeeds cfg r c hp howner ha
      have hlt : p < t.points.length := (List.getElem?_eq_some_iff.mp hk).1
      exact ⟨p, cfg, r', by simp [hlt], hq, hline, howner⟩
    · exact ⟨k, cfg, r, by simp [List.getElem?_set_ne hkp, hk], hq, hline, howner⟩

theorem Acts.writePoint (e : PointWrite) (hfree : ∀ cfg r c, t.point e.index = .set cfg r → cfg.owner = .ctx c → (t.ctx c).active = false) :
    Acts s (t.writePoint e) := by
  have hset : ∀ x : Point, x.unforced = true → Acts s (t.setPoint e.index x) := fun x hx =>
    h.setPoint e.index x (fun _ => hx) fun cfg r c hp ho ha => by rw [hfree cfg r c hp ho] at ha; cases ha
  unfold State.writePoint
  split
  · exact hset _ rfl
  · exact (hset _ rfl).setFree _
  · split
    · split
      · exact hset _ (by simp [Point.unforced])
      · exact hset _ (by simp [Point.unforced, SetRec.fresh])
    · exact hset _ (by simp [Point.unforced, SetRec.fresh])

omit h in
/-- A write of another entry leaves a point as it is. -/
theorem State.point_writePoint_ne (u : State) (e : PointWrite) {p : Nat} (hp : e.index ≠ p) :
    (u.writePoint e).point p = u.point p := by
  have : ∀ x, (u.setPoint e.index x).point p = u.point p := fun x => by
    simp [State.point, List.getD_eq_getElem?_getD, List.getElem?_set_ne hp]
  unfold State.writePoint
  split
  · exact this _
  · exact this _
  · split
    · split <;> exact this _
    · exact this _

omit h in
@[simp] theorem State.ctxs_writePoint (u : State) (e : PointWrite) : (u.writePoint e).ctxs = u.ctxs := by
  unfold State.writePoint
  split
  · rfl
  · rfl
  · split
    · split <;> rfl
    · rfl

omit h in
/-- A point whose write is not refused IN_USE has no owner in RUNNING or DIVERTED (R22). -/
theorem State.not_active_of_checkPoint {u : State} {e : PointWrite} (hcheck : u.checkPoint e = none) {cfg : PointCfg} {r : SetRec} {c : Nat}
    (hp : u.point e.index = .set cfg r) (ho : cfg.owner = .ctx c) : (u.ctx c).active = false := by
  simp only [State.checkPoint, firstRefusal_eq_none, List.forall_mem_cons, refuseIf_eq_none] at hcheck
  obtain ⟨-, -, huse, -⟩ := hcheck
  simp only [State.pointInUse, State.pointEntry, hp, Bool.or_eq_false_iff, Option.any_some, State.ownerBusy, ho, Ctx.busy] at huse
  exact huse.1.1.1.1.1.1

theorem Acts.writePoints (es : List PointWrite) (hcheck : ∀ e ∈ es, ∀ cfg r c, t.point e.index = .set cfg r → cfg.owner = .ctx c →
    (t.ctx c).active = false) (hnodup : (es.map PointWrite.index).Nodup) : Acts s (es.foldl State.writePoint t) := by
  induction es generalizing t with
  | nil => exact h
  | cons e es ih =>
    obtain ⟨hne, hnodup⟩ := List.nodup_cons.mp hnodup
    refine ih (h.writePoint e (hcheck e (by simp))) (fun k hk cfg r c hp ho => ?_) hnodup
    rw [State.point_writePoint_ne _ _ fun he => hne (he ▸ List.mem_map_of_mem hk)] at hp
    simpa [State.ctx] using hcheck k (by simp [hk]) cfg r c hp ho

theorem Acts.releaseForce (p : Nat) : Acts s (t.releaseForce p) := by
  unfold State.releaseForce
  split
  · next cfg r hp =>
    refine h.setPoint p _ (fun _ => by simp [Point.unforced]) fun cfg' r' c hp' _ _ => ?_
    rw [hp] at hp'; cases hp'; exact ⟨_, rfl⟩
  · exact h

omit h in
/-- A force that is not refused is one of no FLOW or POWER point (R33). -/
theorem State.not_flowOrPower_of_checkForce {u : State} {p v : Nat} (hcheck : u.checkForce p v = none) {cfg : PointCfg} {r : SetRec}
    (hp : u.point p = .set cfg r) : cfg.flowOrPower = false := by
  unfold State.checkForce at hcheck
  dsimp only at hcheck
  rw [hp] at hcheck
  split at hcheck
  · cases hcheck
  · dsimp only at hcheck
    split at hcheck
    · cases hcheck
    · next hno => simpa using hno

theorem Acts.force (p v : Nat) (hcheck : t.checkForce p v = none) : Acts s (t.force p v) := by
  unfold State.force
  split
  · next cfg r hp =>
    refine h.setPoint p _ (fun _ => by simp [Point.unforced, State.not_flowOrPower_of_checkForce hcheck hp]) fun cfg' r' c hp' _ _ => ?_
    rw [hp] at hp'; cases hp'; exact ⟨_, rfl⟩
  · exact h

/-! ### Nodes -/

theorem Acts.writeNode (e : NodeWrite) : Acts s (t.writeNode e) := by
  refine Acts.works (h.nodes _ (List.length_set ..) fun x hx => ?_) (Works.staleNode .refl e.index)
  rcases List.mem_or_eq_of_mem_set hx with hx | hx
  · exact .inl hx
  · obtain ⟨f, -, rfl⟩ := Option.map_eq_some_iff.mp hx.symm
    exact .inr (Nat.le_refl 3)

theorem Acts.writeNodes (es : List NodeWrite) : Acts s (es.foldl State.writeNode t) := by
  induction es generalizing t with
  | nil => exact h
  | cons e es ih => exact ih (h.writeNode e)

/-! ### Lines and groups -/

omit h in
theorem State.lineInUse_of_checkSupply {u : State} {e : SupplyWrite} (hcheck : u.checkSupply e = none) : u.lineInUse e.line = false := by
  simp only [State.checkSupply, firstRefusal_eq_none, List.forall_mem_cons, refuseIf_eq_none] at hcheck
  obtain ⟨-, -, huse, -⟩ := hcheck
  exact huse

theorem Acts.writeSupplies (es : List SupplyWrite) (hcheck : ∀ e ∈ es, t.lineInUse e.line = false) :
    Acts s (es.foldl State.writeSupply t) := by
  induction es generalizing t with
  | nil => exact h
  | cons e es ih => exact ih (h.supply e (hcheck e (by simp))) fun k hk => hcheck k (by simp [hk])

theorem Acts.writeRoughing (e : RoughingWrite) : Acts s (t.writeRoughing e) := by
  refine h.members _ (List.ext_getElem? fun i => ?_)
  simp only [List.getElem?_map, List.getElem?_set]
  split
  · next hi =>
    subst hi
    split
    · next hlt => simp [State.group, List.getD_eq_getElem?_getD, hlt]
    · next hlt => simp [Nat.le_of_not_lt hlt]
  · rfl

theorem Acts.writeRoughings (es : List RoughingWrite) : Acts s (es.foldl State.writeRoughing t) := by
  induction es generalizing t with
  | nil => exact h
  | cons e es ih => exact ih (h.writeRoughing e)

/-! ### Gates -/

theorem Acts.setGate (g : Nat) (x : Option Gate) (hx : ∀ y, x = some y → y.timed = true) : Acts s (t.setGate g x) :=
  h.gates _ (List.length_set ..) fun y hy => (List.mem_or_eq_of_mem_set hy).imp id fun e => hx y e.symm

theorem Acts.writeGate (e : GateWrite) : Acts s (t.writeGate e) := by
  unfold State.writeGate
  split
  · exact h.setGate _ _ fun y e => by cases e
  · refine Acts.setGate ((h.releaseForce _).works (Works.retarget .refl _ 0 0)) _ _ fun y e => ?_
    cases e; rfl

theorem Acts.writeGates (es : List GateWrite) : Acts s (es.foldl State.writeGate t) := by
  induction es generalizing t with
  | nil => exact h
  | cons e es ih => exact ih (h.writeGate e)

/-! ### Records -/

omit h in
/-- Records that are not refused are none that a path holds (R58, R69). -/
theorem State.useCount_of_checkRecords {u : State} {i : Nat} {rs : List (List Byte)} (hcheck : u.checkRecords i rs = none) :
    ∀ k, k < rs.length → u.useCount (i + k) = 0 := by
  induction rs generalizing i with
  | nil => simp
  | cons bs rs ih =>
    unfold State.checkRecords at hcheck
    split at hcheck
    · cases hcheck
    · split at hcheck
      · cases hcheck
      · next hzero =>
        intro k hk
        cases k with
        | zero => simpa using hzero
        | succ k => rw [← ih hcheck k (by simpa using hk)]; congr 1; omega

theorem Acts.writeRecords (i : Nat) (rs : List (List Byte)) (hheld : ∀ k, k < rs.length → s.useCount (i + k) = 0) :
    Acts s (t.writeRecords i rs) := by
  induction rs generalizing t i with
  | nil => exact h
  | cons bs rs ih =>
    refine ih ?_ (i + 1) fun k hk => by rw [← hheld (k + 1) (by simpa using hk)]; congr 1; omega
    cases hd : decodeRecord bs with
    | error e => exact h
    | ok r =>
      refine h.records _ (List.length_set ..) (fun r' hr' => ?_) fun k hk => ?_
      · rcases List.mem_or_eq_of_mem_set hr' with hr' | rfl
        · exact .inl hr'
        · exact .inr (inRange_of_decodeRecord hd)
      · have hne : i ≠ k := by rintro rfl; have := hheld 0 (by simp); simp at this; omega
        simp [State.record, List.getD_eq_getElem?_getD, List.getElem?_set_ne hne]

end

end Sys2Proof.Machine
end

section
/-!
Use counts and held paths (R69 to R71), and what the requests on contexts and jobs do, as chains of updates (chapters 4, 5 and 9).
-/
namespace Sys2Proof.Machine

/-! ### Use counts -/

/-- How many of some paths hold record i. -/
def holding (paths : List (List Nat)) (i : Nat) : Nat := paths.countP fun path => path.contains i

theorem Ctx.holds_eq (x : Ctx) (i : Nat) :
    x.holds i = holding x.paths i + holding (x.queue.map (·.path)) i + holding (x.job.map (·.job.path)).toList i := by
  rw [Ctx.holds, Ctx.heldPaths, List.countP_append, List.countP_append]; rfl

theorem length_foldl_releasePath (us : List Nat) (paths : List (List Nat)) : (paths.foldl releasePath us).length = us.length := by
  induction paths generalizing us with
  | nil => rfl
  | cons path paths ih => rw [List.foldl_cons, ih, length_releasePath]

/-- Releasing paths takes from each use count as many as hold the record. -/
theorem getD_foldl_releasePath (us : List Nat) (paths : List (List Nat)) (i : Nat) :
    (paths.foldl releasePath us).getD i 0 = us.getD i 0 - holding paths i := by
  induction paths generalizing us with
  | nil => rfl
  | cons path paths ih =>
    rw [List.foldl_cons, ih, getD_releasePath, holding, holding, List.countP_cons]
    split <;> omega

theorem foldl_releasePath_le {us : List Nat} {paths : List (List Nat)} {b : Nat} (h : ∀ n ∈ us, n ≤ b) :
    ∀ n ∈ paths.foldl releasePath us, n ≤ b := by
  induction paths generalizing us with
  | nil => exact h
  | cons path paths ih => exact ih (releasePath_le h)

theorem length_addPath (us path : List Nat) : (addPath us path).length = us.length := by simp [addPath]

theorem getD_addPath {us path : List Nat} {i : Nat} (hi : i < us.length) :
    (addPath us path).getD i 0 = us.getD i 0 + if path.contains i then 1 else 0 := by
  rw [List.getD_eq_getElem?_getD, List.getD_eq_getElem?_getD, getElem?_addPath, List.getElem?_eq_getElem hi]
  simp only [Option.map_some, Option.getD_some]
  split <;> rfl

/-- A path that is counted keeps every use count at 60 or less (R70). -/
theorem countPath_eq_ok {us path us' : List Nat} (h : countPath us path = .ok us') :
    us' = addPath us path ∧ ((∀ n ∈ us, n ≤ 60) → ∀ n ∈ us', n ≤ 60) := by
  unfold countPath at h
  split at h
  · cases h
  · next hlimit =>
    cases h
    refine ⟨rfl, fun hus n hn => ?_⟩
    have hbelow : ∀ i ∈ path, us.getD i 0 < 60 := by simpa [useLimit, List.min?_eq_none_iff, List.filter_eq_nil_iff] using hlimit
    obtain ⟨i, hi⟩ := List.mem_iff_getElem?.mp hn
    rw [getElem?_addPath] at hi
    obtain ⟨m, hm, rfl⟩ := Option.map_eq_some_iff.mp hi
    have hle := hus m (List.mem_of_getElem? hm)
    split
    · next hmem =>
      have := hbelow i (by simpa using hmem)
      rw [List.getD_eq_getElem?_getD, hm] at this
      exact this
    · exact hle

/-- Paths that are counted raise each use count by as many as hold the record (R70). -/
theorem countAll_eq_ok {us us' : List Nat} {paths : List (Purpose × List Nat)} (h : countAll us paths = .ok us') :
    us'.length = us.length ∧ ((∀ n ∈ us, n ≤ 60) → ∀ n ∈ us', n ≤ 60)
      ∧ ∀ i, i < us.length → us'.getD i 0 = us.getD i 0 + holding (paths.map (·.2)) i := by
  induction paths generalizing us with
  | nil => cases h; exact ⟨rfl, id, fun _ _ => rfl⟩
  | cons p paths ih =>
    unfold countAll at h
    split at h
    · cases h
    · next us1 h1 =>
      obtain ⟨rfl, hlimit⟩ := countPath_eq_ok h1
      obtain ⟨hlen, hlimit', hcount⟩ := ih h
      rw [length_addPath] at hlen hcount
      refine ⟨hlen, fun hus => hlimit' (hlimit hus), fun i hi => ?_⟩
      rw [hcount i hi, getD_addPath hi, List.map_cons, holding, holding, List.countP_cons]
      omega

theorem State.length_walkAll {s : State} {c : Nat} {starts : List (Purpose × Nat)} {paths : List (List Nat)}
    (h : s.walkAll c starts = .ok paths) : paths.length = starts.length := by
  induction starts generalizing paths with
  | nil => cases h; rfl
  | cons p starts ih =>
    unfold State.walkAll at h
    split at h
    · cases h
    · split at h
      · cases h
      · next hrest => cases h; simp [ih hrest]

/-- The use counts us are those of the state with the table's paths of context c replaced by others, none above 60 (R70). -/
def State.recounted (s : State) (c : Nat) (paths : List (List Nat)) (us : List Nat) : Prop :=
  us.length = s.useCounts.length ∧ ((∀ n ∈ s.useCounts, n ≤ 60) → ∀ n ∈ us, n ≤ 60)
    ∧ ∀ i, i < s.useCounts.length → us.getD i 0 = s.useCount i - holding (s.ctx c).paths i + holding paths i

/-- The use counts of a configuration whose walks pass (R70). -/
theorem State.recounted_of_validate {s : State} {c : Nat} {cfg : CtxCfg} {paths : List (List Nat)} {us : List Nat}
    (h : s.validate c cfg = .ok (paths, us)) : s.recounted c paths us := by
  unfold State.validate at h
  split at h
  · cases h
  · next hwalk =>
    split at h
    · cases h
    · next hcount =>
      cases h
      obtain ⟨hlen, hlimit, hget⟩ := countAll_eq_ok hcount
      rw [length_foldl_releasePath] at hlen hget
      refine ⟨hlen, fun hus => hlimit (foldl_releasePath_le hus), fun i hi => ?_⟩
      rw [hget i hi, getD_foldl_releasePath, State.useCount, List.map_snd_zip (by simp [State.length_walkAll hwalk])]

/-! ### Configuration -/

theorem highBits_low (ls : List Level) : highBits ls 4 &&& 0x000F = 0 := by
  refine BitVec.eq_of_getLsbD_eq fun i hi => ?_
  rw [BitVec.getLsbD_and]
  by_cases h4 : i < 4
  · have hlow : (highBits ls 4).getLsbD i = false := by
      rw [Bool.eq_false_iff]
      intro he
      have := ((getLsbD_highBits ls 4 i hi).mp he).1
      omega
    simp [hlow]
  · have hhigh : ∀ j : Fin 16, 4 ≤ j.val → (0x000F : BitVec 16).getLsbD j.val = false := by decide
    rw [hhigh ⟨i, hi⟩ (Nat.le_of_not_lt h4)]
    simp

theorem programmable_low (m : BitVec 16) : m &&& programmable &&& 0x000F = 0 := by
  rw [BitVec.and_assoc, show programmable &&& 0x000F = 0 from rfl]; exact BitVec.and_zero

section
variable {s : State} {c : Nat} {x : Ctx}

/-- A context that takes a configuration whose walks pass, and its paths (R76, R77). -/
theorem CtxMoves.of_recounted {us : List Nat} (hv : s.recounted c x.paths us)
    (hc : c < s.ctxs.length) (hqueue : x.queue = (s.ctx c).queue) (hjob : x.job = (s.ctx c).job)
    (hfixed : (s.ctx c).fixedSources = true → x.fixedSources = true)
    (hisl : x.isl = (s.ctx c).isl) (hstack : x.stack = (s.ctx c).stack) (hloops : x.loops = (s.ctx c).loops ∨ x.loops = [])
    (hstands : ((s.ctx c).step.isSome = true → (s.ctx c).active = true) → x.step.isSome = true → x.active = true)
    (hstep : x.step = (s.ctx c).step ∨ x.step = none) (hactive : (s.ctx c).active = true → x.active = true ∨ s.holdsPlant c = false)
    (hruns : (s.ctx c).jobRuns → x.jobRuns) (hstate : x.state ≠ .offline) : CtxMoves s c x us where
  fixed := hfixed
  stack h := by simpa [Ctx.stackLaw, hisl, hstack] using h
  bounded _ h := by
    obtain ⟨hq, hl⟩ := (Ctx.bounded_iff _).mp h
    refine (Ctx.bounded_iff _).mpr ⟨hqueue ▸ hq, ?_⟩
    simp only [Ctx.loopsOk, Bool.and_eq_true] at hl ⊢
    exact ⟨hloops.elim (fun e => e ▸ hl.1) fun e => e ▸ rfl, hstack ▸ hl.2⟩
  stands := hstands
  demand st h := hstep.elim (fun e => .inl ⟨st, e ▸ h, rfl⟩) fun e => by rw [e] at h; cases h
  plant := hactive
  job := hruns
  offline _ _ h := absurd h hstate
  tags _ := .inl (by rw [Ctx.tags, Ctx.tags, hqueue, hjob])
  uses hl i hi := by
    obtain ⟨-, -, hget⟩ := hv
    have hn := hl.counted i hi
    rw [Ctx.holds_eq] at hn
    rw [hget i (hl.whole ▸ hi), Ctx.holds_eq, Ctx.holds_eq, hqueue, hjob]
    omega
  inside := .inl hc
  length := hv.1
  limit := hv.2.1

end

/-! ### Rest, of a context that changes with it -/

theorem State.applyRest_only (s : State) (c k : Nat) : s.applyRest c k = { s with points := (s.applyRest c k).points } := by
  rw [State.applyRest, State.applyItems_only]; rfl

theorem State.retarget_congr {s u : State} (hp : s.points = u.points) (hn : s.now = u.now) (p t d : Nat) :
    (s.retarget p t d).points = (u.retarget p t d).points := by
  have hpoint : s.point p = u.point p := by rw [State.point, hp, State.point]
  unfold State.retarget
  rw [hpoint, hn]
  split
  · simp [hp]
  · exact hp

/-- Where points come to rest depends on the points, the part time and the records alone. -/
theorem State.applyItems_congr {s u : State} (hp : s.points = u.points) (hn : s.now = u.now) (is : List SetItem) :
    (s.applyItems is).points = (u.applyItems is).points := by
  induction is generalizing s u with
  | nil => exact hp
  | cons i is ih =>
    exact ih (State.retarget_congr hp hn ..) (by simpa using hn)

theorem State.applyRest_congr {s u : State} (hp : s.points = u.points) (hn : s.now = u.now) (hr : s.records = u.records) (c k : Nat) :
    (s.applyRest c k).points = (u.applyRest c k).points := by
  have hitems := State.applyItems_congr hp hn (s.restItems k)
  have hsame : s.restItems k = u.restItems k := by rw [State.restItems, State.restItems, hr]
  have hnow : ∀ v : State, ∀ is, (v.applyItems is).now = v.now := fun v is => by rw [State.applyItems_only]
  rw [State.applyRest, State.applyRest, State.zeroOthers, State.zeroOthers]
  rw [hsame] at hitems
  simp only [hitems, hnow, hn, hsame]

/-- Coming to rest in a context that was written with new use counts is one update of it. -/
theorem State.rest_setCtx (s : State) {c : Nat} (x : Ctx) (us : List Nat) (k : Nat) (st : CtxState) (hc : c < s.ctxs.length) :
    ({ s.setCtx c x with useCounts := us }).rest c k st =
      { (s.applyRest c k).setCtx c { x with state := st, step := none, cur := some k, lastRest := some k, loops := [], marker := false } with
        useCounts := us } := by
  have hctx : ({ s.setCtx c x with useCounts := us }).ctx c = x := State.ctx_setCtx_self _ _ _ hc
  rw [State.rest, State.ctx_applyRest, hctx, State.applyRest_only, State.applyRest_only s,
    State.applyRest_congr (s := { s.setCtx c x with useCounts := us }) (u := s) rfl rfl rfl]
  simp [State.setCtx, List.set_set]

end Sys2Proof.Machine
end

section
/-!
The requests on contexts, jobs, park, wake and masks, and the soft reset, as chains of updates (chapters 5, 9 and 10).
-/
namespace Sys2Proof.Machine

section
variable {s t : State} (h : Works s t)
include h

/-! ### WRITE_CONTEXT with enable yes -/

omit h in
theorem Ctx.active_eq_false_of_busy {x : Ctx} (hb : x.busy = false) : x.active = false := by
  simp only [Ctx.busy, Bool.or_eq_false_iff] at hb
  exact hb.1

omit h in
theorem State.lt_of_busy {u : State} {c : Nat} {x : Ctx} (h : u.ctx c = x) (hx : x.state ≠ .offline) : c < u.ctxs.length :=
  State.lt_of_state (h ▸ hx)

/-- Idle entry in a context that takes a configuration with it (R76, R77). -/
theorem Works.idleEntry_enabled {c : Nat} {x : Ctx} {us : List Nat} (hc : c < t.ctxs.length) (k : Nat) (b : Bool)
    (hx : CtxMoves (t.applyRest c k) c
      { x with state := .idle, step := none, cur := some k, lastRest := some k, loops := [], marker := false } us) :
    Works s ((((({ t.setCtx c x with useCounts := us }).rest c k .idle).release c).push [.restStart c]).triggerIf b) := by
  rw [State.rest_setCtx _ _ _ _ _ hc]
  exact ((((h.applyRest c k).ctx c _ us hx).release c).push _ (by simp [Task.finishes])).triggerIf b

omit h in
/-- A context that is not in RUNNING or DIVERTED takes a configuration, and stays at rest (R76, R77). -/
theorem CtxMoves.of_enable {u : State} {c : Nat} {x y : Ctx} {us : List Nat} (hctx : u.ctx c = x) (hc : c < u.ctxs.length)
    (hv : u.recounted c y.paths us) (ha : x.active = false) (hqueue : y.queue = x.queue) (hjob : y.job = x.job)
    (hfixed : y.fixedSources = true) (hisl : y.isl = x.isl) (hstack : y.stack = x.stack) (hloops : y.loops = x.loops ∨ y.loops = [])
    (hstep : y.step = x.step ∨ y.step = none) (hstate : y.state ≠ .offline) : CtxMoves u c y us := by
  subst hctx
  refine .of_recounted hv hc hqueue hjob (fun _ => hfixed) hisl hstack hloops (fun hs hy => ?_) hstep (fun he => ?_) (fun hr hy => ?_) hstate
  · rcases hstep with e | e
    · rw [e] at hy; rw [hs hy] at ha; cases ha
    · rw [e] at hy; cases hy
  · rw [ha] at he; cases he
  · rw [hjob, Ctx.job_of_not_active ha hr] at hy; cases hy

omit h in
theorem ctxCfgOf_fixed (f : CtxFields) : (ctxCfgOf f).masks &&& 0x000F = 0 ∧ (ctxCfgOf f).highs &&& 0x000F = 0 :=
  ⟨programmable_low _, highBits_low _⟩

/-- Enable or rewrite (R76, R77). -/
theorem Works.enable {c : Nat} (f : CtxFields) (hc : c < t.ctxs.length) (hb : (t.ctx c).busy = false) :
    Works s (t.enable c (ctxCfgOf f)) := by
  obtain ⟨hmasks, hhighs⟩ := ctxCfgOf_fixed f
  have ha := Ctx.active_eq_false_of_busy hb
  unfold State.enable
  split
  · exact h
  · next paths us hv =>
    have hv := State.recounted_of_validate hv
    have hrest : ∀ u : State, u.ctx c = t.ctx c → u.useCounts = t.useCounts → (u.applyRest c (ctxCfgOf f).idleStep).recounted c paths us :=
      fun u hu huse => by
        have hctx := (u.ctx_applyRest c (ctxCfgOf f).idleStep c).trans hu
        have huse' : (u.applyRest c (ctxCfgOf f).idleStep).useCounts = t.useCounts := by rw [State.applyRest_only]; exact huse
        simpa only [State.recounted, State.useCount, hctx, huse'] using hv
    have hfixed : ∀ y : Ctx, y.masks = (ctxCfgOf f).masks → y.highs = (ctxCfgOf f).highs → y.cfg = ctxCfgOf f → y.fixedSources = true :=
      fun y hm hh hcfg => by rw [Ctx.fixedSources, hm, hh, hcfg, hmasks, hhighs]; rfl
    have hidle : ∀ ts : List Task, (∀ x ∈ ts, x.finishes = false) → Works s
        (({ (t.push ts).setCtx c { t.ctx c with cfg := ctxCfgOf f, paths := paths, masks := (ctxCfgOf f).masks, highs := (ctxCfgOf f).highs }
            with useCounts := us }).idleEntry c) := fun ts hts => by
      have hcfg : (({ (t.push ts).setCtx c { t.ctx c with cfg := ctxCfgOf f, paths := paths, masks := (ctxCfgOf f).masks, highs := (ctxCfgOf f).highs } with useCounts := us }).ctx c).cfg = ctxCfgOf f := congrArg Ctx.cfg (State.ctx_setCtx_self _ _ _ hc)
      rw [State.idleEntry, State.idleRest, hcfg]
      refine (h.push ts hts).idleEntry_enabled hc _ _ (.of_enable (State.ctx_applyRest ..) ?_ (hrest _ rfl rfl) ha rfl rfl ?_ rfl rfl (.inr rfl) (.inr rfl) ?_)
      · simpa using hc
      · exact hfixed _ rfl rfl rfl
      · simp
    dsimp only
    split
    · exact hidle [.trigger] (by simp [Task.finishes])
    · exact hidle [] (by simp)
    · next hoff hidle =>
      refine h.ctx c _ us (.of_enable rfl hc hv ha rfl rfl ?_ rfl rfl (.inl rfl) (.inl rfl) ?_)
      · exact hfixed _ rfl rfl rfl
      · exact hoff

/-! ### WRITE_CONTEXT with enable no -/

omit h in
/-- The end of a discarded job is its report and its path's release, also in a context that was written with new use counts. -/
theorem State.endJob_discarded (u : State) (c : Nat) (x : Ctx) (us : List Nat) (j : Job) (st : Option Nat) (r : Nat) :
    ({ u.setCtx c x with useCounts := us }).endJob c j .discarded st r =
      { (u.report (some c) st (some j.tag) (.jobEnd .discarded j.priority j.start r)).setCtx c x with
        useCounts := releasePath us j.path } := by
  by_cases hlen : u.reports.length < Config.reports
  · simp only [State.endJob, State.report, State.setCtx, hlen, if_true, outcomeCounter]
  · simp only [State.endJob, State.report, State.setCtx, hlen, if_false, outcomeCounter]

/-- The JOB_END reports of discarded jobs, in queue order (R78). -/
def State.reportDiscarded (s : State) (c : Nat) (js : List Job) : State :=
  js.foldl (fun s j => s.report (some c) none (some j.tag) (.jobEnd .discarded j.priority j.start 0)) s

omit h in
theorem State.foldl_endJob_discarded (u : State) (c : Nat) (x : Ctx) (us : List Nat) (js : List Job) :
    js.foldl (fun s j => s.endJob c j .discarded none 0) { u.setCtx c x with useCounts := us } =
      { (u.reportDiscarded c js).setCtx c x with useCounts := (js.map Job.path).foldl releasePath us } := by
  induction js generalizing u us with
  | nil => rfl
  | cons j js ih => rw [List.foldl_cons, State.endJob_discarded, ih]; rfl

theorem Works.reportDiscarded (c : Nat) (js : List Job) : Works s (t.reportDiscarded c js) := by
  induction js generalizing t with
  | nil => exact h
  | cons j js ih => exact ih (h.report ..)

omit h in
@[simp] theorem State.ctxs_reportDiscarded (u : State) (c : Nat) (js : List Job) : (u.reportDiscarded c js).ctxs = u.ctxs := by
  induction js generalizing u with
  | nil => rfl
  | cons j js ih => exact (ih _).trans (by simp)

omit h in
@[simp] theorem State.useCounts_reportDiscarded (u : State) (c : Nat) (js : List Job) :
    (u.reportDiscarded c js).useCounts = u.useCounts := by
  induction js generalizing u with
  | nil => rfl
  | cons j js ih => exact (ih _).trans (by simp)

/-- A context whose queue and paths a disable drops (R78 stages 1 to 3). -/
def Ctx.dropped (x : Ctx) : Ctx := { x with autoPark := none, queue := [], paths := [] }

/-- The context that a disable leaves (R78). -/
def Ctx.disabled (x : Ctx) (cfg : CtxCfg) : Ctx :=
  { x with autoPark := none, queue := [], paths := [], flags := 0, cfg := cfg, state := .offline, cur := none }

/-- The use counts of the state without the table's and the queue's paths of a context (R71). -/
def Ctx.uncounted (x : Ctx) (us : List Nat) : List Nat := x.paths.foldl releasePath ((x.queue.map Job.path).foldl releasePath us)

omit h in
/-- What a disable makes of a context in a state other than OFFLINE, as one update of the context (R78). -/
theorem State.disable_of_state {u : State} {c : Nat} (cfg : CtxCfg) (hs : (u.ctx c).state ≠ .offline) :
    u.disable c cfg =
      (({ ((u.reportDiscarded c (u.ctx c).queue).releaseForces c).setCtx c ((u.ctx c).disabled cfg) with
          useCounts := (u.ctx c).uncounted u.useCounts }).release c).push [.trigger] := by
  have hc : c < (u.reportDiscarded c (u.ctx c).queue).ctxs.length := by simpa using State.lt_of_state hs
  have hfold : (u.ctx c).queue.foldl (fun s j => s.endJob c j .discarded none 0) (u.setCtx c (u.ctx c).dropped) =
      { (u.reportDiscarded c (u.ctx c).queue).setCtx c (u.ctx c).dropped with
        useCounts := ((u.ctx c).queue.map Job.path).foldl releasePath u.useCounts } :=
    State.foldl_endJob_discarded u c (u.ctx c).dropped u.useCounts (u.ctx c).queue
  have hdisable : u.disable c cfg =
      let s2 := (u.ctx c).queue.foldl (fun s j => s.endJob c j .discarded none 0) (u.setCtx c (u.ctx c).dropped)
      let s3 := { s2 with useCounts := (u.ctx c).paths.foldl releasePath s2.useCounts }.releaseForces c
      ((s3.setCtx c { s3.ctx c with flags := 0, cfg := cfg, state := .offline, cur := none }).release c).push [.trigger] := if_neg hs
  rw [hdisable, hfold]
  dsimp only
  generalize u.reportDiscarded c (u.ctx c).queue = v at hc
  have hctx : ∀ us, (({ v.setCtx c (u.ctx c).dropped with useCounts := us } : State).releaseForces c).ctx c = (u.ctx c).dropped :=
    fun us => State.ctx_setCtx_self _ _ _ hc
  rw [hctx]
  simp [State.setCtx, State.releaseForces, List.set_set, Ctx.disabled, Ctx.dropped, Ctx.uncounted]

omit h in
/-- A context that is not in RUNNING or DIVERTED is disabled: it holds no path then (R71, R78). -/
theorem CtxMoves.of_disabled {u : State} {c : Nat} {x : Ctx} {cfg : CtxCfg} (hctx : u.ctx c = x) (hc : c < u.ctxs.length)
    (ha : x.active = false) (hcfg : cfg.masks &&& 0x000F = 0 ∧ cfg.highs &&& 0x000F = 0) :
    CtxMoves u c (x.disabled cfg) (x.uncounted u.useCounts) := by
  subst hctx
  exact
    { fixed := fun hf => by
        simp only [Ctx.fixedSources, Bool.and_eq_true] at hf
        obtain ⟨⟨⟨hm, hh⟩, -⟩, -⟩ := hf
        simp only [Ctx.fixedSources, Ctx.disabled, hcfg.1, hcfg.2, hm, hh]
        rfl
      stack := id
      bounded := fun _ hb => by
        obtain ⟨-, hl⟩ := (Ctx.bounded_iff _).mp hb
        exact (Ctx.bounded_iff _).mpr ⟨Nat.zero_le _, hl⟩
      stands := fun hs hx => by rw [hs hx] at ha; cases ha
      demand := fun st hst => .inl ⟨st, hst, rfl⟩
      plant := fun he => by rw [ha] at he; cases he
      job := fun hr hx => by
        have hnone := Ctx.job_of_not_active ha hr
        simp [Ctx.disabled, hnone] at hx
      offline := fun hl _ _ => by simp [Ctx.heldPaths, Ctx.disabled, Ctx.job_of_not_active ha hl.runs]
      tags := fun hl => .inl (by
        simp only [Ctx.tags, Ctx.disabled, List.map_nil, List.nil_append]
        exact (List.sublist_append_right ..).subperm)
      uses := fun hl i _ => by
        have hn := hl.counted i ‹_›
        have hjob := Ctx.job_of_not_active ha hl.runs
        have hheld : (u.ctx c).holds i = holding (u.ctx c).paths i + holding ((u.ctx c).queue.map Job.path) i := by
          simp [Ctx.holds_eq, hjob, holding]
        have hnone : ((u.ctx c).disabled cfg).holds i = 0 := by simp [Ctx.holds, Ctx.heldPaths, Ctx.disabled, hjob]
        rw [hheld] at hn ⊢
        rw [hnone, Ctx.uncounted, getD_foldl_releasePath, getD_foldl_releasePath, ← State.useCount]
        omega
      inside := .inl hc
      length := by rw [Ctx.uncounted, length_foldl_releasePath, length_foldl_releasePath]
      limit := fun hus => foldl_releasePath_le (foldl_releasePath_le hus) }

theorem Works.disable {c : Nat} (f : CtxFields) (hb : (t.ctx c).busy = false) : Works s (t.disable c (ctxCfgOf f)) := by
  have hcfg := ctxCfgOf_fixed f
  by_cases hs : (t.ctx c).state = .offline
  · rw [show t.disable c (ctxCfgOf f) = t.setCtx c { t.ctx c with cfg := ctxCfgOf f } from if_pos hs]
    have hsame : CtxMoves t c (t.ctx c) t.useCounts := .of_frame_step rfl rfl
    refine h.setCtx c _ { hsame with fixed := fun hf => ?_ }
    simp only [Ctx.fixedSources, Bool.and_eq_true] at hf ⊢
    obtain ⟨⟨hms, -⟩, -⟩ := hf
    exact ⟨⟨hms, by rw [hcfg.1]; rfl⟩, by rw [hcfg.2]; rfl⟩
  · have hc : c < ((t.reportDiscarded c (t.ctx c).queue).releaseForces c).ctxs.length := by simpa using State.lt_of_state hs
    have hctx : ((t.reportDiscarded c (t.ctx c).queue).releaseForces c).ctx c = t.ctx c := by simp [State.ctx]
    have hmoves := CtxMoves.of_disabled hctx hc (Ctx.active_eq_false_of_busy hb) hcfg
    rw [State.releaseForces_useCounts, State.useCounts_reportDiscarded] at hmoves
    rw [State.disable_of_state _ hs]
    exact ((((h.reportDiscarded c _).releaseForces c).ctx c _ _ hmoves).release c).push _ (by simp [Task.finishes])

/-! ### Jobs -/

omit h in
/-- A context whose queue takes a job at its tail (R82). -/
theorem CtxMoves.of_submit {u : State} {c : Nat} {job : Job} {us : List Nat} (hc : c < u.ctxs.length)
    (hs : (u.ctx c).state ≠ .offline) (hfull : (u.ctx c).queue.length < Config.queue) (htag : u.tagHeld job.tag = false)
    (hcount : countPath u.useCounts job.path = .ok us) :
    CtxMoves u c { u.ctx c with queue := (u.ctx c).queue ++ [job] } us := by
  obtain ⟨rfl, hlimit⟩ := countPath_eq_ok hcount
  exact
    { fixed := id
      stack := id
      bounded := fun _ hb => by
        obtain ⟨-, hl⟩ := (Ctx.bounded_iff _).mp hb
        exact (Ctx.bounded_iff _).mpr ⟨by simpa using hfull, hl⟩
      stands := id
      demand := fun st hst => .inl ⟨st, hst, rfl⟩
      plant := .inl
      job := id
      offline := fun _ _ e => absurd e hs
      tags := fun _ => .inr ⟨job.tag, by
        simp only [Ctx.tags, List.map_append, List.map_cons, List.map_nil, List.append_assoc, List.singleton_append]
        exact List.perm_middle, htag⟩
      uses := fun hl i hi => by
        rw [getD_addPath (hl.whole ▸ hi), ← State.useCount, Ctx.holds_eq, Ctx.holds_eq]
        simp only [List.map_append, List.map_cons, List.map_nil, holding, List.countP_append, List.countP_singleton]
        omega
      inside := .inl hc
      length := length_addPath ..
      limit := hlimit }

theorem Works.submit {c : Nat} {tag : BitVec 32} {start : Nat} {pr : Priority} {all : Bool} (hs : (t.ctx c).state ≠ .offline)
    (hfull : (t.ctx c).queue.length < Config.queue) (htag : t.tagHeld tag = false) : Works s (t.submit c tag start pr all) := by
  have hc := State.lt_of_state hs
  unfold State.submit
  split
  · exact h
  · next path us hcount =>
    have hpath : countPath t.useCounts path = .ok us := by
      unfold State.countJob at hcount
      split at hcount
      · cases hcount
      · split at hcount
        · cases hcount
        · next hp => cases hcount; exact hp
    have hsub := h.ctx c _ us (CtxMoves.of_submit (job := { tag := tag, start := start, priority := pr, reportAll := all, path := path })
      hc hs hfull htag hpath)
    have hread : (({ t.setCtx c { t.ctx c with queue := (t.ctx c).queue ++ [{ tag := tag, start := start, priority := pr, reportAll := all, path := path }] } with useCounts := us } : State).ctx c) =
        { t.ctx c with queue := (t.ctx c).queue ++ [{ tag := tag, start := start, priority := pr, reportAll := all, path := path }] } :=
      State.ctx_setCtx_self _ _ _ hc
    dsimp only
    split
    · next hidle => exact hsub.startJob (by rw [hread]; exact hidle)
    · next hpark =>
      split
      · refine hsub.wakeFrom ?_ (by simpa using hc) _
        rw [hread]; simp [Ctx.active, hpark]
      · exact hsub
    · exact hsub

omit h in
/-- Of jobs with tags that differ, one is taken out by its tag. -/
theorem perm_filter_tag {js : List Job} {j : Job} (hj : j ∈ js) (hn : (js.map (·.tag)).Nodup) :
    js.Perm (j :: js.filter fun k => k.tag != j.tag) := by
  induction js with
  | nil => cases hj
  | cons k js ih =>
    obtain ⟨hk, hn⟩ := List.nodup_cons.mp hn
    rcases List.mem_cons.mp hj with rfl | hj
    · rw [List.filter_cons_of_neg (by simp), List.filter_eq_self.mpr fun x hx => ?_]
      simp only [bne_iff_ne, ne_eq]
      exact fun e => hk (List.mem_map.mpr ⟨x, hx, e⟩)
    · have hne : k.tag ≠ j.tag := fun e => hk (List.mem_map.mpr ⟨j, hj, e.symm⟩)
      rw [List.filter_cons_of_pos (by simpa using hne)]
      exact ((ih hj hn).cons k).trans (List.Perm.swap ..)

theorem Works.cancel (c : Nat) (tag : BitVec 32) : Works s (t.cancel c tag) := by
  unfold State.cancel
  dsimp only
  split
  · next j hfind =>
    have hj := List.mem_of_find?_eq_some hfind
    have htag : j.tag = tag := by simpa using List.find?_some hfind
    subst htag
    have hc : c < t.ctxs.length := by
      by_contra hc
      rw [State.ctx_of_le (Nat.le_of_not_lt hc)] at hj
      exact absurd hj (by simp [Ctx.reset])
    refine h.endJob .cancelled none 0 hc (.of_release hc rfl rfl rfl rfl rfl rfl ?_ id ?_ ?_ fun hl => ?_)
    · exact List.length_filter_le ..
    · simp +contextual [Ctx.heldPaths]
    · exact (List.Sublist.append_right (List.filter_sublist.map _) _).subperm
    · have hn : ((t.ctx c).queue.map (·.tag)).Nodup := (List.nodup_append.mp hl.apart).1
      have hperm := (perm_filter_tag hj hn).map (·.path)
      simp only [Ctx.heldPaths]
      refine ((hperm.append_left (t.ctx c).paths).append_right _).trans ?_
      rw [List.map_cons, List.append_assoc, List.append_assoc, List.cons_append]
      exact List.perm_middle
  · exact h.push _ (by simp [Task.finishes])

/-! ### Masks, flags, park and wake -/

theorem Works.writeMasks (c : Nat) (masks : BitVec 16) (levels : List Level) : Works s (t.writeMasks c masks levels) := by
  have hsame : CtxMoves t c (t.ctx c) t.useCounts := .of_frame_step rfl rfl
  refine h.setCtx c _ { hsame with fixed := fun _ => ?_ }
  simp only [Ctx.fixedSources, programmable_low, highBits_low]
  rfl

theorem Works.clearFlags (c : Nat) (sources : BitVec 16) : Works s (t.clearFlags c sources) := by
  refine h.setCtx c _ ?_
  exact .of_frame_step rfl rfl

theorem Works.clear {c : Nat} (hs : (t.ctx c).state = .halted) : Works s ((t.clearFlags c 0xFFFF).idleEntry c) := by
  have hc := State.lt_of_state (c := c) (s := t) (by simp [hs])
  refine (h.clearFlags c _).idleEntry fun hr => Ctx.job_of_not_active ?_ hr
  rw [State.clearFlags, State.ctx_setCtx_self _ _ _ hc]
  simp [Ctx.active, hs]

end

end Sys2Proof.Machine
end

section
/-!
The soft reset, the frames' passage, the timers and the requests as chains of updates: what each command other than RESET does once its
interval has passed.
-/
namespace Sys2Proof.Machine

/-! ### The soft reset (R191) -/

/-- Context c holds no path, stands at no step and holds nothing of the plant, as the soft reset leaves it before its revalidation. -/
structure State.Cleared (s : State) (c : Nat) : Prop where
  jobs : (s.ctx c).jobs = ([], [], none)
  step : (s.ctx c).step = none
  plant : s.holdsPlant c = false

theorem Ctx.queue_of_jobs {x : Ctx} (h : x.jobs = ([], [], none)) : x.paths = [] ∧ x.queue = [] ∧ x.job = none := by
  simpa [Ctx.jobs] using h

/-- With no job queued the end of idle entry starts the auto-park timer (R79, R80). -/
theorem State.restStart_of_queue {s : State} {c : Nat} (hidle : (s.ctx c).state = .idle) (hq : (s.ctx c).queue = []) :
    s.restStart c = s.setCtx c { s.ctx c with autoPark := autoParkTimer s.now (s.ctx c).cfg } := by
  unfold State.restStart
  dsimp only
  rw [if_pos hidle]
  split
  · rfl
  · next hcons => rw [hq] at hcons; cases hcons

/-- The context that the soft reset leaves of an enabled one whose walks pass, with the paths of its configuration (R93). -/
def Ctx.revalidated (x : Ctx) (now : Time) (paths : List (List Nat)) : Ctx :=
  { x with paths := paths, state := .idle, step := none, cur := some x.cfg.idleStep, lastRest := some x.cfg.idleStep, loops := [],
           marker := false, autoPark := autoParkTimer now x.cfg }

/-- The revalidation of a cleared context whose walks pass, as one update of it (R73, R93). -/
theorem State.revalidate_of_ok {s : State} {c : Nat} {paths : List (List Nat)} {us : List Nat} (hcl : s.Cleared c)
    (hs : (s.ctx c).state ≠ .offline) (hv : s.validate c (s.ctx c).cfg = .ok (paths, us)) :
    s.revalidate c =
      { ((s.applyRest c (s.ctx c).cfg.idleStep).release c).setCtx c ((s.ctx c).revalidated s.now paths) with useCounts := us } := by
  have hc := State.lt_of_state hs
  obtain ⟨-, hq, -⟩ := Ctx.queue_of_jobs hcl.jobs
  have hctx : (({ s with useCounts := us }.setCtx c { s.ctx c with paths := paths }).ctx c) = { s.ctx c with paths := paths } :=
    State.ctx_setCtx_self _ _ _ hc
  have hrest := s.rest_setCtx { s.ctx c with paths := paths } us (s.ctx c).cfg.idleStep .idle hc
  have hnow : (s.applyRest c (s.ctx c).cfg.idleStep).now = s.now := by rw [State.applyRest_only]
  have hcs : c < (s.applyRest c (s.ctx c).cfg.idleStep).ctxs.length := by simpa using hc
  have hrev : s.revalidate c = (({ s with useCounts := us }.setCtx c { s.ctx c with paths := paths }).idleRest c).restStart c := by
    unfold State.revalidate
    dsimp only
    rw [if_neg hs, hv]
  rw [hrev, State.idleRest, hctx]
  have hswap : { s with useCounts := us }.setCtx c { s.ctx c with paths := paths } =
    ({ s.setCtx c { s.ctx c with paths := paths } with useCounts := us } : State) := rfl
  rw [hswap, hrest]
  generalize s.applyRest c (s.ctx c).cfg.idleStep = u at hnow hcs
  have hread : ∀ x : Ctx, (({ u.setCtx c x with useCounts := us } : State).release c).ctx c = x := fun x => State.ctx_setCtx_self _ _ _ hcs
  rw [State.restStart_of_queue (by rw [hread]) (by rw [hread]; exact hq), hread]
  simp [State.setCtx, State.release, List.set_set, Ctx.revalidated, hnow]

/-- The revalidation of a context with no walk passing, or of one that is OFFLINE. -/
theorem State.revalidate_of_error {s : State} {c : Nat} {e : Purpose × WalkFault} (hs : (s.ctx c).state ≠ .offline)
    (hv : s.validate c (s.ctx c).cfg = .error e) : s.revalidate c = s.setCtx c { s.ctx c with state := .offline, cur := none } := by
  unfold State.revalidate
  dsimp only
  rw [if_neg hs, hv]

theorem State.revalidate_of_offline {s : State} {c : Nat} (hs : (s.ctx c).state = .offline) : s.revalidate c = s := by
  unfold State.revalidate
  dsimp only
  rw [if_pos hs]

/-- A release takes nothing of the plant to a context. -/
theorem State.holdsPlant_of_release {s : State} {c d : Nat} (h : (s.release c).holdsPlant d = true) : s.holdsPlant d = true := by
  simp only [State.holdsPlant, State.release, Bool.or_eq_true, List.any_eq_true, List.mem_map] at h ⊢
  rcases h with ⟨-, ⟨x, hx, rfl⟩, hpos⟩ | ⟨-, ⟨g, hg, rfl⟩, hheld⟩
  · refine .inl ⟨x, hx, ?_⟩
    simp only [Supply.reserved, List.getD_eq_getElem?_getD, decide_eq_true_eq, List.getElem?_set] at hpos ⊢
    split at hpos
    · split at hpos <;> simp at hpos
    · exact hpos
  · refine .inr ⟨g, hg, ?_⟩
    split at hheld
    · simp at hheld
    · exact hheld

section
variable {s t : State} (h : Works s t)
include h

theorem Works.revalidate {c : Nat} (hcl : t.Cleared c) : Works s (t.revalidate c) := by
  obtain ⟨hp, hq, hj⟩ := Ctx.queue_of_jobs hcl.jobs
  by_cases hs : (t.ctx c).state = .offline
  · rw [State.revalidate_of_offline hs]; exact h
  · have hc := State.lt_of_state hs
    cases hv : t.validate c (t.ctx c).cfg with
    | error e =>
      rw [State.revalidate_of_error hs hv]
      have hsame : CtxMoves t c (t.ctx c) t.useCounts := .of_frame_step rfl rfl
      exact h.setCtx c _ { hsame with
        stands := fun _ hx => by simp [hcl.step] at hx
        plant := fun _ => .inr hcl.plant
        job := fun _ hx => by simp [hj] at hx
        offline := fun _ _ _ => by simp [Ctx.heldPaths, hp, hq, hj] }
    | ok r =>
      obtain ⟨paths, us⟩ := r
      rw [State.revalidate_of_ok hcl hs hv]
      have hu := (h.applyRest c (t.ctx c).cfg.idleStep).release c
      have huse : ((t.applyRest c (t.ctx c).cfg.idleStep).release c).useCounts = t.useCounts := by
        rw [State.applyRest_only]; rfl
      have hcs : c < ((t.applyRest c (t.ctx c).cfg.idleStep).release c).ctxs.length := by simpa using hc
      have hctx : ((t.applyRest c (t.ctx c).cfg.idleStep).release c).ctx c = t.ctx c := by simp
      refine hu.ctx c _ us (.of_recounted ?_ hcs ?_ ?_ ?_ ?_ ?_ (.inr rfl) (fun _ hx => ?_) (.inr rfl) (fun _ => ?_) (fun _ hx => ?_) ?_)
      · have := State.recounted_of_validate hv
        simpa only [State.recounted, State.useCount, hctx, huse, Ctx.revalidated] using this
      · rw [hctx]; rfl
      · rw [hctx]; rfl
      · rw [hctx]; exact id
      · rw [hctx]; rfl
      · rw [hctx]; rfl
      · cases hx
      · exact .inr (State.holdsPlant_release ..)
      · simp [Ctx.revalidated, hj] at hx
      · simp [Ctx.revalidated]

omit h in
/-- A revalidation leaves every other context cleared. -/
theorem State.Cleared.revalidate {u : State} {c d : Nat} (hc : u.Cleared c) (hd : u.Cleared d) (hne : d ≠ c) :
    (u.revalidate c).Cleared d := by
  by_cases hs : (u.ctx c).state = .offline
  · rw [State.revalidate_of_offline hs]; exact hd
  · cases hv : u.validate c (u.ctx c).cfg with
    | error e =>
      rw [State.revalidate_of_error hs hv]
      have hctx : (u.setCtx c { u.ctx c with state := .offline, cur := none }).ctx d = u.ctx d := State.ctx_setCtx_of_ne _ _ hne.symm
      exact ⟨by rw [hctx]; exact hd.jobs, by rw [hctx]; exact hd.step, hd.plant⟩
    | ok r =>
      obtain ⟨paths, us⟩ := r
      rw [State.revalidate_of_ok hc hs hv]
      have hctx : ∀ x, ({ ((u.applyRest c (u.ctx c).cfg.idleStep).release c).setCtx c x with useCounts := us } : State).ctx d = u.ctx d :=
        fun x => (State.ctx_setCtx_of_ne _ _ hne.symm).trans (by simp)
      refine ⟨by rw [hctx]; exact hd.jobs, by rw [hctx]; exact hd.step, ?_⟩
      rw [Bool.eq_false_iff]
      intro hheld
      have := State.holdsPlant_of_release (s := u.applyRest c (u.ctx c).cfg.idleStep) (c := c) (d := d) hheld
      rw [State.applyRest_only] at this
      have hplant : u.holdsPlant d = true := this
      exact absurd hplant (by simp [hd.plant])

omit h in
/-- The tables of a soft reset leave every context cleared. -/
theorem State.cleared_softResetTables (u : State) (c : Nat) : u.softResetTables.Cleared c := by
  have hctx : u.softResetTables.ctx c = (u.ctx c).softReset := by
    simp only [State.ctx, State.softResetTables, State.softResetArbiter, State.softResetRing, List.getD_eq_getElem?_getD,
      List.getElem?_map]
    cases u.ctxs[c]? <;> rfl
  refine ⟨by rw [hctx]; rfl, by rw [hctx]; rfl, ?_⟩
  simp only [State.holdsPlant, State.softResetTables, State.softResetArbiter, State.softResetRing, Bool.or_eq_false_iff,
    List.any_eq_false, List.mem_map, forall_exists_index, and_imp, forall_apply_eq_imp_iff₂]
  refine ⟨fun x _ => ?_, fun g _ => by simp⟩
  simp only [Supply.reserved, List.getD_eq_getElem?_getD, List.getElem?_replicate]
  split <;> simp

theorem Works.revalidateAll {cs : List Nat} (hn : cs.Nodup) (hcl : ∀ c ∈ cs, t.Cleared c) : Works s (cs.foldl State.revalidate t) := by
  induction cs generalizing t with
  | nil => exact h
  | cons c cs ih =>
    obtain ⟨hc, hn⟩ := List.nodup_cons.mp hn
    refine ih (h.revalidate (hcl c (by simp))) hn fun d hd => ?_
    exact .revalidate (hcl c (by simp)) (hcl d (by simp [hd])) fun e => hc (e ▸ hd)

end

theorem Acts.softReset {s t : State} (h : Acts s t) : Acts s t.softReset :=
  h.tables.works (Works.refl.revalidateAll List.nodup_range fun c _ => t.cleared_softResetTables c)

end Sys2Proof.Machine
end

section
/-!
The frames' passage, the timers' expiry and the requests as chains of updates, and so each command other than RESET once its interval has
passed.
-/
namespace Sys2Proof.Machine

/-! ### Lists whose entries are related one by one -/

theorem forall₂_getElem?_right {α β : Type} {R : α → β → Prop} {xs : List α} {ys : List β} (h : List.Forall₂ R xs ys) {i : Nat} {y : β}
    (hy : ys[i]? = some y) : ∃ x, xs[i]? = some x ∧ R x y := by
  induction h generalizing i with
  | nil => simp at hy
  | cons hxy _ ih =>
    cases i with
    | zero => simp only [List.getElem?_cons_zero, Option.some.injEq] at hy ⊢; subst hy; exact ⟨_, rfl, hxy⟩
    | succ i => simpa using ih (by simpa using hy)

theorem forall₂_getElem?_left {α β : Type} {R : α → β → Prop} {xs : List α} {ys : List β} (h : List.Forall₂ R xs ys) {i : Nat} {x : α}
    (hx : xs[i]? = some x) : ∃ y, ys[i]? = some y ∧ R x y := by
  obtain ⟨y, hy, hr⟩ := forall₂_getElem?_right (R := fun y x => R x y) h.flip hx
  exact ⟨y, hy, hr⟩

/-! ### The outbound pass -/

/-- A stamp writes no more of an entry than its SATURATED flag and its last raw value (R26). -/
inductive Point.Stamps : Point → Point → Prop
  | same (p : Point) : Stamps p p
  | set (cfg : PointCfg) (r : SetRec) (b : Bool) (raw : Nat) : Stamps (.set cfg r) (.set cfg { r with saturated := b, lastRaw := some raw })

theorem State.stampAll_stamps (s : State) (image : Nat) (ps : List Point) (payload : List Byte) :
    List.Forall₂ Point.Stamps ps (s.stampAll image ps payload).points := by
  induction ps generalizing payload with
  | nil => exact .nil
  | cons p ps ih =>
    cases p with
    | set cfg r =>
      unfold State.stampAll
      split
      · exact .cons (.set ..) (ih _)
      · exact .cons (.same _) (ih _)
    | empty => exact .cons (.same _) (ih _)
    | sample cfg st => exact .cons (.same _) (ih _)

section
variable {s t : State} (h : Acts s t)
include h

theorem Acts.stamp {ps : List Point} (hps : List.Forall₂ Point.Stamps t.points ps) : Acts s { t with points := ps } := by
  refine h.points ps hps.length_eq.symm (fun hu => ?_) fun c l _ hl => ?_
  · rw [State.hotUnforced_iff] at hu ⊢
    intro q hq
    obtain ⟨i, hi⟩ := List.mem_iff_getElem?.mp hq
    obtain ⟨p, hp, hrel⟩ := forall₂_getElem?_right hps hi
    have hpu := hu p (List.mem_of_getElem? hp)
    cases hrel <;> exact hpu
  · obtain ⟨i, cfg, r, hi, hrest⟩ := State.feeds_iff.mp hl
    obtain ⟨q, hq, hrel⟩ := forall₂_getElem?_left hps hi
    rw [State.feeds_iff]
    cases hrel with
    | same => exact ⟨i, cfg, r, hq, hrest⟩
    | set _ _ b raw => exact ⟨i, cfg, _, hq, hrest⟩

theorem Acts.saturate (clamped : List Nat) : Acts s (t.saturate clamped) := by
  refine Acts.push ?_ _
  generalize (contexts.filter fun c => clamped.contains c && !(t.ctx c).marker) = cs
  induction cs generalizing t with
  | nil => exact h
  | cons c cs ih =>
    refine ih ((h.works (Works.setCtx .refl c _ ?_)).count _)
    exact .of_frame_step rfl rfl

theorem Acts.processOutbound (image : Nat) (f : Frame) : Acts s (t.processOutbound image f) := by
  unfold State.processOutbound
  dsimp only
  split
  · exact (h.count 48).forward ..
  · exact (((h.count 48).stamp (State.stampAll_stamps ..)).forward ..).saturate _

theorem Acts.processReturn (image : Nat) (f : Frame) : Acts s (t.processReturn image f) := by
  unfold State.processReturn
  split
  · exact h.sendU f
  · exact h.push _

theorem Acts.emptyHolder (x : Held) : Acts s (t.emptyHolder x) := by
  unfold State.emptyHolder
  dsimp only
  split
  · exact (h.setHolder none).softReset
  · exact h.setHolder none

theorem Acts.mailboxReturn (f : Frame) : Acts s (t.mailboxReturn f) := by
  unfold State.mailboxReturn
  split
  · split
    · exact (h.sendU _).emptyHolder _
    · exact h.sendU _
  · exact h.sendU _

theorem Acts.arriveD (f : Frame) : Acts s (t.arriveD f) := by
  unfold State.arriveD
  split
  · dsimp only
    split
    · exact h.goodArrival.forward ..
    · exact (h.goodArrival.processReturn ..).settle
    · exact h.goodArrival.mailboxReturn f
  · exact h.badArrival ..

/-! ### Requests -/

theorem Acts.clearCounters (start count : Nat) : Acts s (t.clearCounters start count) := by
  refine h.tally t.reports t.lost _ (Nat.le_refl _) (Nat.le_refl _) (by simp) fun k hk => ?_
  obtain ⟨i, hi⟩ := List.mem_iff_getElem?.mp hk
  rw [getElem?_mapFrom] at hi
  obtain ⟨m, hm, rfl⟩ := Option.map_eq_some_iff.mp hi
  split
  · exact .inr rfl
  · exact .inl (List.mem_of_getElem? hm)

omit h in
theorem State.passes_writeContext {u : State} {c : Nat} {f : CtxFields} {enable : Bool} (hcheck : u.checkContext c f enable = none) :
    c < Config.contexts ∧ (u.ctx c).busy = false := by
  simp only [State.checkContext, firstRefusal_eq_none, List.forall_mem_cons, refuseIf_eq_none, indexFault] at hcheck
  obtain ⟨hc, -, -, hbusy, -⟩ := hcheck
  exact ⟨by simpa using hc, hbusy⟩

/-- Enable or rewrite, of a context in the table or past it (R76, R77). -/
theorem Acts.enable {c : Nat} (f : CtxFields) (hc : c < Config.contexts) (hb : (t.ctx c).busy = false) :
    Acts s (t.enable c (ctxCfgOf f)) := by
  by_cases hlt : c < t.ctxs.length
  · exact h.works (Works.refl.enable f hlt hb)
  · have hreset := State.ctx_of_le (Nat.le_of_not_lt hlt)
    unfold State.enable
    split
    · exact h
    · next paths us _ =>
      have hset : ∀ x, ({ t with useCounts := us } : State).setCtx c x = { t with useCounts := us } := fun x => by
        simp [State.setCtx, List.set_eq_of_length_le (Nat.le_of_not_lt hlt)]
      have hjob : (t.ctx c).jobRuns → (t.ctx c).job = none := fun _ => by rw [hreset]; rfl
      have hu : Acts s { t with useCounts := us } := h.unsized us (by omega)
      have hidle : Acts s (State.idleEntry { t with useCounts := us } c) := hu.works (Works.refl.idleEntry hjob)
      have hpush : Acts s ((({ t with useCounts := us } : State).push [.trigger]).idleEntry c) :=
        (hu.push _).works (Works.refl.idleEntry hjob)
      simp only [hset]
      repeat' split
      all_goals assumption

end

/-- What an accepted request does (Table 10-2), but for the settling of its event. -/
theorem requestOf_acts {x : Fields} {code : Nat} {q : Request} {t : State} (hq : requestOf x code = some q) (hcheck : q.check t = none) :
    Acts t (q.effect t) := by
  have h : Acts t t := .refl
  have hw : Works t t := .refl
  unfold requestOf at hq
  split at hq
  case h_33 => cases hq
  all_goals cases hq
  all_goals try exact h
  case h_2 =>
    exact (h.tally t.reports 0 t.counters (Nat.le_refl _) (Nat.zero_le _) rfl fun _ hk => .inl hk).other t.sentU t.sentD false t.holder
      t.loader t.inUse t.free
  case h_3 =>
    obtain ⟨hall, hnodup, -⟩ := checkEntries_eq_none hcheck
    exact h.writePoints _ (fun e he cfg r c hp ho => State.not_active_of_checkPoint (hall e he) hp ho) hnodup
  case h_6 => exact h.force _ _ hcheck
  case h_7 => exact h.releaseForce _
  case h_8 => exact h.writeNodes _
  case h_10 =>
    obtain ⟨hall, -, -⟩ := checkEntries_eq_none hcheck
    exact (h.writeSupplies _ fun e he => State.lineInUse_of_checkSupply (hall e he)).push _
  case h_12 => exact h.writeRoughings _
  case h_14 => exact (h.writeGates _).push _
  case h_16 =>
    split
    · dsimp only [gateCloseRequest]
      split
      · next hg => exact (hw.closeGate hg _).acts
      · exact h
    · dsimp only [gateOpenRequest]
      split
      · next hg => exact (hw.openGate hg _).acts
      · exact h
  case h_17 =>
    simp only [writeRecordsRequest, firstRefusal_eq_none, List.forall_mem_cons] at hcheck
    exact h.writeRecords _ _ (State.useCount_of_checkRecords hcheck.2.1)
  case h_19 =>
    cases hen : x.enable with
    | true =>
      rw [hen, if_pos rfl] at hcheck
      rw [if_pos rfl]
      simp only [enableRequest, firstRefusal_eq_none, List.forall_mem_cons] at hcheck
      obtain ⟨hc, hb⟩ := State.passes_writeContext hcheck.1
      exact h.enable _ hc hb
    | false =>
      rw [hen, if_neg Bool.false_ne_true] at hcheck
      rw [if_neg Bool.false_ne_true]
      obtain ⟨-, hb⟩ := State.passes_writeContext hcheck
      exact (hw.disable _ hb).acts
  case h_21 => exact ((hw.writeMasks ..).push _ (by simp [Task.finishes])).acts
  case h_22 => exact (hw.clearFlags ..).acts
  case h_23 =>
    simp only [submitJobRequest, State.checkSubmit, firstRefusal_eq_none, List.forall_mem_cons, refuseIf_eq_none] at hcheck
    obtain ⟨-, -, hstate, htag, hfull, -⟩ := hcheck
    exact (hw.submit (by simpa using hstate) (by simpa using hfull) htag).acts
  case h_24 => exact (hw.cancel ..).acts
  case h_25 => exact (hw.push _ (by simp [Task.finishes])).acts
  case h_26 =>
    simp only [clearRequest, firstRefusal_eq_none, List.forall_mem_cons, refuseIf_eq_none] at hcheck
    obtain ⟨-, hstate, -⟩ := hcheck
    exact (hw.clear (by simpa using hstate)).acts
  case h_27 =>
    simp only [parkRequest, firstRefusal_eq_none, List.forall_mem_cons, refuseIf_eq_none] at hcheck
    obtain ⟨-, -, hstate, -⟩ := hcheck
    refine (hw.parkAt ?_ _).acts
    by_cases hidle : (t.ctx x.index).state = .idle
    · simp [Ctx.active, hidle]
    · have hwaking : (t.ctx x.index).state = .waking := by simpa [hidle] using hstate
      simp [Ctx.active, hwaking]
  case h_28 =>
    dsimp only [wakeRequest]
    split
    · next level hpark =>
      exact (hw.wakeFrom (by simp [Ctx.active, hpark]) (State.lt_of_state (by simp [hpark])) _).acts
    · exact h
  case h_29 => exact h.tally _ t.lost t.counters (by simp) (Nat.le_refl _) rfl fun _ hk => .inl hk
  case h_30 =>
    dsimp only [readCountersRequest]
    split
    · exact h.clearCounters ..
    · exact h
  case h_31 => exact h.setLoader _ t.inUse

theorem Request.run_acts {x : Fields} {code : Nat} {q : Request} {t : State} (hq : requestOf x code = some q) : Acts t (q.run t).1 := by
  cases hcheck : q.check t with
  | some r => rw [q.run_of_refused t r hcheck]; exact .refl
  | none => rw [q.run_of_passes t hcheck]; exact (requestOf_acts hq hcheck).settle

section
variable {s t : State} (h : Acts s t) (hu : t.useCounts = s.useCounts)
include h hu

theorem Acts.perform {x : Fields} {code : Nat} {q : Request} (hq : requestOf x code = some q) (m : Mailbox) : Acts s (t.perform m q) := by
  unfold State.perform
  split
  · exact (h.trans hu (Request.run_acts hq)).holdResponse ..
  · exact h.holdResponse ..

theorem Acts.executeSpelled (f : Frame) : Acts s (t.executeSpelled f) := by
  unfold State.executeSpelled
  dsimp only
  split
  · next hq => exact h.perform hu hq _
  · exact h.holdResponse ..

theorem Acts.execute (m : Mailbox) {q : Option Request} (hq : ∀ q', q = some q' → ∃ x code, requestOf x code = some q') :
    Acts s (t.execute m q) := by
  unfold State.execute
  split
  · exact h.holdResponse ..
  · split
    · next q' =>
      obtain ⟨x, code, hx⟩ := hq q' rfl
      split
      · exact h.perform hu hx m
      · exact h.executeSpelled hu _
    · exact h.executeSpelled hu _

theorem Acts.arriveU (m : Mailbox) {q : Option Request} (hq : ∀ q', q = some q' → ∃ x code, requestOf x code = some q') {u : State}
    (hnext : t.arriveU m q = .next u) : Acts s u := by
  unfold State.arriveU at hnext
  dsimp only at hnext
  split at hnext
  · split at hnext
    · cases hnext; exact (h.goodArrival.count 50).forward ..
    · cases hnext; exact (h.goodArrival.processOutbound ..).settle
    · cases hnext
      split
      · exact (h.goodArrival.count 49).forward ..
      · exact (h.goodArrival.count 49).execute hu m hq
  · cases hnext; exact h.badArrival ..

end

end Sys2Proof.Machine
end

section
/-!
What each command other than RESET does once its interval has passed is a chain of updates (`Acts`), and so a law that RESET meets and that
the passing of time and every update keep is one that every step keeps.
-/
namespace Sys2Proof.Machine

section
variable {s t : State} (h : Acts s t)
include h

theorem Acts.enterGap : Acts s t.enterGap := ((h.ring .gap none rfl).count 52).push _

theorem Acts.holderExpiry : Acts s t.holderExpiry := by
  unfold State.holderExpiry
  split
  · split
    · exact h.emptyHolder _
    · exact h
  · exact h

theorem Acts.settleRamp (p : Nat) : Acts s (t.settleRamp p) := by
  unfold State.settleRamp
  split
  · next cfg r hp =>
    split
    · have hmoves : (t.point p).Moves (.set cfg { r with s := r.t, d := 0 }) := hp ▸ Point.Moves.set cfg _ _ (.inl rfl) rfl rfl
      have hset := Works.setPoint .refl p _ hmoves
      dsimp only
      split
      · exact h.works (hset.triggerIf _)
      · exact h.works hset
    · exact h
  · exact h

theorem Acts.timeExpiry (c i : Nat) : Acts s (t.timeExpiry c i) := by
  unfold State.timeExpiry
  split
  · exact h
  · split
    · exact h
    · split
      · exact h.works (Works.refl.evaluateEnd ..)
      · exact h

theorem Acts.rampCompletion (c : Nat) : Acts s (t.rampCompletion c) := by
  unfold State.rampCompletion
  split
  · exact h
  · split
    · refine h.works (((Works.modStep .refl c _ fun st hst => ?_).lowerReservations c _).triggerIf _)
      exact State.carries_of_eq hst rfl
    · exact h

theorem Acts.maxTimeExpiry (c : Nat) : Acts s (t.maxTimeExpiry c) := by
  unfold State.maxTimeExpiry
  split
  · exact h
  · split
    · refine h.works ((Works.modStep .refl c _ fun st hst => ?_).push _ (by simp [Task.finishes]))
      exact State.carries_of_eq hst rfl
    · exact h

theorem Acts.strikeExpiry (c : Nat) : Acts s (t.strikeExpiry c) := by
  unfold State.strikeExpiry
  split
  · exact h
  · split
    · refine h.works ((Works.modStep .refl c _ fun st hst => ?_).push _ (by simp [Task.finishes]))
      exact State.carries_of_eq hst rfl
    · exact h

theorem Acts.afterReading (p : Option Nat) : Acts s (t.afterReading p) := by
  unfold State.afterReading
  split
  · exact h.setFree _
  · exact h

theorem Acts.settleExpiry (c : Nat) : Acts s (t.settleExpiry c) := by
  unfold State.settleExpiry
  split
  · exact h
  · split
    · refine (h.works (Works.modStep .refl c _ fun st hst => ?_)).afterReading _
      exact State.carries_of_eq hst rfl
    · exact h

theorem Acts.measureExpiry (c : Nat) : Acts s (t.measureExpiry c) := by
  unfold State.measureExpiry
  dsimp only
  split
  · exact h
  · split
    · exact ((h.works (Works.report .refl ..)).afterReading _).push _
    · exact h

theorem Acts.admitExpiry (c : Nat) : Acts s (t.admitExpiry c) := by
  unfold State.admitExpiry
  split
  · exact h
  · split
    · refine (h.waits _ ?_).push _
      rw [List.map_map]
      refine List.map_congr_left fun e _ => ?_
      simp only [Function.comp_apply]
      split <;> rfl
    · exact h

end

/-- Every request that a command carries is one of Table 10-2. -/
theorem exec_acts_request {s t : State} {x : Fields} {code : Nat} {q : Request} {m : Mailbox} {dt : Nat} (hq : requestOf x code = some q)
    (h : (s.advance dt).arriveU m (some q) = .next t) : Acts (s.advance dt) t :=
  Acts.refl.arriveU rfl m (fun q' e => by cases e; exact ⟨x, code, hq⟩) h

theorem exec_acts_bare {s t : State} {m : Mailbox} {dt : Nat} (h : (s.advance dt).arriveU m none = .next t) : Acts (s.advance dt) t :=
  Acts.refl.arriveU rfl m (fun q' e => by cases e) h

theorem exec_acts_arrive {s t : State} {p : Port} {f : Frame} {dt : Nat} (h : (s.advance dt).arrive p f = .next t) :
    Acts (s.advance dt) t := by
  cases p with
  | u => exact exec_acts_bare h
  | d => cases h; exact Acts.refl.arriveD f

/-- What a command other than RESET does once its interval has passed. -/
theorem exec_acts {i : Instr} {s t : State} (hi : i ≠ .reset) (h : exec i s = .next t) : Acts (s.advance (intervalOf i)) t := by
  have hr : ∀ dt, Acts (s.advance dt) (s.advance dt) := fun _ => .refl
  have hw : ∀ dt, Works (s.advance dt) (s.advance dt) := fun _ => .refl
  let x : Fields := default
  cases i with
  | reset => exact absurd rfl hi
  | loadCompletion dt page => cases h; split; exacts [(hr dt).setLoader _ _, hr dt]
  | storeCompletion dt answered =>
    cases h
    split
    · unfold State.endStore
      split
      · exact (hr dt).setLoader _ (s.advance dt).inUse
      · exact (hr dt).setLoader _ (s.advance dt).inUse
    · exact hr dt
  | processFrameOutbound dt f | mailboxHolderFull dt f => exact exec_acts_arrive (p := .u) (f := f) h
  | processFrameReturn dt f | mailboxFrameReturn dt f => exact exec_acts_arrive (p := .d) (f := f) h
  | otherFrame dt port f | badCheckArrival dt port f => exact exec_acts_arrive (p := port) (f := f) h
  | gapTimerExpiry dt => cases h; split; exacts [(hr dt).enterGap.settle, hr dt]
  | holderTimerExpiry dt => cases h; exact (hr dt).holderExpiry
  | rampEnd dt p => cases h; exact ((hr dt).settleRamp p).settle
  | autoParkExpiry dt c =>
    cases h
    split
    · next hidle => exact ((hw dt).parkAt (by simp [Ctx.active, hidle.1]) _).acts.settle
    · exact hr dt
  | wakeDelayExpiry dt c =>
    cases h
    split
    · next hwaking => exact ((hw dt).wakeEnd (by simp [Ctx.active, hwaking.1])).acts.settle
    · exact hr dt
  | timeExpiry dt c k => cases h; exact ((hr dt).timeExpiry ..).settle
  | rampCompletion dt c => cases h; exact ((hr dt).rampCompletion c).settle
  | maxTimeExpiry dt c => cases h; exact ((hr dt).maxTimeExpiry c).settle
  | strikeWindowExpiry dt c => cases h; exact ((hr dt).strikeExpiry c).settle
  | settleExpiry dt c => cases h; exact (hr dt).settleExpiry c
  | measureExpiry dt c => cases h; exact ((hr dt).measureExpiry c).settle
  | admitTimeoutExpiry dt c => cases h; exact ((hr dt).admitExpiry c).settle
  | motionTimerExpiry dt g => cases h; exact ((hw dt).motionExpiry g).acts.settle
  | unknownRequestCode dt m => exact exec_acts_bare h
  | identify dt m => exact exec_acts_request (x := x) (code := 1) rfl h
  | readStatus dt m => exact exec_acts_request (x := x) (code := 2) rfl h
  | writePoints dt m entries => exact exec_acts_request (x := { x with points := entries }) (code := 16) rfl h
  | readPoints dt m start count => exact exec_acts_request (x := { x with start := start, count := count }) (code := 17) rfl h
  | readSamples dt m start count => exact exec_acts_request (x := { x with start := start, count := count }) (code := 18) rfl h
  | forcePoint dt m p value => exact exec_acts_request (x := { x with index := p, value := value }) (code := 19) rfl h
  | releasePoint dt m p => exact exec_acts_request (x := { x with index := p }) (code := 20) rfl h
  | writeNodes dt m entries => exact exec_acts_request (x := { x with nodes := entries }) (code := 32) rfl h
  | readNodes dt m start count => exact exec_acts_request (x := { x with start := start, count := count }) (code := 33) rfl h
  | writeSupply dt m entries => exact exec_acts_request (x := { x with supplies := entries }) (code := 34) rfl h
  | readSupply dt m start count => exact exec_acts_request (x := { x with start := start, count := count }) (code := 35) rfl h
  | writeRoughing dt m entries => exact exec_acts_request (x := { x with groups := entries }) (code := 36) rfl h
  | readRoughing dt m start count => exact exec_acts_request (x := { x with start := start, count := count }) (code := 37) rfl h
  | writeGates dt m entries => exact exec_acts_request (x := { x with gates := entries }) (code := 38) rfl h
  | readGates dt m start count => exact exec_acts_request (x := { x with start := start, count := count }) (code := 39) rfl h
  | gateRequestOpen dt m g listed =>
    exact exec_acts_request (x := { x with index := g, directionListed := listed, closing := false }) (code := 40) rfl h
  | gateRequestClose dt m g listed =>
    exact exec_acts_request (x := { x with index := g, directionListed := listed, closing := true }) (code := 40) rfl h
  | writeRecords dt m start records => exact exec_acts_request (x := { x with start := start, records := records }) (code := 48) rfl h
  | readRecords dt m start count => exact exec_acts_request (x := { x with start := start, count := count }) (code := 49) rfl h
  | writeContextEnable dt m c f => exact exec_acts_request (x := { x with index := c, cfg := f, enable := true }) (code := 50) rfl h
  | writeContextDisable dt m c f => exact exec_acts_request (x := { x with index := c, cfg := f, enable := false }) (code := 50) rfl h
  | readContext dt m c => exact exec_acts_request (x := { x with index := c }) (code := 51) rfl h
  | setMask dt m c masks levels => exact exec_acts_request (x := { x with index := c, masks := masks, levels := levels }) (code := 64) rfl h
  | clearRequest dt m c sources => exact exec_acts_request (x := { x with index := c, sources := sources }) (code := 65) rfl h
  | submitJob dt m c tag start priority reportAll =>
    exact exec_acts_request
      (x := { x with index := c, tag := tag, start := start, priority := priority, reportAll := reportAll }) (code := 80) rfl h
  | cancelJob dt m c tag => exact exec_acts_request (x := { x with index := c, tag := tag }) (code := 81) rfl h
  | abort dt m c => exact exec_acts_request (x := { x with index := c }) (code := 82) rfl h
  | clear dt m c => exact exec_acts_request (x := { x with index := c }) (code := 83) rfl h
  | park dt m c level => exact exec_acts_request (x := { x with index := c, parkLevel := level }) (code := 84) rfl h
  | wake dt m c => exact exec_acts_request (x := { x with index := c }) (code := 85) rfl h
  | readReports dt m count => exact exec_acts_request (x := { x with count := count }) (code := 96) rfl h
  | readCounters dt m start count clear =>
    exact exec_acts_request (x := { x with start := start, count := count, clear := clear }) (code := 97) rfl h
  | storeConfig dt m page => exact exec_acts_request (x := { x with page := page }) (code := 112) rfl h
  | softReset dt m => exact exec_acts_request (x := x) (code := 113) rfl h

/-- A law that RESET meets, and that the passing of time and every update keep, is kept by every command. -/
theorem exec_keeps {P : State → Prop} {i : Instr} {s t : State}
    (hreset : P { State.resetWith s.straps with pending := s.pending, free := s.free })
    (hadvance : ∀ dt, P (s.advance dt)) (hacts : ∀ u, Acts u t → P u → P t) (h : exec i s = .next t) : P t := by
  by_cases hi : i = .reset
  · subst hi; cases h; exact hreset
  · exact hacts _ (exec_acts hi h) (hadvance _)

/-- A law that RESET meets, that does not speak of the queue of commands, and that the passing of time and every update keep, is kept by
every step. -/
theorem step_keeps {P : State → Prop} {s t : State}
    (hreset : ∀ ps, P { State.resetWith s.straps with pending := ps, free := s.free })
    (hadvance : ∀ ps dt, P ({ s with pending := ps }.advance dt)) (hacts : ∀ u, Acts u t → P u → P t) (hs : P s)
    (h : step s = .next t) : P t := by
  unfold step at h
  split at h
  · cases h; exact hs
  · next i rest _ => exact exec_keeps (s := { s with pending := rest }) (hreset rest) (hadvance rest) hacts h

end Sys2Proof.Machine
end

section
/-!
The laws of single entries: the diversion stacks (R167), the fixed sources (R156), the unforced FLOW and POWER points (R33), the timers of
the ring and of the gates (R10, R145 to R149), and the order of the wait list (R134).
-/
namespace Sys2Proof.Machine

/-! ### Laws of each context by itself -/

/-- Writing one context keeps a law of all contexts that the new one meets. -/
theorem State.forall_setCtx {Q : Ctx → Prop} {s : State} {c : Nat} {x : Ctx} (hs : ∀ y ∈ s.ctxs, Q y) (hx : Q (s.ctx c) → Q x) :
    ∀ y ∈ (s.setCtx c x).ctxs, Q y := by
  intro y hy
  rw [State.setCtx_ctxs] at hy
  by_cases hc : c < s.ctxs.length
  · rcases List.mem_or_eq_of_mem_set hy with hy | rfl
    · exact hs y hy
    · exact hx (by rw [State.ctx, List.getD_eq_getElem _ _ hc]; exact hs _ (List.getElem_mem hc))
  · rw [List.set_eq_of_length_le (Nat.le_of_not_lt hc)] at hy
    exact hs y hy

/-- A law of each context that every move of a context keeps is kept by all work. -/
theorem Works.forall_ctxs {Q : Ctx → Prop} (hmoves : ∀ u c x us, CtxMoves u c x us → Q (u.ctx c) → Q x) {s t : State} (h : Works s t)
    (hs : ∀ x ∈ s.ctxs, Q x) : ∀ x ∈ t.ctxs, Q x := by
  induction h with
  | refl => exact hs
  | report _ c st tag b ih => rw [State.report_ctxs]; exact ih
  | ctx _ c x us hx ih => exact State.forall_setCtx ih (hmoves _ c x us hx)
  | _ => assumption

/-- A law of each context that every move and the soft reset keep is kept by every update. -/
theorem Acts.forall_ctxs {Q : Ctx → Prop} (hmoves : ∀ u c x us, CtxMoves u c x us → Q (u.ctx c) → Q x)
    (hsoft : ∀ x, Q x → Q x.softReset) {s t : State} (h : Acts s t) (hs : ∀ x ∈ s.ctxs, Q x) : ∀ x ∈ t.ctxs, Q x := by
  induction h with
  | refl => exact hs
  | works _ k ih => exact k.forall_ctxs hmoves ih
  | tables _ ih =>
    intro y hy
    obtain ⟨x, hx, rfl⟩ := List.mem_map.mp hy
    exact hsoft x (ih x hx)
  | _ => assumption

/-- A law of each context that a reset context meets, that does not speak of counts of time, and that every move and the soft reset keep,
is kept by every step. -/
theorem step_forall_ctxs {Q : Ctx → Prop} (hreset : Q Ctx.reset) (hadvance : ∀ x dt, Q x → Q (x.advance dt))
    (hmoves : ∀ u c x us, CtxMoves u c x us → Q (u.ctx c) → Q x) (hsoft : ∀ x, Q x → Q x.softReset) {s t : State}
    (hs : ∀ x ∈ s.ctxs, Q x) (h : step s = .next t) : ∀ x ∈ t.ctxs, Q x := by
  refine step_keeps (P := fun u => ∀ x ∈ u.ctxs, Q x) (fun ps x hx => ?_) (fun ps dt x hx => ?_)
    (fun u k => k.forall_ctxs hmoves hsoft) hs h
  · rw [List.eq_of_mem_replicate hx]; exact hreset
  · obtain ⟨y, hy, rfl⟩ := List.mem_map.mp hx
    exact hadvance y dt (hs y hy)

theorem State.stackLaw_iff (s : State) : s.stackLaw = true ↔ ∀ x ∈ s.ctxs, x.stackLaw = true := List.all_eq_true

theorem State.fixedSources_iff (s : State) : s.fixedSources = true ↔ ∀ x ∈ s.ctxs, x.fixedSources = true := List.all_eq_true

/-- The levels of a stack rise below that in service, of four levels in all: three records at most (R167). -/
theorem Ctx.length_stack_le {x : Ctx} (h : x.stackLaw = true) : x.stack.length ≤ 3 := by
  have hp : (x.stack.map (levelRank ·.level) ++ [levelRank x.isl]).Pairwise (· < ·) := by simpa [Ctx.stackLaw] using h
  have hlt : ∀ n ∈ x.stack.map (levelRank ·.level) ++ [levelRank x.isl], n ∈ List.range 4 := by
    have hrank : ∀ l, levelRank l < 4 := fun l => by cases l <;> decide
    intro n hn
    rcases List.mem_append.mp hn with hn | hn
    · obtain ⟨r, -, rfl⟩ := List.mem_map.mp hn
      exact List.mem_range.mpr (hrank _)
    · exact List.mem_range.mpr (List.mem_singleton.mp hn ▸ hrank _)
  have hn : (x.stack.map (levelRank ·.level) ++ [levelRank x.isl]).Nodup := hp.imp Nat.ne_of_lt
  have := (hn.subperm hlt).length_le
  simp at this
  omega

/-- Settles O7: no move of a context breaks its stack (`CtxMoves.stack`), and the soft reset empties it. -/
theorem everyStepKeepsTheStackLaw : Obligations.EveryStepKeepsTheStackLaw := by
  refine ⟨fun s t hs h => ?_, fun x => Ctx.length_stack_le⟩
  rw [State.stackLaw_iff] at hs ⊢
  exact step_forall_ctxs (Q := fun x => x.stackLaw = true) rfl (fun x dt hx => hx) (fun _ _ _ _ hm => hm.stack) (fun x _ => by simp [Ctx.stackLaw, Ctx.softReset]) hs h

/-! ### Forces (R33) -/

theorem Point.Moves.unforced {p q : Point} (h : p.Moves q) (hp : p.unforced = true) : q.unforced = true := by
  cases h with
  | empty | sample => rfl
  | set cfg r r' hforced =>
    simp only [Point.unforced, Bool.or_eq_true, Option.isNone_iff_eq_none] at hp ⊢
    exact hp.imp_right fun hp => hforced.elim (fun e => e.trans hp) id

theorem Works.hotUnforced {s t : State} (h : Works s t) (hs : s.hotUnforced = true) : t.hotUnforced = true := by
  induction h with
  | refl => exact hs
  | report _ c st tag b ih => rw [State.hotUnforced, State.report_points]; exact ih
  | points _ ps hps ih =>
    rw [State.hotUnforced_iff] at ih ⊢
    intro q hq
    obtain ⟨i, hi⟩ := List.mem_iff_getElem?.mp hq
    obtain ⟨p, hp, hmoves⟩ := forall₂_getElem?_right hps hi
    exact hmoves.unforced (ih p (List.mem_of_getElem? hp))
  | _ => assumption

theorem Acts.hotUnforced {s t : State} (h : Acts s t) (hs : s.hotUnforced = true) : t.hotUnforced = true := by
  induction h with
  | refl => exact hs
  | works _ k ih => exact k.hotUnforced ih
  | points _ ps _ hforce _ ih => exact hforce ih
  | tables _ ih =>
    rw [State.hotUnforced_iff]
    intro q hq
    obtain ⟨p, -, rfl⟩ := List.mem_map.mp hq
    cases p <;> simp [Point.softReset, Point.unforced, SetRec.fresh]
  | _ => assumption

theorem step_hotUnforced {s t : State} (hs : s.hotUnforced = true) (h : step s = .next t) : t.hotUnforced = true := by
  refine step_keeps (P := fun u => u.hotUnforced = true) (fun ps => ?_) (fun _ _ => hs) (fun u => Acts.hotUnforced) hs h
  rw [State.hotUnforced_iff]
  intro p hp
  rw [List.eq_of_mem_replicate hp]; rfl

/-- A bit of the sources 0 to 3 is none of the programmable ones (R156). -/
theorem masked_of_fixed (masks : BitVec 16) {src : Source} (h : src.num < 4) : src.masked masks = false := by
  have hlow : ∀ k : Fin 4, programmable.getLsbD k.val = false := by decide
  rw [Source.masked, BitVec.getLsbD_and, hlow ⟨src.num, h⟩, Bool.and_false]

/-- Settles O8: no move of a context touches the masks and levels of sources 0 to 3 (`CtxMoves.fixed`), and no update of the points forces
one of a quantity that R33 excludes. -/
theorem fixedSourcesAndUnforcedPointsStay : Obligations.FixedSourcesAndUnforcedPointsStay := by
  refine ⟨⟨fun s t hs h => ?_, fun masks highs => ?_⟩, fun s t => step_hotUnforced⟩
  · rw [State.fixedSources_iff] at hs ⊢
    exact step_forall_ctxs (Q := fun x => x.fixedSources = true) (by decide) (fun x dt hx => hx) (fun _ _ _ _ hm => hm.fixed) (fun x hx => hx) hs h
  · exact ⟨masked_of_fixed _ (by decide), masked_of_fixed _ (by decide), masked_of_fixed _ (by decide), masked_of_fixed _ (by decide),
      rfl, rfl, rfl, rfl⟩

/-! ### Timers (R10, R145 to R149) -/

/-- The gap timer runs exactly in UP, and every gate's motion timer exactly in its motions. -/
theorem State.timersFollow_iff (s : State) :
    s.timersFollow = true ↔ s.gapTimer.isSome = (s.ring == .up) ∧ ∀ x, some x ∈ s.gates → x.timed = true := by
  rw [State.timersFollow, Bool.and_eq_true, beq_iff_eq, List.all_eq_true]
  refine and_congr_right fun _ => ⟨fun h x hx => h _ hx, fun h g hg => ?_⟩
  cases g with
  | none => rfl
  | some x => exact h x hg

theorem State.mem_gates_of_gate {s : State} {g : Nat} {x : Gate} (h : s.gate g = some x) : some x ∈ s.gates := by
  rw [State.gate, List.getD_eq_getElem?_getD] at h
  cases hg : s.gates[g]? with
  | none => rw [hg] at h; cases h
  | some y => rw [hg] at h; cases h; exact List.mem_of_getElem? hg

theorem Works.timersFollow {s t : State} (h : Works s t) (hs : s.timersFollow = true) : t.timersFollow = true := by
  rw [State.timersFollow_iff] at hs ⊢
  induction h with
  | refl => exact hs
  | report _ c st tag b ih => rw [State.report_gapTimer, State.report_ring, State.report_gates]; exact ih
  | gate _ g x x' hg _ ht ih =>
    refine ⟨ih.1, fun y hy => ?_⟩
    rcases List.mem_or_eq_of_mem_set hy with hy | hy
    · exact ih.2 y hy
    · cases hy; exact ht (ih.2 x (State.mem_gates_of_gate hg))
  | _ => assumption

theorem Acts.timersFollow {s t : State} (h : Acts s t) (hs : s.timersFollow = true) : t.timersFollow = true := by
  induction h with
  | refl => exact hs
  | works _ k ih => exact k.timersFollow ih
  | ring _ r g hg ih => exact (State.timersFollow_iff _).mpr ⟨hg, ((State.timersFollow_iff _).mp ih).2⟩
  | gates _ gs _ htimed ih =>
    obtain ⟨hgap, hgates⟩ := (State.timersFollow_iff _).mp ih
    exact (State.timersFollow_iff _).mpr ⟨hgap, fun x hx => (htimed x hx).elim (hgates x) id⟩
  | tables _ ih =>
    refine (State.timersFollow_iff _).mpr ⟨rfl, fun x hx => ?_⟩
    obtain ⟨g, -, hg⟩ := List.mem_map.mp hx
    obtain ⟨y, -, rfl⟩ := Option.map_eq_some_iff.mp hg
    rfl
  | _ => assumption

theorem step_timersFollow {s t : State} (hs : s.timersFollow = true) (h : step s = .next t) : t.timersFollow = true :=
  step_keeps (P := fun u => u.timersFollow = true) (fun _ => rfl) (fun _ _ => hs) (fun _ => Acts.timersFollow) hs h

/-! ### The order of the wait list (R134) -/

/-- A list in the order of a rank stays so where an element comes in behind all of its rank and less. -/
theorem pairwise_insert {α : Type} {rank : α → Nat} {l : List α} (e : α) (h : l.Pairwise fun a b => rank a ≤ rank b) :
    (l.takeWhile (fun y => decide (rank y ≤ rank e)) ++ e :: l.dropWhile fun y => decide (rank y ≤ rank e)).Pairwise
      fun a b => rank a ≤ rank b := by
  have hahead : ∀ a ∈ l.takeWhile (fun y => decide (rank y ≤ rank e)), rank a ≤ rank e := fun a ha => by
    simpa using List.mem_takeWhile_imp ha
  have hbehind : ∀ b ∈ l.dropWhile (fun y => decide (rank y ≤ rank e)), rank e ≤ rank b := by
    induction l with
    | nil => simp
    | cons y l ih =>
      obtain ⟨hy, hl⟩ := List.pairwise_cons.mp h
      rw [List.dropWhile_cons]
      split
      · exact ih hl fun a ha => by simpa using List.mem_takeWhile_imp ha
      · next hlt =>
        have hlt : rank e < rank y := by simpa using hlt
        intro b hb
        rcases List.mem_cons.mp hb with rfl | hb
        · exact Nat.le_of_lt hlt
        · exact Nat.le_trans (Nat.le_of_lt hlt) (hy b hb)
  rw [List.pairwise_append, List.pairwise_cons]
  refine ⟨h.sublist (List.takeWhile_sublist _), ⟨hbehind, h.sublist (List.dropWhile_sublist _)⟩, fun a ha b hb => ?_⟩
  rcases List.mem_cons.mp hb with rfl | hb
  · exact hahead a ha
  · exact Nat.le_trans (hahead a ha) (hbehind b hb)

/-- The rank of an entry in the wait list. -/
def WaitEntry.rank (e : WaitEntry) : Nat := waitRank e.cls e.priority

theorem State.waitsOrdered_iff (s : State) : s.waitsOrdered = true ↔ s.waits.Pairwise fun a b => a.rank ≤ b.rank := decide_eq_true_iff

theorem Works.waitsOrdered {s t : State} (h : Works s t) (hs : s.waitsOrdered = true) : t.waitsOrdered = true := by
  rw [State.waitsOrdered_iff] at hs ⊢
  induction h with
  | refl => exact hs
  | report _ c st tag b ih => rw [State.report_waits]; exact ih
  | remove _ c ih => exact ih.sublist List.filter_sublist
  | enter _ e _ ih => exact pairwise_insert e (ih.sublist List.filter_sublist)
  | _ => assumption

/-- Entries with the places of others stand in their order. -/
theorem pairwise_rank_of_map {ws us : List WaitEntry}
    (h : ws.map (fun e => (e.ctx, e.cls, e.priority)) = us.map fun e => (e.ctx, e.cls, e.priority))
    (hu : us.Pairwise fun a b => a.rank ≤ b.rank) : ws.Pairwise fun a b => a.rank ≤ b.rank := by
  have hrank : ∀ l : List WaitEntry, (l.Pairwise fun a b => a.rank ≤ b.rank) ↔
      (l.map fun e => (e.ctx, e.cls, e.priority)).Pairwise fun a b => waitRank a.2.1 a.2.2 ≤ waitRank b.2.1 b.2.2 := fun l => by
    rw [List.pairwise_map]; rfl
  rw [hrank, h, ← hrank]
  exact hu

theorem Acts.waitsOrdered {s t : State} (h : Acts s t) (hs : s.waitsOrdered = true) : t.waitsOrdered = true := by
  induction h with
  | refl => exact hs
  | works _ k ih => exact k.waitsOrdered ih
  | waits _ ws hplaces ih => exact (State.waitsOrdered_iff _).mpr (pairwise_rank_of_map hplaces ((State.waitsOrdered_iff _).mp ih))
  | tables _ ih => rfl
  | _ => assumption

theorem step_waitsOrdered {s t : State} (hs : s.waitsOrdered = true) (h : step s = .next t) : t.waitsOrdered = true := by
  refine step_keeps (P := fun u => u.waitsOrdered = true) (fun _ => rfl) (fun ps dt => ?_) (fun _ => Acts.waitsOrdered) hs h
  rw [State.waitsOrdered_iff] at hs ⊢
  exact List.pairwise_map.mpr hs

/-- Settles O5: the timers by the gates that the updates write, the order by the place at which an entry comes in. -/
theorem everyStepKeepsTimersAndOrder : Obligations.EveryStepKeepsTimersAndOrder :=
  ⟨fun _ _ => step_timersFollow, fun _ _ => step_waitsOrdered⟩

end Sys2Proof.Machine
end

section
/-!
The sizes of the tables and the bounds of queues, counts, ages, levels and records (chapters 1 to 7 and 11).
-/
namespace Sys2Proof.Machine

/-! ### Sizes -/

/-- The numbers of entries of the tables. -/
def State.sizes (s : State) : List Nat :=
  [s.points.length, s.nodes.length, s.records.length, s.useCounts.length, s.ctxs.length, s.lines.length, s.groups.length,
    s.gates.length, s.counters.length]

/-- The part's numbers of entries (R20, R39, R50, R119, R122, R142, R200). -/
def partSizes : List Nat :=
  [Config.points, Config.nodes, Config.records, Config.records, Config.contexts, Config.lines, Config.groups, Config.gates,
    Config.counters]

theorem State.sized_iff (s : State) : s.sized = true ↔ s.sizes = partSizes := by
  simp [State.sized, State.sizes, partSizes, and_assoc]

theorem State.length_ctxs_of_sizes {s : State} (h : s.sizes = partSizes) : s.ctxs.length = Config.contexts := by
  simp only [State.sizes, partSizes, List.cons.injEq] at h
  exact h.2.2.2.2.1

theorem Works.sizes {s t : State} (h : Works s t) : t.sizes = s.sizes := by
  induction h with
  | refl => rfl
  | points _ ps hps ih => rw [← ih]; simp [State.sizes, hps.length_eq]
  | ctx _ c x us hx ih => rw [← ih]; simp [State.sizes, hx.length]
  | report | count | node | gate | lower | raise | release =>
    next ih =>
    rw [← ih]
    simp [State.sizes, State.setReservations, State.raisePlant, State.claimGroups, State.release]
  | _ => assumption

theorem Acts.sizes {s t : State} (h : Acts s t) (hs : s.sizes = partSizes) : t.sizes = partSizes := by
  induction h with
  | refl => exact hs
  | works _ k ih => exact k.sizes.trans ih
  | unsized _ us hc ih => exact absurd (State.length_ctxs_of_sizes ih) (Nat.ne_of_lt hc)
  | count _ n ih => rw [← ih]; simp [State.sizes]
  | tally _ rs n ks _ _ hlen _ ih => rw [← ih]; simp [State.sizes, hlen]
  | points _ ps hlen _ _ ih => rw [← ih]; simp [State.sizes, hlen]
  | nodes _ ns hlen _ ih => rw [← ih]; simp [State.sizes, hlen]
  | gates _ gs hlen _ ih => rw [← ih]; simp [State.sizes, hlen]
  | records _ rs hlen _ _ ih => rw [← ih]; simp [State.sizes, hlen]
  | supply _ e _ ih => rw [← ih]; simp [State.sizes, State.writeSupply]
  | members _ gs hh ih => rw [← ih]; have := congrArg List.length hh; simp at this; simp [State.sizes, this]
  | tables _ ih =>
    rw [← ih]
    simp [State.sizes, State.softResetTables, State.softResetArbiter, State.softResetRing]
  | _ => assumption

/-! ### Bounds -/

/-- The bounds of queues, counts, ages, levels and records, each by itself. -/
structure State.Bounds (s : State) : Prop where
  badRun : s.badRun ≤ 255
  reports : s.reports.length ≤ Config.reports
  lost : s.lost ≤ 65535
  ctxs : ∀ x ∈ s.ctxs, x.bounded = true
  counters : ∀ k ∈ s.counters, k.value ≤ 2147483647
  waits : (s.waits.map (·.ctx)).Nodup
  places : ∀ e ∈ s.waits, e.ctx < Config.contexts
  uses : ∀ n ∈ s.useCounts, n ≤ 60
  ages : ∀ x, some x ∈ s.nodes → x.age ≤ 3
  records : ∀ r ∈ s.records, r.inRange = true

theorem State.bounded_iff (s : State) : s.bounded = true ↔ s.Bounds := by
  have hages : (s.nodes.all fun n => n.all fun x => decide (x.age ≤ 3)) = true ↔ ∀ x, some x ∈ s.nodes → x.age ≤ 3 := by
    rw [List.all_eq_true]
    refine ⟨fun h x hx => by simpa using h _ hx, fun h n hn => ?_⟩
    cases n with
    | none => rfl
    | some x => simpa using h x hn
  simp only [State.bounded, State.waitsDistinct, Bool.and_eq_true, hages, List.all_eq_true, decide_eq_true_eq]
  constructor
  · rintro ⟨⟨⟨⟨⟨⟨⟨⟨h1, h2⟩, h3⟩, h4⟩, h5⟩, h6, h7⟩, h8⟩, h9⟩, h10⟩
    exact ⟨h1, h2, h3, h4, h5, h6, h7, h8, h9, h10⟩
  · rintro ⟨h1, h2, h3, h4, h5, h6, h7, h8, h9, h10⟩
    exact ⟨⟨⟨⟨⟨⟨⟨⟨h1, h2⟩, h3⟩, h4⟩, h5⟩, h6, h7⟩, h8⟩, h9⟩, h10⟩

theorem State.counters_count {s : State} {n : Nat} (h : ∀ k ∈ s.counters, k.value ≤ 2147483647) :
    ∀ k ∈ (s.count n).counters, k.value ≤ 2147483647 := by
  intro k hk
  rcases List.mem_or_eq_of_mem_set hk with hk | rfl
  · exact h k hk
  · refine Counter.count_value_le _ ?_
    by_cases hn : n < s.counters.length
    · rw [State.counter, List.getD_eq_getElem _ _ hn]; exact h _ (List.getElem_mem hn)
    · rw [State.counter, List.getD_eq_default _ _ (Nat.le_of_not_lt hn)]; exact Nat.zero_le _

theorem State.Bounds.count {s : State} (h : s.Bounds) (n : Nat) : (s.count n).Bounds :=
  { h with counters := State.counters_count h.counters }

theorem State.Bounds.report {s : State} (h : s.Bounds) (c st : Option Nat) (tag : Option (BitVec 32)) (b : ReportBody) :
    (s.report c st tag b).Bounds := by
  unfold State.report
  split
  · next hlen => exact { h with reports := by simpa using hlen }
  · exact { h with lost := Nat.min_le_right .. }

/-- An entry comes in beside those of other contexts (R134). -/
theorem perm_enter (ws : List WaitEntry) (e : WaitEntry) (p : WaitEntry → Bool) :
    (ws.takeWhile p ++ e :: ws.dropWhile p).Perm (e :: ws) := by
  refine List.perm_middle.trans ?_
  rw [List.takeWhile_append_dropWhile]

theorem State.Bounds.enter {s : State} (h : s.Bounds) (e : WaitEntry) (hc : e.ctx < Config.contexts) (p : WaitEntry → Bool) :
    ({ s with waits := (s.waits.filter fun y => y.ctx != e.ctx).takeWhile p ++ e :: (s.waits.filter fun y => y.ctx != e.ctx).dropWhile p }
      : State).Bounds := by
  have hperm := perm_enter (s.waits.filter fun y => y.ctx != e.ctx) e p
  refine { h with waits := ?_, places := fun y hy => ?_ }
  · rw [(hperm.map (·.ctx)).nodup_iff, List.map_cons, List.nodup_cons]
    refine ⟨fun hmem => ?_, h.waits.sublist (List.filter_sublist.map _)⟩
    obtain ⟨y, hy, hye⟩ := List.mem_map.mp hmem
    have hne : y.ctx ≠ e.ctx := by simpa using (List.mem_filter.mp hy).2
    exact hne hye
  · rcases List.mem_cons.mp (hperm.mem_iff.mp hy) with rfl | hy
    · exact hc
    · exact h.places y (List.mem_filter.mp hy).1

theorem Works.bounds {s t : State} (h : Works s t) (hsize : s.sizes = partSizes) (hs : s.Bounds) : t.Bounds := by
  induction h with
  | refl => exact hs
  | report _ c st tag b ih => exact ih.report ..
  | count _ n _ ih => exact ih.count n
  | node _ n x hx ih =>
    refine { ih with ages := fun y hy => ?_ }
    rcases List.mem_or_eq_of_mem_set hy with hy | hy
    · exact ih.ages y hy
    · cases hy; exact hx
  | remove _ c ih =>
    exact { ih with
      waits := ih.waits.sublist (List.filter_sublist.map _)
      places := fun e he => ih.places e (List.mem_filter.mp he).1 }
  | enter k e hc ih => exact ih.enter e (State.length_ctxs_of_sizes (k.sizes.trans hsize) ▸ hc) _
  | ctx _ c x us hx ih =>
    exact { ih with
      ctxs := State.forall_setCtx ih.ctxs (hx.bounded (List.all_eq_true.mpr ih.records))
      uses := hx.limit ih.uses }
  | agenda _ _ _ ih | points _ _ _ ih | gate _ _ _ _ _ _ _ ih | scanning _ _ _ ih | lower _ _ _ _ ih | raise _ _ _ _ _ ih
    | release _ _ ih => exact { ih with }

theorem Acts.bounds {s t : State} (h : Acts s t) (hsize : s.sizes = partSizes) (hs : s.Bounds) : t.Bounds := by
  induction h with
  | refl => exact hs
  | works h k ih => exact k.bounds (h.sizes hsize) ih
  | badRun _ n hn ih => exact { ih with badRun := hn }
  | count _ n ih => exact ih.count n
  | tally _ rs n ks hrs hn _ hks ih =>
    exact { ih with
      reports := Nat.le_trans hrs ih.reports
      lost := Nat.le_trans hn ih.lost
      counters := fun k hk => (hks k hk).elim (ih.counters k) fun e => e ▸ Nat.zero_le _ }
  | nodes _ ns _ hage ih => exact { ih with ages := fun x hx => (hage x hx).elim (ih.ages x) id }
  | records _ rs _ hrange _ ih => exact { ih with records := fun r hr => (hrange r hr).elim (ih.records r) id }
  | waits _ ws hplaces ih =>
    have hctx := congrArg (List.map fun p : Nat × Class × Priority => p.1) hplaces
    rw [List.map_map, List.map_map] at hctx
    refine { ih with waits := ?_, places := fun e he => ?_ }
    · rw [show ws.map (·.ctx) = _ from hctx]; exact ih.waits
    · have hmem : e.ctx ∈ ws.map (·.ctx) := List.mem_map_of_mem he
      rw [show ws.map (·.ctx) = _ from hctx] at hmem
      obtain ⟨y, hy, hye⟩ := List.mem_map.mp hmem
      exact hye ▸ ih.places y hy
  | tables _ ih =>
    exact { ih with
      reports := Nat.zero_le _
      lost := Nat.zero_le _
      ctxs := fun x hx => by obtain ⟨y, -, rfl⟩ := List.mem_map.mp hx; rfl
      counters := fun k hk => by obtain ⟨_, -, rfl⟩ := List.mem_map.mp hk; exact Nat.zero_le _
      waits := List.nodup_nil
      places := fun e he => by cases he
      uses := fun n hn => by obtain ⟨_, -, rfl⟩ := List.mem_map.mp hn; exact Nat.zero_le _
      ages := fun x hx => by
        obtain ⟨n, -, hn⟩ := List.mem_map.mp hx
        obtain ⟨y, -, rfl⟩ := Option.map_eq_some_iff.mp hn
        exact Nat.le_refl 3 }
  | unsized h us hc => exact absurd (State.length_ctxs_of_sizes (h.sizes hsize)) (Nat.ne_of_lt hc)
  | agenda _ _ ih | other _ _ _ _ _ _ _ _ ih | ring _ _ _ _ ih | points _ _ _ _ _ ih | gates _ _ _ _ ih | supply _ _ _ ih
    | members _ _ _ ih => exact { ih with }

/-! ### Reset and the passing of time -/

theorem State.sizes_resetWith (straps : Byte) : (State.resetWith straps).sizes = partSizes := by
  simp [State.sizes, State.resetWith, partSizes]

theorem State.bounds_resetWith (straps : Byte) : (State.resetWith straps).Bounds where
  badRun := Nat.zero_le _
  reports := Nat.zero_le _
  lost := Nat.zero_le _
  ctxs x hx := by rw [List.eq_of_mem_replicate hx]; decide
  counters k hk := by rw [List.eq_of_mem_replicate hk]; exact Nat.zero_le _
  waits := List.nodup_nil
  places e he := by cases he
  uses n hn := by rw [List.eq_of_mem_replicate hn]; exact Nat.zero_le _
  ages x hx := by cases List.eq_of_mem_replicate hx
  records r hr := by rw [List.eq_of_mem_replicate hr]; rfl

theorem State.sizes_advance (s : State) (dt : Nat) : (s.advance dt).sizes = s.sizes := by simp [State.sizes, State.advance]

theorem State.Bounds.advance {s : State} (h : s.Bounds) (dt : Nat) : (s.advance dt).Bounds := by
  refine { h with ctxs := fun x hx => ?_, waits := ?_, places := fun e he => ?_ }
  · obtain ⟨y, hy, rfl⟩ := List.mem_map.mp hx; exact h.ctxs y hy
  · rw [State.advance, List.map_map]; exact h.waits
  · obtain ⟨y, hy, rfl⟩ := List.mem_map.mp he; exact h.places y hy

theorem step_bounds {s t : State} (hs : s.sizes = partSizes ∧ s.Bounds) (h : step s = .next t) : t.sizes = partSizes ∧ t.Bounds :=
  step_keeps (P := fun u => u.sizes = partSizes ∧ u.Bounds)
    (fun _ => ⟨State.sizes_resetWith s.straps, { State.bounds_resetWith s.straps with }⟩)
    (fun ps dt => ⟨(State.sizes_advance _ dt).trans hs.1, State.Bounds.advance (s := { s with pending := ps }) { hs.2 with } dt⟩)
    (fun _ k hu => ⟨k.sizes hu.1, k.bounds hu.1 hu.2⟩) hs h

/-- A bounded state has no more than one waiting step for each of the six contexts. -/
theorem State.Bounds.length_waits_le {s : State} (h : s.Bounds) : s.waits.length ≤ 6 := by
  have hsub : (s.waits.map (·.ctx)).Subperm (List.range 6) := h.waits.subperm fun c hc => by
    obtain ⟨e, he, rfl⟩ := List.mem_map.mp hc
    exact List.mem_range.mpr (h.places e he)
  simpa using hsub.length_le

theorem State.Bounds.ctx {s : State} (h : s.Bounds) (c : Nat) : (s.ctx c).bounded = true := by
  by_cases hc : c < s.ctxs.length
  · rw [State.ctx, List.getD_eq_getElem _ _ hc]; exact h.ctxs _ (List.getElem_mem hc)
  · rw [State.ctx_of_le (Nat.le_of_not_lt hc)]; decide

/-- Settles O4: each update by itself keeps sizes and bounds (`Works.bounds`, `Acts.bounds`). -/
theorem everyStepKeepsTheBounds : Obligations.EveryStepKeepsTheBounds := by
  refine ⟨fun s t hsize hs h => ?_, fun s hs => ?_⟩
  · rw [State.sized_iff] at hsize ⊢
    rw [State.bounded_iff] at hs ⊢
    exact step_bounds ⟨hsize, hs⟩ h
  · have hb := (State.bounded_iff s).mp hs
    refine ⟨hb.length_waits_le, hb.waits, fun i => ?_, fun n x hx => ?_, fun c => ?_⟩
    · by_cases hi : i < s.useCounts.length
      · rw [State.useCount, List.getD_eq_getElem _ _ hi]; exact hb.uses _ (List.getElem_mem hi)
      · rw [State.useCount, List.getD_eq_default _ _ (Nat.le_of_not_lt hi)]; exact Nat.zero_le _
    · refine hb.ages x ?_
      rw [State.node, List.getD_eq_getElem?_getD] at hx
      cases hn : s.nodes[n]? with
      | none => rw [hn] at hx; cases hx
      | some y => rw [hn] at hx; cases hx; exact List.mem_of_getElem? hn
    · have hloops := ((Ctx.bounded_iff _).mp (hb.ctx c)).2
      simp only [Ctx.loopsOk, loopsLaw, Bool.and_eq_true, decide_eq_true_eq, List.all_eq_true] at hloops
      obtain ⟨⟨hlen, hall⟩, -⟩ := hloops
      exact ⟨hlen, hall⟩

end Sys2Proof.Machine
end

section
/-!
The budget law (R119) and the plant law (R94, R95, R122, R133): what a context may hold of the supply lines and of the roughing groups.
-/
namespace Sys2Proof.Machine

/-! ### Sums of reservations -/

theorem sum_set_add {l : List Nat} {i : Nat} (a : Nat) (hi : i < l.length) : (l.set i a).sum + l.getD i 0 = l.sum + a := by
  induction l generalizing i with
  | nil => simp at hi
  | cons x l ih =>
    cases i with
    | zero => simp; omega
    | succ i =>
      have := ih (i := i) (by simpa using hi)
      simp at this ⊢
      omega

theorem Supply.reserved_set (x : Supply) (c d a : Nat) :
    ({ x with reservations := x.reservations.set c a }).reserved d = if c = d ∧ c < x.reservations.length then a else x.reserved d := by
  simp only [Supply.reserved, List.getD_eq_getElem?_getD, List.getElem?_set]
  by_cases hcd : c = d
  · subst hcd
    by_cases hc : c < x.reservations.length
    · simp [hc]
    · simp [hc]
  · simp [hcd]

theorem mem_mapFrom {α β : Type} {f : Nat → α → β} {l : List α} {y : β} :
    y ∈ mapFrom f 0 l ↔ ∃ i a, l[i]? = some a ∧ y = f i a := by
  rw [List.mem_iff_getElem?]
  constructor
  · rintro ⟨i, hi⟩
    rw [getElem?_mapFrom, Nat.zero_add] at hi
    obtain ⟨a, ha, rfl⟩ := Option.map_eq_some_iff.mp hi
    exact ⟨i, a, ha, rfl⟩
  · rintro ⟨i, a, ha, rfl⟩
    exact ⟨i, by simp [getElem?_mapFrom, ha]⟩

/-! ### The laws -/

/-- The reservations of a line keep the budget law: their number is that of the contexts, and they sum to no more than a capacity that is
enabled, and to nothing on a line whose budget is not (R119). -/
structure Supply.Lawful (x : Supply) : Prop where
  width : x.reservations.length = Config.contexts
  within : x.budget = true → x.reservations.sum ≤ x.capacity
  idle : x.budget = false → ∀ r ∈ x.reservations, r = 0

/-- What the contexts hold of the plant is what they may hold. -/
structure State.Plant (s : State) : Prop where
  lines : ∀ x ∈ s.lines, x.Lawful
  stands : ∀ c st, (s.ctx c).step = some st → (s.ctx c).active = true
  demand : ∀ c st l, (s.ctx c).step = some st → l < Config.lines → st.demandOn l ≠ 0 → s.feeds c l = true
  reserved : ∀ c l, (s.line l).reserved c ≠ 0 → (s.ctx c).active = true ∧ s.feeds c l = true
  holders : ∀ g ∈ s.groups, ∀ c, g.holder = some c → (s.ctx c).active = true

theorem Supply.lawful_iff (x : Supply) : (x.reservations.length == Config.contexts
    && if x.budget then decide (x.reservations.sum ≤ x.capacity) else x.reservations.all (· == 0)) = true ↔ x.Lawful := by
  rw [Bool.and_eq_true, beq_iff_eq]
  cases hb : x.budget with
  | true =>
    simp only [if_true, decide_eq_true_eq]
    exact ⟨fun ⟨h1, h2⟩ => ⟨h1, fun _ => h2, fun e => by rw [hb] at e; cases e⟩, fun h => ⟨h.width, h.within hb⟩⟩
  | false =>
    simp only [Bool.false_eq_true, if_false, List.all_eq_true, beq_iff_eq]
    exact ⟨fun ⟨h1, h2⟩ => ⟨h1, (fun e => by rw [hb] at e; cases e), fun _ => h2⟩, fun h => ⟨h.width, h.idle hb⟩⟩

/-- The two laws of the obligation, in a state of the part's sizes. -/
theorem State.plant_iff {s : State} (hsize : s.sizes = partSizes) : (s.budgetLaw = true ∧ s.plantLaw = true) ↔ s.Plant := by
  have hlen : s.lines.length = Config.lines := by
    simp only [State.sizes, partSizes, List.cons.injEq] at hsize
    exact hsize.2.2.2.2.2.1
  have hctxs := State.length_ctxs_of_sizes hsize
  have hlines : s.budgetLaw = true ↔ ∀ x ∈ s.lines, x.Lawful := by
    rw [State.budgetLaw, Bool.and_eq_true, beq_iff_eq, List.all_eq_true]
    exact ⟨fun h x hx => (Supply.lawful_iff x).mp (h.2 x hx), fun h => ⟨hlen, fun x hx => (Supply.lawful_iff x).mpr (h x hx)⟩⟩
  have hctx : ∀ c, s.ctxPlantLaw c = true ↔ (∀ st, (s.ctx c).step = some st → (s.ctx c).active = true)
      ∧ ∀ l, l < Config.lines → (∀ st, (s.ctx c).step = some st → st.demandOn l ≠ 0 → s.feeds c l = true)
        ∧ ((s.line l).reserved c ≠ 0 → (s.ctx c).active = true ∧ s.feeds c l = true) := fun c => by
    simp only [State.ctxPlantLaw, Bool.and_eq_true, Bool.or_eq_true, List.all_eq_true, List.mem_range, beq_iff_eq, or_iff_not_imp_left,
      Option.isNone_iff_eq_none]
    refine and_congr ?_ (forall₂_congr fun l _ => and_congr ?_ Iff.rfl)
    · cases (s.ctx c).step <;> simp
    · cases (s.ctx c).step <;> simp [or_iff_not_imp_left]
  rw [hlines, State.plantLaw, Bool.and_eq_true, List.all_eq_true, List.all_eq_true]
  constructor
  · rintro ⟨hl, hplant, hgroups⟩
    have hplant' : ∀ c, c < Config.contexts → _ := fun c hc => (hctx c).mp (hplant c (List.mem_range.mpr hc))
    refine ⟨hl, fun c st hst => ?_, fun c st l hst hll hd => ?_, fun c l hr => ?_, fun g hg c hc => ?_⟩
    · exact (hplant' c (hctxs ▸ State.lt_of_step hst)).1 st hst
    · exact ((hplant' c (hctxs ▸ State.lt_of_step hst)).2 l hll).1 st hst hd
    · have hll : l < Config.lines := by
        by_contra hll
        rw [State.line, List.getD_eq_default _ _ (by omega)] at hr
        simp only [Supply.reserved, Supply.reset, List.getD_eq_getElem?_getD, List.getElem?_replicate] at hr
        split at hr <;> simp at hr
      have hc : c < Config.contexts := by
        by_contra hc
        have hlt : l < s.lines.length := hlen ▸ hll
        have hx := hl _ (List.getElem_mem hlt)
        rw [State.line, List.getD_eq_getElem _ _ hlt, Supply.reserved, List.getD_eq_default _ _ (by rw [hx.width]; omega)] at hr
        exact hr rfl
      exact ((hplant' c hc).2 l hll).2 hr
    · have := hgroups g hg
      rw [hc] at this
      exact this
  · intro h
    refine ⟨h.lines, fun c _ => (hctx c).mpr ⟨h.stands c, fun l hl => ⟨fun st hst => h.demand c st l hst hl, h.reserved c l⟩⟩,
      fun g hg => ?_⟩
    cases hc : g.holder with
    | none => rfl
    | some c => exact h.holders g hg c hc

/-! ### What the laws read of the state -/

/-- The laws read no more of a context than its step and whether it is in RUNNING or DIVERTED. -/
theorem State.Plant.congr {s t : State} (h : s.Plant) (hlines : t.lines = s.lines) (hgroups : t.groups = s.groups)
    (hpoints : t.points = s.points) (hactive : ∀ c, (t.ctx c).active = (s.ctx c).active)
    (hstep : ∀ c st, (t.ctx c).step = some st → ∃ st', (s.ctx c).step = some st' ∧ st.demand = st'.demand) : t.Plant := by
  have hfeeds : ∀ c l, t.feeds c l = s.feeds c l := fun c l => by rw [State.feeds, hpoints]; rfl
  refine ⟨hlines ▸ h.lines, fun c st hst => ?_, fun c st l hst hl hd => ?_, fun c l hr => ?_, fun g hg c hc => ?_⟩
  · obtain ⟨st', hst', -⟩ := hstep c st hst
    rw [hactive]; exact h.stands c st' hst'
  · obtain ⟨st', hst', hdem⟩ := hstep c st hst
    rw [StepState.demandOn, hdem] at hd
    rw [hfeeds]; exact h.demand c st' l hst' hl hd
  · rw [hactive, hfeeds]
    exact h.reserved c l (by rw [State.line, hlines] at hr; exact hr)
  · rw [hactive]; exact h.holders g (hgroups ▸ hg) c hc

/-- Points that move keep their configuration. -/
theorem State.feeds_of_moves {s : State} {ps : List Point} (hps : List.Forall₂ Point.Moves s.points ps) {c l : Nat}
    (h : s.feeds c l = true) : { s with points := ps }.feeds c l = true := by
  obtain ⟨p, cfg, r, hp, hrest⟩ := State.feeds_iff.mp h
  obtain ⟨q, hq, hmoves⟩ := forall₂_getElem?_left hps hp
  rw [State.feeds_iff]
  cases hmoves with
  | set _ _ r' => exact ⟨p, cfg, r', hq, hrest⟩

theorem State.Plant.points {s : State} (h : s.Plant) {ps : List Point}
    (hfeeds : ∀ c l, (s.ctx c).active = true → s.feeds c l = true → { s with points := ps }.feeds c l = true) :
    { s with points := ps }.Plant where
  lines := h.lines
  stands := h.stands
  demand c st l hst hl hd := hfeeds c l (h.stands c st hst) (h.demand c st l hst hl hd)
  reserved c l hr := ⟨(h.reserved c l hr).1, hfeeds c l (h.reserved c l hr).1 (h.reserved c l hr).2⟩
  holders := h.holders

/-! ### Reservations and groups -/

theorem State.getElem?_line {s : State} {l : Nat} {x : Supply} (h : s.lines[l]? = some x) : s.line l = x := by
  simp [State.line, List.getD_eq_getElem?_getD, h]

/-- Lines whose reservations are written one by one, with groups, keep the laws where each keeps them. -/
theorem State.Plant.lines_groups {s t : State} (h : s.Plant) (hctxs : t.ctxs = s.ctxs) (hpoints : t.points = s.points)
    (hlines : ∀ x ∈ t.lines, x.Lawful)
    (hreserved : ∀ c l, (t.line l).reserved c ≠ 0 → (s.ctx c).active = true ∧ s.feeds c l = true)
    (hholders : ∀ g ∈ t.groups, ∀ c, g.holder = some c → (s.ctx c).active = true) : t.Plant := by
  have hctx : ∀ c, t.ctx c = s.ctx c := fun c => by rw [State.ctx, hctxs]; rfl
  have hfeeds : ∀ c l, t.feeds c l = s.feeds c l := fun c l => by rw [State.feeds, hpoints]; rfl
  refine ⟨hlines, fun c st hst => ?_, fun c st l hst hl hd => ?_, fun c l hr => ?_, fun g hg c hc => ?_⟩
  · rw [hctx] at hst ⊢; exact h.stands c st hst
  · rw [hctx] at hst; rw [hfeeds]; exact h.demand c st l hst hl hd
  · rw [hctx, hfeeds]; exact hreserved c l hr
  · rw [hctx]; exact hholders g hg c hc

/-- What a write of reservations leaves of a line. -/
theorem State.line_setReservations (s : State) (c : Nat) (f : Nat → Nat → Nat) (l : Nat) :
    (s.setReservations c f).line l =
      if (s.line l).budget then { s.line l with reservations := (s.line l).reservations.set c (f l ((s.line l).reserved c)) }
      else s.line l := by
  simp only [State.line, State.setReservations, List.getD_eq_getElem?_getD, getElem?_mapFrom, Nat.zero_add]
  cases s.lines[l]? with
  | none => rfl
  | some x => rfl

theorem Supply.Lawful.set_le {x : Supply} (h : x.Lawful) {c a : Nat} (ha : a ≤ x.reserved c) :
    ({ x with reservations := x.reservations.set c a }).Lawful where
  width := by simpa using h.width
  within hb := by
    by_cases hc : c < x.reservations.length
    · have := sum_set_add a hc
      have := h.within hb
      simp only [Supply.reserved] at ha
      dsimp only
      omega
    · dsimp only; rw [List.set_eq_of_length_le (Nat.le_of_not_lt hc)]; exact h.within hb
  idle hb r hr := by
    rcases List.mem_or_eq_of_mem_set hr with hr | rfl
    · exact h.idle hb r hr
    · by_cases hc : c < x.reservations.length
      · have hzero := h.idle hb _ (List.getElem_mem hc)
        rw [Supply.reserved, List.getD_eq_getElem _ _ hc, hzero] at ha
        omega
      · rw [Supply.reserved, List.getD_eq_default _ _ (Nat.le_of_not_lt hc)] at ha
        omega

theorem State.Plant.lower {s : State} (h : s.Plant) (c : Nat) {f : Nat → Nat → Nat} (hf : ∀ l r, f l r ≤ r) :
    (s.setReservations c f).Plant := by
  refine h.lines_groups rfl rfl (fun x hx => ?_) (fun d l hr => ?_) h.holders
  · obtain ⟨l, y, hy, rfl⟩ := mem_mapFrom.mp hx
    have hlawful := h.lines y (List.mem_of_getElem? hy)
    split
    · exact hlawful.set_le (hf ..)
    · exact hlawful
  · refine h.reserved d l ?_
    rw [State.line_setReservations] at hr
    split at hr
    · rw [Supply.reserved_set] at hr
      split at hr
      · next hcd => have := hf l ((s.line l).reserved c); rw [← hcd.1]; omega
      · exact hr
    · exact hr

theorem State.Plant.release {s : State} (h : s.Plant) (c : Nat) : (s.release c).Plant := by
  refine h.lines_groups rfl rfl (fun x hx => ?_) (fun d l hr => ?_) fun g hg d hd => ?_
  · obtain ⟨y, hy, rfl⟩ := List.mem_map.mp hx
    exact (h.lines y hy).set_le (Nat.zero_le _)
  · refine h.reserved d l ?_
    have hline : (s.release c).line l = { s.line l with reservations := (s.line l).reservations.set c 0 } ∨ (s.release c).line l = s.line l := by
      simp only [State.line, State.release, List.getD_eq_getElem?_getD, List.getElem?_map]
      cases s.lines[l]? with
      | none => exact .inr rfl
      | some x => exact .inl rfl
    rcases hline with e | e
    · rw [e, Supply.reserved_set] at hr
      split at hr
      · exact absurd rfl hr
      · exact hr
    · rw [e] at hr; exact hr
  · obtain ⟨g', hg', rfl⟩ := List.mem_map.mp hg
    split at hd
    · cases hd
    · exact h.holders g' hg' d hd

/-- A step whose supply need is met leaves its line within its capacity (R125, R130). -/
theorem Supply.Lawful.raise {s : State} {c l : Nat} {st : StepState} (h : (s.line l).Lawful) (hl : l < Config.lines)
    (hb : (s.line l).budget = true) (hn : s.needsMet c st = true) :
    ({ s.line l with reservations := (s.line l).reservations.set c (max ((s.line l).reserved c) (st.demandOn l)) }).Lawful := by
  have hmet : s.lineUnmet c st l = false := by
    simp only [State.needsMet, Bool.and_eq_true, List.all_eq_true, List.mem_range, Bool.not_eq_true'] at hn
    exact hn.1.1.1 l hl
  by_cases hle : st.demandOn l ≤ (s.line l).reserved c
  · exact h.set_le (by omega)
  · refine ⟨by simpa using h.width, fun _ => ?_, fun e => by rw [show (s.line l).budget = false from e] at hb; cases hb⟩
    by_cases hc : c < (s.line l).reservations.length
    · have hsum := sum_set_add (max ((s.line l).reserved c) (st.demandOn l)) hc
      have hcap : ¬ (s.line l).capacity < (s.line l).reservations.sum - (s.line l).reserved c + st.demandOn l := by
        simpa [State.lineUnmet, State.contestsLine, hb, Nat.lt_of_not_le hle] using hmet
      simp only [Supply.reserved] at hsum hcap hle ⊢
      omega
    · dsimp only; rw [List.set_eq_of_length_le (Nat.le_of_not_lt hc)]; exact h.within hb

theorem State.Plant.raise {s : State} (h : s.Plant) (hlen : s.lines.length = Config.lines) {c : Nat} {st : StepState}
    (hs : (s.ctx c).step = some st) (hn : s.needsMet c st = true) : (s.raisePlant c st).Plant := by
  refine h.lines_groups rfl rfl (fun x hx => ?_) (fun d l hr => ?_) fun g hg d hd => ?_
  · obtain ⟨l, y, hy, rfl⟩ := mem_mapFrom.mp hx
    have hl : l < Config.lines := hlen ▸ (List.getElem?_eq_some_iff.mp hy).1
    have hlawful := h.lines y (List.mem_of_getElem? hy)
    obtain rfl := State.getElem?_line hy
    split
    · next hb => exact hlawful.raise hl hb hn
    · exact hlawful
  · have hline : (s.raisePlant c st).line l = (s.setReservations c fun l r => max r (st.demandOn l)).line l := rfl
    rw [hline, State.line_setReservations] at hr
    by_cases hzero : (s.line l).reserved d = 0
    · split at hr
      · rw [Supply.reserved_set] at hr
        split at hr
        · next hcd =>
          have hl : l < Config.lines := by
            by_contra hl
            have : s.line l = Supply.reset := by rw [State.line, List.getD_eq_default _ _ (by omega)]
            simp [this, Supply.reset] at *
          rw [hcd.1] at hs hr
          exact ⟨h.stands d st hs, h.demand d st l hs hl (by omega)⟩
        · exact absurd hzero hr
      · exact absurd hzero hr
    · exact h.reserved d l hzero
  · obtain ⟨k, g', hg', rfl⟩ := mem_mapFrom.mp hg
    have hold := h.holders g' (List.mem_of_getElem? hg') d
    split at hd
    · cases hd; exact h.stands c st hs
    · split at hd
      · cases hd
      · exact hold hd

end Sys2Proof.Machine
end

section
/-!
The budget law and the plant law are kept by every update, and so by every step (R119, R120).
-/
namespace Sys2Proof.Machine

/-- A reservation reads as not 0 only where it is one of the line's. -/
theorem Supply.reserved_eq_zero {x : Supply} (h : ∀ c, x.reserved c = 0) : ∀ r ∈ x.reservations, r = 0 := by
  intro r hr
  obtain ⟨c, hc⟩ := List.mem_iff_getElem?.mp hr
  have := h c
  simpa [Supply.reserved, List.getD_eq_getElem?_getD, hc] using this

theorem State.ctx_setCtx_of_length_le {s : State} {c : Nat} (x : Ctx) (h : s.ctxs.length ≤ c) (d : Nat) : (s.setCtx c x).ctx d = s.ctx d := by
  rw [State.ctx, State.setCtx_ctxs, List.set_eq_of_length_le h]; rfl

/-- A context moves, and keeps what it holds of the plant or holds none. -/
theorem State.Plant.ctx {s : State} (h : s.Plant) {c : Nat} {x : Ctx} {us vs : List Nat} (hx : CtxMoves s c x us) :
    ({ s.setCtx c x with useCounts := vs } : State).Plant := by
  have hread : ∀ d, ({ s.setCtx c x with useCounts := vs } : State).ctx d = (s.setCtx c x).ctx d := fun _ => rfl
  by_cases hc : c < s.ctxs.length
  swap
  · have hd := State.ctx_setCtx_of_length_le x (Nat.le_of_not_lt hc)
    refine h.congr rfl rfl rfl (fun d => by rw [hread, hd]) fun d st hst => ⟨st, ?_, rfl⟩
    rwa [hread, hd] at hst
  have hself : ({ s.setCtx c x with useCounts := vs } : State).ctx c = x := State.ctx_setCtx_self _ _ _ hc
  have hother : ∀ d, c ≠ d → ({ s.setCtx c x with useCounts := vs } : State).ctx d = s.ctx d := fun d hd => State.ctx_setCtx_of_ne _ _ hd
  have hactive : ∀ d, (s.ctx d).active = true → s.holdsPlant d = true →
      (({ s.setCtx c x with useCounts := vs } : State).ctx d).active = true := by
    intro d hd hp
    by_cases hcd : c = d
    · subst hcd
      rw [hself]
      rcases hx.plant hd with ha | hn
      · exact ha
      · rw [hn] at hp; cases hp
    · rw [hother d hcd]; exact hd
  refine ⟨h.lines, fun d st hst => ?_, fun d st l hst hl hd => ?_, fun d l hr => ?_, fun g hg d hd => ?_⟩
  · by_cases hcd : c = d
    · subst hcd
      rw [hself] at hst ⊢
      refine hx.stands (fun hs => ?_) (by rw [hst]; rfl)
      obtain ⟨st', hst'⟩ := Option.isSome_iff_exists.mp hs
      exact h.stands c st' hst'
    · rw [hother d hcd] at hst ⊢; exact h.stands d st hst
  · by_cases hcd : c = d
    · subst hcd
      rw [hself] at hst
      rcases hx.demand st hst with ⟨st', hst', hdem⟩ | hfeeds
      · rw [StepState.demandOn, hdem] at hd
        exact h.demand c st' l hst' hl hd
      · exact hfeeds l hd
    · rw [hother d hcd] at hst; exact h.demand d st l hst hl hd
  · have hold := h.reserved d l hr
    refine ⟨hactive d hold.1 ?_, hold.2⟩
    have hl : l < s.lines.length := by
      by_contra hl
      have hnone : s.line l = Supply.reset := by rw [State.line, List.getD_eq_default _ _ (Nat.le_of_not_lt hl)]
      refine hr ?_
      change (s.line l).reserved d = 0
      rw [hnone]
      simp only [Supply.reserved, Supply.reset, List.getD_eq_getElem?_getD, List.getElem?_replicate]
      split <;> rfl
    refine Bool.or_eq_true_iff.mpr (.inl (List.any_eq_true.mpr ⟨s.line l, ?_, decide_eq_true (Nat.pos_of_ne_zero hr)⟩))
    rw [State.line, List.getD_eq_getElem _ _ hl]; exact List.getElem_mem hl
  · exact hactive d (h.holders g hg d hd)
      (Bool.or_eq_true_iff.mpr (.inr (List.any_eq_true.mpr ⟨g, hg, by rw [hd]; exact beq_self_eq_true _⟩)))

theorem State.length_lines_of_sizes {s : State} (h : s.sizes = partSizes) : s.lines.length = Config.lines := by
  simp only [State.sizes, partSizes, List.cons.injEq] at h
  exact h.2.2.2.2.2.1

theorem Works.plant {s t : State} (h : Works s t) (hsize : s.sizes = partSizes) (hs : s.Plant) : t.Plant := by
  induction h with
  | refl => exact hs
  | report _ c st tag b ih =>
    refine ih.congr (State.report_lines ..) (State.report_groups ..) (State.report_points ..) (fun d => by rw [State.ctx_report])
      fun d st hst => ⟨st, by rwa [State.ctx_report] at hst, rfl⟩
  | points _ ps hps ih => exact ih.points fun c l _ => State.feeds_of_moves hps
  | lower _ c f hf ih => exact ih.lower c hf
  | raise k c st hst hn ih => exact ih.raise (State.length_lines_of_sizes (k.sizes.trans hsize)) hst hn
  | release _ c ih => exact ih.release c
  | ctx _ c x us hx ih => exact ih.ctx hx
  | agenda | count | node | gate | remove | enter | scanning =>
    next ih => exact ih.congr rfl rfl rfl (fun _ => rfl) fun _ st hst => ⟨st, hst, rfl⟩

/-- On a line that no active context feeds every reservation is 0. -/
theorem State.Plant.reserved_eq_zero {s : State} (h : s.Plant) {l : Nat} (hfree : s.lineInUse l = false) (c : Nat) :
    (s.line l).reserved c = 0 := by
  by_contra hr
  obtain ⟨hactive, hfeeds⟩ := h.reserved c l hr
  obtain ⟨p, cfg, r, hp, hq, hl, ho⟩ := State.feeds_iff.mp hfeeds
  have huse : s.lineInUse l = true :=
    List.any_eq_true.mpr ⟨_, List.mem_of_getElem? hp, by simp [hq, hl, ho, hactive]⟩
  rw [hfree] at huse
  cases huse

/-- A line that is written with its reservations at 0 keeps the laws (R120). -/
theorem State.Plant.writeSupply {s : State} (h : s.Plant) {e : SupplyWrite} (hfree : s.lineInUse e.line = false) :
    (s.writeSupply e).Plant := by
  have hzero := Supply.reserved_eq_zero (h.reserved_eq_zero hfree)
  have hwidth : e.line < s.lines.length → (s.line e.line).reservations.length = Config.contexts := fun hl => by
    rw [State.line, List.getD_eq_getElem _ _ hl]; exact (h.lines _ (List.getElem_mem hl)).width
  refine h.lines_groups rfl rfl (fun x hx => ?_) (fun c l hr => h.reserved c l fun hz => hr ?_) h.holders
  · by_cases hl : e.line < s.lines.length
    · rcases List.mem_or_eq_of_mem_set hx with hx | rfl
      · exact h.lines x hx
      · exact ⟨hwidth hl, fun _ => by dsimp only; rw [List.sum_eq_zero hzero]; exact Nat.zero_le _, fun _ => hzero⟩
    · rw [State.writeSupply, List.set_eq_of_length_le (Nat.le_of_not_lt hl)] at hx
      exact h.lines x hx
  · rw [← hz]
    simp only [State.writeSupply, State.line, List.getD_eq_getElem?_getD, List.getElem?_set]
    split
    · next heq => subst heq; split <;> simp_all [Supply.reserved]
    · rfl

theorem Acts.plant {s t : State} (h : Acts s t) (hsize : s.sizes = partSizes) (hs : s.Plant) : t.Plant := by
  induction h with
  | refl => exact hs
  | works h k ih => exact k.plant (h.sizes hsize) ih
  | points _ ps _ _ hfeeds ih => exact ih.points hfeeds
  | supply _ e hfree ih => exact ih.writeSupply hfree
  | members _ gs hholders ih =>
    refine ih.lines_groups rfl rfl ih.lines ih.reserved fun g hg c hc => ?_
    have hmem : some c ∈ gs.map (·.holder) := List.mem_map.mpr ⟨g, hg, hc⟩
    rw [hholders] at hmem
    obtain ⟨g', hg', hc'⟩ := List.mem_map.mp hmem
    exact ih.holders g' hg' c hc'
  | @tables t _ ih =>
    have hstep : ∀ c, (t.softResetTables.ctx c).step = none := fun c => by
      rw [State.ctx, show t.softResetTables.ctxs = t.ctxs.map Ctx.softReset from rfl, List.getD_eq_getElem?_getD, List.getElem?_map]
      cases t.ctxs[c]? <;> rfl
    refine ⟨fun x hx => ?_, fun c st hst => ?_, fun c st l hst => ?_, fun c l hr => absurd ?_ hr, fun g hg c hc => ?_⟩
    · obtain ⟨y, -, rfl⟩ := List.mem_map.mp hx
      exact ⟨rfl, fun _ => Nat.zero_le _, fun _ r hr => List.eq_of_mem_replicate hr⟩
    · rw [hstep c] at hst; cases hst
    · rw [hstep c] at hst; cases hst
    · rw [State.line, show t.softResetTables.lines = t.lines.map (fun x => { x with reservations := List.replicate Config.contexts 0 }) from rfl,
        List.getD_eq_getElem?_getD, List.getElem?_map]
      cases t.lines[l]? <;>
        simp only [Option.map_some, Option.map_none, Option.getD_some, Option.getD_none, Supply.reserved, Supply.reset,
          List.getD_eq_getElem?_getD, List.getElem?_replicate] <;> split <;> rfl
    · obtain ⟨g', -, rfl⟩ := List.mem_map.mp hg
      cases hc
  | _ => next ih => exact ih.congr rfl rfl rfl (fun _ => rfl) fun _ st hst => ⟨st, hst, rfl⟩

/-! ### Time -/

theorem State.ctx_advance (s : State) (dt c : Nat) : (s.advance dt).ctx c = (s.ctx c).advance dt := by
  simp only [State.ctx, State.advance, List.getD_eq_getElem?_getD, List.getElem?_map]
  cases s.ctxs[c]? <;> rfl

theorem StepState.demand_advance (st : StepState) (dt : Nat) : (st.advance dt).demand = st.demand := by
  unfold StepState.advance
  split <;> rfl

theorem State.Plant.advance {s : State} (h : s.Plant) (dt : Nat) : (s.advance dt).Plant := by
  refine h.congr rfl rfl rfl (fun c => by rw [State.ctx_advance]; rfl) fun c st hst => ?_
  rw [State.ctx_advance] at hst
  obtain ⟨st', hst', rfl⟩ := Option.map_eq_some_iff.mp hst
  exact ⟨st', hst', StepState.demand_advance st' dt⟩

theorem State.plant_resetWith (straps : Byte) : (State.resetWith straps).Plant := by
  have hctx : ∀ c, (State.resetWith straps).ctx c = Ctx.reset := fun c => by
    simp only [State.ctx, State.resetWith, List.getD_eq_getElem?_getD, List.getElem?_replicate]
    split <;> rfl
  refine ⟨fun x hx => ?_, fun c st hst => ?_, fun c st l hst => ?_, fun c l hr => absurd ?_ hr, fun g hg c hc => ?_⟩
  · rw [List.eq_of_mem_replicate hx]
    exact ⟨rfl, fun _ => Nat.zero_le _, fun _ r hr => List.eq_of_mem_replicate hr⟩
  · rw [hctx] at hst; cases hst
  · rw [hctx] at hst; cases hst
  · have hline : (State.resetWith straps).line l = Supply.reset := by
      simp only [State.line, State.resetWith, List.getD_eq_getElem?_getD, List.getElem?_replicate]
      split <;> rfl
    rw [hline]
    simp only [Supply.reserved, Supply.reset, List.getD_eq_getElem?_getD, List.getElem?_replicate]
    split <;> rfl
  · rw [List.eq_of_mem_replicate hg] at hc; cases hc

theorem step_plant {s t : State} (hs : s.sizes = partSizes ∧ s.Plant) (h : step s = .next t) : t.sizes = partSizes ∧ t.Plant :=
  step_keeps (P := fun u => u.sizes = partSizes ∧ u.Plant)
    (fun _ => ⟨State.sizes_resetWith s.straps, { State.plant_resetWith s.straps with }⟩)
    (fun ps dt => ⟨(State.sizes_advance _ dt).trans hs.1, State.Plant.advance (s := { s with pending := ps }) { hs.2 with } dt⟩)
    (fun _ k hu => ⟨k.sizes hu.1, k.plant hu.1 hu.2⟩) hs h

/-- Settles O6: every update keeps the two laws (`Works.plant`, `Acts.plant`), and the laws give WRITE_SUPPLY lines without reservation. -/
theorem budgetIsNeverExceeded : Obligations.BudgetIsNeverExceeded := by
  refine ⟨fun s t hsize hb hp h => ?_, fun s e hsize hb hp hcheck => ?_⟩ <;> rw [State.sized_iff] at hsize
  · obtain ⟨hsize', hplant⟩ := step_plant ⟨hsize, (State.plant_iff hsize).mp ⟨hb, hp⟩⟩ h
    exact (State.plant_iff hsize').mpr hplant
  · exact Supply.reserved_eq_zero
      (((State.plant_iff hsize).mp ⟨hb, hp⟩).reserved_eq_zero (State.lineInUse_of_checkSupply hcheck))

end Sys2Proof.Machine
end

section
/-!
The job law (R69 to R71, R81, R83): every step keeps the use counts at the numbers of held paths, and the jobs' tags apart. A held record
never changes (R58).
-/
namespace Sys2Proof.Machine

/-! ### One entry of a table -/

theorem flatMap_set_perm {α β : Type} {l : List α} {c : Nat} {x : α} (f : α → List β) (hc : c < l.length) :
    ((l.set c x).flatMap f).Perm (f x ++ (l.eraseIdx c).flatMap f) := by
  rw [List.set_eq_take_append_cons_drop, if_pos hc, List.eraseIdx_eq_take_drop_succ, List.flatMap_append, List.flatMap_cons,
    List.flatMap_append, ← List.append_assoc, ← List.append_assoc]
  exact List.perm_append_comm.append_right _

theorem flatMap_eraseIdx_perm {α β : Type} {l : List α} {c : Nat} (f : α → List β) (hc : c < l.length) :
    (l.flatMap f).Perm (f l[c] ++ (l.eraseIdx c).flatMap f) := by
  have := flatMap_set_perm (x := l[c]) f hc
  rwa [List.set_getElem_self] at this

theorem nodup_of_subperm {α : Type} {l l' : List α} (h : l.Subperm l') (hn : l'.Nodup) : l.Nodup := by
  obtain ⟨k, hk, hsub⟩ := h
  exact hk.nodup_iff.mp (hn.sublist hsub)

/-! ### The law -/

/-- The job law by parts: the tables' sizes, and R69 to R71, R81 and R83. -/
structure State.JobsLaw (s : State) : Prop where
  sizes : s.sizes = partSizes
  apart : (s.ctxs.flatMap Ctx.tags).Nodup
  runs : ∀ x ∈ s.ctxs, x.jobRuns
  offline : ∀ x ∈ s.ctxs, x.state = .offline → x.heldPaths = []
  counted : ∀ i, i < Config.records → s.useCount i = (s.ctxs.flatMap Ctx.heldPaths).countP fun path => path.contains i

theorem State.jobsLaw_iff {s : State} (h : s.sizes = partSizes) : s.jobLaw ↔ s.JobsLaw :=
  ⟨fun ⟨ha, hr, ho, hc⟩ => ⟨h, ha, hr, ho, hc⟩, fun hj => ⟨hj.apart, hj.runs, hj.offline, hj.counted⟩⟩

theorem State.length_useCounts_of_sizes {s : State} (h : s.sizes = partSizes) : s.useCounts.length = Config.records := by
  simp only [State.sizes, partSizes, List.cons.injEq] at h
  exact h.2.2.2.1

theorem State.getElem_ctxs {s : State} {c : Nat} (hc : c < s.ctxs.length) : s.ctxs[c] = s.ctx c := by
  rw [State.ctx, List.getD_eq_getElem _ _ hc]

theorem State.JobsLaw.ok {s : State} (h : s.JobsLaw) {c : Nat} (hc : c < s.ctxs.length) : s.JobsOk c where
  whole := State.length_useCounts_of_sizes h.sizes
  runs := State.getElem_ctxs hc ▸ h.runs _ (List.getElem_mem hc)
  apart := by
    have := (flatMap_eraseIdx_perm Ctx.tags hc).nodup_iff.mp h.apart
    rw [State.getElem_ctxs] at this
    exact (List.nodup_append.mp this).1
  counted i hi := by
    rw [h.counted i hi, (flatMap_eraseIdx_perm Ctx.heldPaths hc).countP_eq, List.countP_append, State.getElem_ctxs]
    exact Nat.le_add_right ..

/-- A tag that no context has is none of its jobs' tags. -/
theorem Ctx.not_mem_tags {x : Ctx} {tag : BitVec 32} (h : x.hasTag tag = false) : tag ∉ x.tags := by
  simp only [Ctx.hasTag, Ctx.jobTag, Bool.or_eq_false_iff, List.any_eq_false, beq_iff_eq, beq_eq_false_iff_ne] at h
  simp only [Ctx.tags, List.mem_append, List.mem_map, Option.mem_toList, not_or, not_exists, not_and]
  exact ⟨h.1, h.2⟩

theorem State.not_mem_tags {s : State} {tag : BitVec 32} (h : s.tagHeld tag = false) : tag ∉ s.ctxs.flatMap Ctx.tags := by
  rw [List.mem_flatMap]
  rintro ⟨x, hx, htag⟩
  exact Ctx.not_mem_tags (Bool.eq_false_iff.mpr fun hh => by
    rw [State.tagHeld, List.any_eq_false] at h
    exact h x hx hh) htag

/-- The law reads no more than the tables' sizes, the contexts' jobs and states, and the use counts. -/
theorem State.JobsLaw.congr {s t : State} (h : s.JobsLaw) (hsize : t.sizes = partSizes) (hctxs : t.ctxs = s.ctxs)
    (huses : t.useCounts = s.useCounts) : t.JobsLaw :=
  ⟨hsize, hctxs ▸ h.apart, hctxs ▸ h.runs, hctxs ▸ h.offline, fun i hi => by rw [State.useCount, huses, hctxs]; exact h.counted i hi⟩

/-- A context moves, and the use counts with the paths that it holds. -/
theorem State.JobsLaw.ctx {s : State} (h : s.JobsLaw) {c : Nat} {x : Ctx} {us : List Nat} (hx : CtxMoves s c x us)
    (hsize : ({ s.setCtx c x with useCounts := us } : State).sizes = partSizes) :
    ({ s.setCtx c x with useCounts := us } : State).JobsLaw := by
  by_cases hc : c < s.ctxs.length
  swap
  · refine h.congr hsize ?_ (hx.inside.resolve_left hc)
    rw [State.setCtx_ctxs, List.set_eq_of_length_le (Nat.le_of_not_lt hc)]
  have hok := h.ok hc
  have hread := State.getElem_ctxs hc
  have hold : ∀ {β : Type} (f : Ctx → List β), (s.ctxs.flatMap f).Perm (f (s.ctx c) ++ (s.ctxs.eraseIdx c).flatMap f) := fun f =>
    hread ▸ flatMap_eraseIdx_perm f hc
  have hall : ∀ {Q : Ctx → Prop}, (∀ y ∈ s.ctxs, Q y) → Q x → ∀ y ∈ (s.setCtx c x).ctxs, Q y := fun hQ hQx =>
    State.forall_setCtx hQ fun _ => hQx
  refine ⟨hsize, ?_, hall h.runs (hx.job hok.runs), hall h.offline (hx.offline hok ?_), fun i hi => ?_⟩
  · rw [State.setCtx_ctxs, (flatMap_set_perm Ctx.tags hc).nodup_iff]
    have hnodup := (hold Ctx.tags).nodup_iff.mp h.apart
    rcases hx.tags hok with hsub | ⟨tag, hperm, hfree⟩
    · exact nodup_of_subperm (List.subperm_append_right _ |>.mpr hsub) hnodup
    · rw [(hperm.append_right _).nodup_iff, List.cons_append, List.nodup_cons]
      exact ⟨fun hmem => State.not_mem_tags hfree ((hold Ctx.tags).mem_iff.mpr hmem), hnodup⟩
  · exact hread ▸ h.offline _ (List.getElem_mem hc)
  · have huse := hx.uses hok i hi
    have hcount := h.counted i hi
    rw [(hold Ctx.heldPaths).countP_eq, List.countP_append] at hcount
    rw [State.setCtx_ctxs, (flatMap_set_perm Ctx.heldPaths hc).countP_eq, List.countP_append]
    simp only [State.useCount, Ctx.holds] at *
    omega

theorem Works.jobsLaw {s t : State} (h : Works s t) (hs : s.JobsLaw) : t.JobsLaw := by
  induction h with
  | refl => exact hs
  | report k c st tag b ih => exact ih.congr ((k.report c st tag b).sizes.trans hs.sizes) (State.report_ctxs ..) (State.report_useCounts ..)
  | ctx k c x us hx ih => exact ih.ctx hx ((k.ctx c x us hx).sizes.trans hs.sizes)
  | agenda k ts hts ih => exact ih.congr ((k.agenda ts hts).sizes.trans hs.sizes) rfl rfl
  | count k n hn ih => exact ih.congr ((k.count n hn).sizes.trans hs.sizes) rfl rfl
  | points k ps hps ih => exact ih.congr ((k.points ps hps).sizes.trans hs.sizes) rfl rfl
  | node k n x hx ih => exact ih.congr ((k.node n x hx).sizes.trans hs.sizes) rfl rfl
  | gate k g x x' hg hcfg ht ih => exact ih.congr ((k.gate g x x' hg hcfg ht).sizes.trans hs.sizes) rfl rfl
  | remove k c ih => exact ih.congr ((k.remove c).sizes.trans hs.sizes) rfl rfl
  | enter k e hc ih => exact ih.congr ((k.enter e hc).sizes.trans hs.sizes) rfl rfl
  | scanning k a b ih => exact ih.congr ((k.scanning a b).sizes.trans hs.sizes) rfl rfl
  | lower k c f hf ih => exact ih.congr ((k.lower c f hf).sizes.trans hs.sizes) rfl rfl
  | raise k c st hst hn ih => exact ih.congr ((k.raise c st hst hn).sizes.trans hs.sizes) rfl rfl
  | release k c ih => exact ih.congr ((k.release c).sizes.trans hs.sizes) rfl rfl

theorem Ctx.softReset_jobs (x : Ctx) : x.softReset.jobs = ([], [], none) := rfl

theorem Acts.jobsLaw {s t : State} (h : Acts s t) (hs : s.JobsLaw) : t.JobsLaw := by
  induction h with
  | refl => exact hs
  | works _ k ih => exact k.jobsLaw ih
  | unsized _ us hc ih => exact absurd (State.length_ctxs_of_sizes ih.sizes) (Nat.ne_of_lt hc)
  | @tables t k ih =>
    have hctx : ∀ {β : Type} (f : Ctx → List β), (∀ x : Ctx, f x.softReset = []) → t.softResetTables.ctxs.flatMap f = [] := fun f hf =>
      List.flatMap_eq_nil_iff.mpr fun x hx => by obtain ⟨y, -, rfl⟩ := List.mem_map.mp hx; exact hf y
    refine ⟨k.tables.sizes hs.sizes, ?_, fun x hx => ?_, fun x hx _ => ?_, fun i hi => ?_⟩
    · rw [hctx Ctx.tags fun _ => rfl]; exact List.nodup_nil
    · obtain ⟨y, -, rfl⟩ := List.mem_map.mp hx
      intro hjob
      cases hjob
    · obtain ⟨y, -, rfl⟩ := List.mem_map.mp hx
      rfl
    · rw [hctx Ctx.heldPaths fun _ => rfl, State.useCount,
        show t.softResetTables.useCounts = t.useCounts.map fun _ => 0 from rfl, List.getD_eq_getElem?_getD, List.getElem?_map]
      cases t.useCounts[i]? <;> rfl
  | agenda k ts ih => exact ih.congr ((k.agenda ts).sizes hs.sizes) rfl rfl
  | other k a b c d e f g ih => exact ih.congr ((k.other a b c d e f g).sizes hs.sizes) rfl rfl
  | badRun k n hn ih => exact ih.congr ((k.badRun n hn).sizes hs.sizes) rfl rfl
  | ring k r g hg ih => exact ih.congr ((k.ring r g hg).sizes hs.sizes) rfl rfl
  | count k n ih => exact ih.congr ((k.count n).sizes hs.sizes) rfl rfl
  | tally k rs n ks hrs hn hlen hks ih => exact ih.congr ((k.tally rs n ks hrs hn hlen hks).sizes hs.sizes) rfl rfl
  | points k ps hlen hforce hfeeds ih => exact ih.congr ((k.points ps hlen hforce hfeeds).sizes hs.sizes) rfl rfl
  | nodes k ns hlen hage ih => exact ih.congr ((k.nodes ns hlen hage).sizes hs.sizes) rfl rfl
  | gates k gs hlen htimed ih => exact ih.congr ((k.gates gs hlen htimed).sizes hs.sizes) rfl rfl
  | records k rs hlen hrange hheld ih => exact ih.congr ((k.records rs hlen hrange hheld).sizes hs.sizes) rfl rfl
  | supply k e hfree ih => exact ih.congr ((k.supply e hfree).sizes hs.sizes) rfl rfl
  | members k gs hh ih => exact ih.congr ((k.members gs hh).sizes hs.sizes) rfl rfl
  | waits k ws hp ih => exact ih.congr ((k.waits ws hp).sizes hs.sizes) rfl rfl

theorem Ctx.tags_advance (dt : Nat) (x : Ctx) : (x.advance dt).tags = x.tags := by
  simp [Ctx.tags, Ctx.advance, Function.comp_def]

theorem Ctx.heldPaths_advance (dt : Nat) (x : Ctx) : (x.advance dt).heldPaths = x.heldPaths := by
  simp [Ctx.heldPaths, Ctx.advance, Function.comp_def]

theorem State.JobsLaw.advance {s : State} (h : s.JobsLaw) (dt : Nat) : (s.advance dt).JobsLaw := by
  have hctxs : (s.advance dt).ctxs = s.ctxs.map (Ctx.advance dt) := rfl
  refine ⟨(State.sizes_advance s dt).trans h.sizes, ?_, fun x hx => ?_, fun x hx => ?_, fun i hi => ?_⟩
  · rw [hctxs, List.flatMap_map, List.flatMap_congr fun x _ => Ctx.tags_advance dt x]; exact h.apart
  · obtain ⟨y, hy, rfl⟩ := List.mem_map.mp hx
    intro hjob
    exact h.runs y hy (by simpa [Ctx.advance] using hjob)
  · obtain ⟨y, hy, rfl⟩ := List.mem_map.mp hx
    rw [Ctx.heldPaths_advance]
    exact h.offline y hy
  · rw [hctxs, List.flatMap_map, List.flatMap_congr fun x _ => Ctx.heldPaths_advance dt x]; exact h.counted i hi

theorem State.jobsLaw_resetWith (straps : Byte) : (State.resetWith straps).JobsLaw := by
  have hctx : ∀ {β : Type} (f : Ctx → List β), f Ctx.reset = [] → (State.resetWith straps).ctxs.flatMap f = [] := fun f hf =>
    List.flatMap_eq_nil_iff.mpr fun x hx => by rw [List.eq_of_mem_replicate hx]; exact hf
  refine ⟨State.sizes_resetWith straps, ?_, fun x hx => ?_, fun x hx _ => ?_, fun i hi => ?_⟩
  · rw [hctx Ctx.tags rfl]; exact List.nodup_nil
  · rw [List.eq_of_mem_replicate hx]; intro hjob; cases hjob
  · rw [List.eq_of_mem_replicate hx]; rfl
  · rw [hctx Ctx.heldPaths rfl]
    simp only [State.useCount, State.resetWith, List.getD_eq_getElem?_getD, List.getElem?_replicate]
    split <;> rfl

theorem step_jobsLaw {s t : State} (hs : s.JobsLaw) (h : step s = .next t) : t.JobsLaw :=
  step_keeps (P := State.JobsLaw)
    (fun _ => (State.jobsLaw_resetWith s.straps).congr (State.sizes_resetWith s.straps) rfl rfl)
    (fun ps dt => State.JobsLaw.advance (s := { s with pending := ps }) (hs.congr hs.sizes rfl rfl) dt)
    (fun _ k hu => k.jobsLaw hu) hs h

/-! ### Held records (R58) -/

theorem Works.records {s t : State} (h : Works s t) : t.records = s.records := by
  induction h with
  | refl => rfl
  | report _ c st tag b ih => rw [State.report_records]; exact ih
  | _ => assumption

theorem Acts.record {s t : State} (h : Acts s t) {i : Nat} (hi : 0 < s.useCount i) : t.record i = s.record i := by
  induction h with
  | refl => rfl
  | works _ k ih => rw [State.record, k.records]; exact ih
  | records _ rs _ _ hheld ih => exact (hheld i hi).trans ih
  | _ => assumption

/-- A command other than RESET changes no record with a use count above 0 (R58). -/
theorem exec_record {c : Instr} {s t : State} {i : Nat} (hc : c ≠ .reset) (h : exec c s = .next t) (hi : 0 < s.useCount i) :
    t.record i = s.record i :=
  (exec_acts hc h).record (s := s.advance (intervalOf c)) hi

end Sys2Proof.Machine
end

section
/-!
What the validation walk accepts (R61 to R68): the checks of each step as what they say of the step, and the path as closed.
-/
namespace Sys2Proof.Machine

/-! ### Checks that find no fault -/

theorem firstFault_eq_none {checks : List (Option WalkFault)} : firstFault checks = none ↔ ∀ x ∈ checks, x = none := by
  simp [firstFault, List.findSome?_eq_none_iff]

theorem headFault_eq_none {reason : WalkReason} {h : Nat} {bad : Bool} : headFault reason h bad = none ↔ bad = false := by
  cases bad <;> simp [headFault]

theorem itemFault_eq_none {reason : WalkReason} {ps : List Placed} {bad : Item → Bool} :
    itemFault reason ps bad = none ↔ ∀ x ∈ ps.map (·.item), bad x = false := by
  simp [itemFault, List.find?_eq_none]

/-! ### The slots of a step -/

theorem mapFrom_map_item (i k : Nat) (items : List Item) :
    (mapFrom (fun k item => ({ record := i, slot := k, item := item } : Placed)) k items).map (·.item) = items := by
  induction items generalizing k with
  | nil => rfl
  | cons x xs ih => simp only [mapFrom, List.map_cons, ih]

theorem placedConts_items (records : List Record) (n i : Nat) : (placedConts records n i).map (·.item) = (contItems records n i).1 := by
  induction n generalizing i with
  | zero => rfl
  | succ n ih =>
    unfold placedConts contItems
    cases records.getD i .empty with
    | cont is more => cases more <;> simp [placeSlots, mapFrom_map_item, ih]
    | empty | head => rfl

/-- The placed items of a step are its items in slot order. -/
theorem placedItems_items {records : List Record} {h : Nat} {st : Step} (hst : stepAt records h = some st) :
    (placedItems records h).map (·.item) = st.items := by
  unfold stepAt at hst
  unfold placedItems
  cases hr : records.getD h .empty with
  | head hd is more =>
    rw [hr] at hst
    cases hst
    cases more <;> simp [placeSlots, mapFrom_map_item, placedConts_items]
  | cont | empty =>
    rw [hr] at hst
    cases hst

theorem Step.mem_sets {st : Step} {i : SetItem} : i ∈ st.sets ↔ Item.set i ∈ st.items := by
  simp only [Step.sets, List.mem_filterMap]
  constructor
  · rintro ⟨x, hx, hi⟩
    split at hi <;> simp_all
  · intro h; exact ⟨_, h, rfl⟩

theorem Step.mem_bands {st : Step} {i : BandItem} : i ∈ st.bands ↔ Item.band i ∈ st.items := by
  simp only [Step.bands, List.mem_filterMap]
  constructor
  · rintro ⟨x, hx, hi⟩
    split at hi <;> simp_all
  · intro h; exact ⟨_, h, rfl⟩

theorem Step.mem_ends {st : Step} {i : EndItem} : i ∈ st.ends ↔ Item.cond i ∈ st.items := by
  simp only [Step.ends, List.mem_filterMap]
  constructor
  · rintro ⟨x, hx, hi⟩
    split at hi <;> simp_all
  · intro h; exact ⟨_, h, rfl⟩

/-! ### Kinds and limits (R66) -/

/-- A step without item that watches has neither BAND nor END items. -/
theorem Step.no_watches {st : Step} (h : ∀ x ∈ st.items, x.watches = false) : st.bands = [] ∧ st.ends = [] :=
  ⟨List.eq_nil_iff_forall_not_mem.mpr fun _ hx => absurd (h _ (Step.mem_bands.mp hx)) (by simp [Item.watches]),
    List.eq_nil_iff_forall_not_mem.mpr fun _ hx => absurd (h _ (Step.mem_ends.mp hx)) (by simp [Item.watches])⟩

/-- A step whose slots are all empty has no item. -/
theorem Step.no_items {st : Step} (h : ∀ x ∈ st.items, x.filled = false) : st.sets = [] ∧ st.bands = [] ∧ st.ends = [] :=
  ⟨List.eq_nil_iff_forall_not_mem.mpr fun _ hx => absurd (h _ (Step.mem_sets.mp hx)) (by simp [Item.filled]),
    List.eq_nil_iff_forall_not_mem.mpr fun _ hx => absurd (h _ (Step.mem_bands.mp hx)) (by simp [Item.filled]),
    List.eq_nil_iff_forall_not_mem.mpr fun _ hx => absurd (h _ (Step.mem_ends.mp hx)) (by simp [Item.filled])⟩

/-- What KIND_FIELD says of an accepted step (R66). -/
structure Step.KindOk (st : Step) : Prop where
  watches : st.head.kind.conditioned = false → st.bands = [] ∧ st.ends = []
  sets : st.head.kind ≠ .process → st.head.kind ≠ .pump → st.head.kind ≠ .ror → st.sets = []
  times : st.head.kind = .ror → 0 < st.head.rorSettle ∧ 0 < st.head.rorMeasure
  gate : st.head.kind.gate = true → st.head.gate.isSome = true

theorem kindOk_of_kindFault {h : Nat} {st : Step} {ps : List Placed} (hps : ps.map (·.item) = st.items)
    (hk : kindFault h st ps = none) : st.KindOk := by
  unfold kindFault at hk
  cases hkind : st.head.kind <;>
    simp only [hkind, firstFault_eq_none, List.forall_mem_cons, headFault_eq_none, itemFault_eq_none, hps] at hk
  case process | pump => constructor <;> simp [hkind, StepKind.conditioned, StepKind.gate]
  case ror =>
    obtain ⟨htimes, hw, -⟩ := hk
    have hnone := Step.no_watches hw
    constructor <;> simp_all [StepKind.conditioned, StepKind.gate, Nat.pos_iff_ne_zero]
  case gateOpen | gateClose =>
    obtain ⟨hgate, hf, -⟩ := hk
    have hnone := Step.no_items hf
    constructor <;> simp_all [StepKind.conditioned, StepKind.gate]
  all_goals
    have hnone := Step.no_items hk
    constructor <;> simp_all [StepKind.conditioned, StepKind.gate]

/-- The point that a SET item drives. -/
def Item.setPoint : Item → Option Nat
  | .set i => some i.point
  | _ => none

/-- A BAND item. -/
def Item.isBand : Item → Bool
  | .band _ => true
  | _ => false

/-- An END item. -/
def Item.isEnd : Item → Bool
  | .cond _ => true
  | _ => false

/-- Placed items that pass the limits, behind others of these points and counts. -/
theorem limits_of_limitFault {ps : List Placed} {points : List Nat} {bands ends : Nat} (h : limitFault points bands ends ps = none)
    (hn : points.Nodup) (hp : points.length ≤ 32) (hb : bands ≤ 8) (he : ends ≤ 4) :
    ((ps.filterMap fun p => p.item.setPoint).reverse ++ points).Nodup
      ∧ (ps.filterMap fun p => p.item.setPoint).length + points.length ≤ 32
      ∧ (ps.countP fun p => p.item.isBand) + bands ≤ 8 ∧ (ps.countP fun p => p.item.isEnd) + ends ≤ 4 := by
  induction ps generalizing points bands ends with
  | nil => exact ⟨by simpa using hn, by simpa using hp, by simpa using hb, by simpa using he⟩
  | cons p ps ih =>
    unfold limitFault at h
    cases hitem : p.item with
    | empty =>
      simp only [hitem] at h
      simpa [hitem, Item.setPoint, Item.isBand, Item.isEnd] using ih h hn hp hb he
    | set i =>
      simp only [hitem] at h
      split at h
      · cases h
      · next hok =>
        simp only [Bool.or_eq_true, decide_eq_true_eq, List.contains_iff_mem, not_or, Nat.not_le] at hok
        have hrest := ih h (List.nodup_cons.mpr ⟨hok.2, hn⟩) (by simp only [List.length_cons]; omega) hb he
        simp only [List.filterMap_cons, List.countP_cons, hitem, Item.setPoint, Item.isBand, Item.isEnd, List.reverse_cons,
          List.append_assoc, List.singleton_append, List.length_cons] at hrest ⊢
        exact ⟨hrest.1, by omega, by simpa using hrest.2.2.1, by simpa using hrest.2.2.2⟩
    | band i =>
      simp only [hitem] at h
      split at h
      · cases h
      · have hrest := ih h hn hp (by omega) he
        simp only [List.filterMap_cons, List.countP_cons, hitem, Item.setPoint, Item.isBand, Item.isEnd] at hrest ⊢
        exact ⟨hrest.1, hrest.2.1, by simp; omega, by simpa using hrest.2.2.2⟩
    | cond i =>
      simp only [hitem] at h
      split at h
      · cases h
      · have hrest := ih h hn hp hb (by omega)
        simp only [List.filterMap_cons, List.countP_cons, hitem, Item.setPoint, Item.isBand, Item.isEnd] at hrest ⊢
        exact ⟨hrest.1, hrest.2.1, by simpa using hrest.2.2.1, by simp; omega⟩

theorem Step.map_point_sets (st : Step) : st.sets.map (·.point) = st.items.filterMap Item.setPoint := by
  rw [Step.sets, List.map_filterMap]
  refine List.filterMap_congr fun x _ => ?_
  cases x <;> rfl

theorem Step.length_bands (st : Step) : st.bands.length = st.items.countP Item.isBand := by
  rw [Step.bands, List.length_filterMap_eq_countP]
  refine List.countP_congr fun x _ => ?_
  cases x <;> simp [Item.isBand]

theorem Step.length_ends (st : Step) : st.ends.length = st.items.countP Item.isEnd := by
  rw [Step.ends, List.length_filterMap_eq_countP]
  refine List.countP_congr fun x _ => ?_
  cases x <;> simp [Item.isEnd]

/-- What ITEM_LIMIT says of an accepted step (R66). -/
theorem Step.limits {st : Step} {ps : List Placed} (hps : ps.map (·.item) = st.items) (h : limitFault [] 0 0 ps = none) :
    (st.sets.map (·.point)).Nodup ∧ st.sets.length ≤ 32 ∧ st.bands.length ≤ 8 ∧ st.ends.length ≤ 4 := by
  have hlen : st.sets.length = (st.sets.map (·.point)).length := by rw [List.length_map]
  rw [hlen, Step.map_point_sets, Step.length_bands, Step.length_ends, ← hps, List.filterMap_map, List.countP_map, List.countP_map]
  obtain ⟨h1, h2, h3, h4⟩ := limits_of_limitFault h List.nodup_nil (by decide) (by decide) (by decide)
  rw [List.append_nil, List.nodup_reverse] at h1
  exact ⟨h1, h2, h3, h4⟩

/-! ### Points, gates and groups (R67) -/

theorem State.pointFault_eq_none {s : State} {c : Nat} {sets : List SetItem} {ps : List Placed} (h : s.pointFault c sets ps = none) :
    ∀ x ∈ ps.map (·.item), s.itemReason c sets x = none := by
  induction ps with
  | nil => simp
  | cons p ps ih =>
    unfold State.pointFault at h
    split at h
    · cases h
    · next hp => exact List.forall_mem_cons.mpr ⟨hp, ih h⟩

theorem State.not_openOutput {s : State} {p : Nat} (h : s.isOpenOutput p = false) {g : Nat} {y : Gate} (hg : s.gate g = some y) :
    y.cfg.openOut ≠ p := fun he => by
  rw [State.isOpenOutput, List.any_eq_false] at h
  exact h _ (State.mem_gates_of_gate hg) (by simpa using he)

/-- A SET item that R67 lets pass drives a SET point of the context, no gate's output, to a target in range. -/
theorem State.drives_of_itemReason {s : State} {c : Nat} {sets : List SetItem} {x : SetItem}
    (h : s.itemReason c sets (.set x) = none) :
    (∃ cfg r, s.point x.point = .set cfg r ∧ cfg.owner = .ctx c ∧ x.target ≤ quantityMax cfg.quantity)
      ∧ ∀ g y, s.gate g = some y → y.cfg.openOut ≠ x.point := by
  simp only [State.itemReason, State.drives, State.quantityOf] at h
  cases hp : s.point x.point with
  | set cfg r =>
    simp only [hp] at h
    split at h
    · cases h
    · next hd =>
      split at h
      · cases h
      · next ht =>
        simp only [Bool.not_eq_true', Bool.not_eq_false, Bool.and_eq_true, beq_iff_eq] at hd
        exact ⟨⟨cfg, r, rfl, hd.1, by simpa using ht⟩, fun g y => s.not_openOutput hd.2⟩
  | empty | sample => simp [hp] at h

theorem State.reads_of_band {s : State} {c : Nat} {sets : List SetItem} {x : BandItem} (h : s.itemReason c sets (.band x) = none) :
    s.reads c x.point = true ∧ (x.mode = .relative →
      (∃ y ∈ sets, y.point = x.reference) ∧ s.quantityOf x.reference = s.quantityOf x.point) := by
  simp only [State.itemReason] at h
  split at h
  · next hok =>
    simp only [Bool.and_eq_true, Bool.or_eq_true, List.any_eq_true, beq_iff_eq] at hok
    refine ⟨hok.1, fun hm => ?_⟩
    rw [hm] at hok
    exact hok.2.resolve_left (by decide)
  · cases h

theorem State.reads_of_end {s : State} {c : Nat} {sets : List SetItem} {e : EndItem} (h : s.itemReason c sets (.cond e) = none) :
    (∀ p, e.point = some p → s.reads c p = true) ∧ ∀ p v, e = .input p v → s.quantityOf p = some .digital := by
  cases e <;> simp [State.itemReason] at h <;> simp_all [EndItem.point]

/-- What GATE_NOT_OWNED and GROUP_NOT_MEMBER say of an accepted step (R67). -/
theorem State.plant_of_plantFault {s : State} {c h : Nat} {hd : Head} (hf : s.plantFault c h hd = none) :
    (hd.kind.gate = true → ∃ g x, hd.gate = some g ∧ s.gate g = some x ∧ x.cfg.owner = c)
      ∧ (hd.kind = .pump → ∀ g, hd.group = some g → c ∈ (s.group g).members) := by
  simp only [State.plantFault, firstFault_eq_none, List.forall_mem_cons, headFault_eq_none, Bool.and_eq_false_iff,
    Bool.not_eq_false', beq_eq_false_iff_ne] at hf
  obtain ⟨hgate, hgroup, -⟩ := hf
  refine ⟨fun hk => ?_, fun hk g hg => ?_⟩
  · rw [hk] at hgate
    obtain ⟨g, hg, hown⟩ := Option.any_eq_true .. |>.mp (hgate.resolve_left (by decide))
    split at hown
    · next x hx => exact ⟨g, x, hg, hx, beq_iff_eq.mp hown⟩
    · cases hown
  · have := hgroup.resolve_left (fun h => h hk)
    rw [hg] at this
    simpa using this

/-! ### Purposes (R68) -/

theorem State.cold_of_hotItem {s : State} {x : SetItem} (h : s.hotItem (.set x) = false) (hhot : s.hotPoint x.point = true) :
    x.target = 0 := by
  simp only [State.hotItem, State.hotPoint] at h hhot
  split at hhot
  · next cfg r hp => simpa [hp, hhot] using h
  · cases hhot

/-- What R68 says of an accepted step. -/
structure Step.PurposeOk (s : State) (purpose : Purpose) (st : Step) : Prop where
  emergency : purpose = .handlerEmergency → st.head.kind ≠ .gateOpen ∧ st.head.kind ≠ .ret ∧ st.head.kind ≠ .abandon
    ∧ (st.head.kind = .pump → st.head.group = none)
  rest : purpose.resting = true → st.head.kind = .process ∧ st.head.strikeWindow = 0 ∧ st.bands = [] ∧ st.ends = []
  cold : purpose = .handlerEmergency ∨ purpose.resting = true → ∀ x ∈ st.sets, s.hotPoint x.point = true → x.target = 0

theorem purposeOk_of_purposeFault {s : State} {purpose : Purpose} {h : Nat} {st : Step} {ps : List Placed}
    (hps : ps.map (·.item) = st.items) (hf : s.purposeFault purpose h st ps = none) : st.PurposeOk s purpose := by
  have hcold : (∀ x ∈ st.items, s.hotItem x = false) → ∀ x ∈ st.sets, s.hotPoint x.point = true → x.target = 0 := fun hh x hx =>
    State.cold_of_hotItem (hh _ (Step.mem_sets.mp hx))
  unfold State.purposeFault at hf
  cases purpose <;>
    simp only [firstFault_eq_none, List.forall_mem_cons, headFault_eq_none, itemFault_eq_none, hps] at hf
  case handlerEmergency =>
    obtain ⟨hhot, hgroup, hopen, hend, -⟩ := hf
    refine ⟨fun _ => ?_, fun hr => (by cases hr), fun _ => hcold hhot⟩
    simp only [Bool.or_eq_false_iff, beq_eq_false_iff_ne, Bool.and_eq_false_iff, Option.isSome_eq_false_iff, Option.isNone_iff_eq_none] at *
    exact ⟨hopen, hend.1, hend.2, fun hk => hgroup.resolve_left fun h => h hk⟩
  case idle | parkLight | parkDeep =>
    obtain ⟨hkind, hstrike, hw, hhot, -⟩ := hf
    refine ⟨fun hr => (by cases hr), fun _ => ⟨by simpa using hkind, by simpa using hstrike, Step.no_watches hw⟩, fun _ => hcold hhot⟩
  all_goals exact ⟨fun hr => (by cases hr), fun hr => (by cases hr), fun hr => hr.elim (fun h => by cases h) fun h => by cases h⟩

/-! ### The records of a step (R63) -/

theorem chainFault_eq_none {records : List Record} {n i : Nat} (h : chainFault records n i = none) :
    ∃ j, (contItems records n (i + 1)).2 = i + 1 + j ∧ ∀ k, k < j → ∃ is more, records.getD (i + 1 + k) .empty = .cont is more := by
  induction n generalizing i with
  | zero => cases h
  | succ n ih =>
    unfold chainFault at h
    split at h
    · cases h
    · split at h
      · next is more hr =>
        unfold contItems
        rw [hr]
        cases more with
        | true =>
          simp only [if_true] at h
          obtain ⟨j, hj, hconts⟩ := ih h
          refine ⟨j + 1, by simp only [if_true]; rw [hj]; omega, fun k hk => ?_⟩
          cases k with
          | zero => exact ⟨is, true, hr⟩
          | succ k => rw [show i + 1 + (k + 1) = i + 1 + 1 + k by omega]; exact hconts k (by omega)
        | false =>
          refine ⟨1, rfl, fun k hk => ?_⟩
          obtain rfl : k = 0 := by omega
          exact ⟨is, false, hr⟩
      · cases h

/-- The records of a step whose chain is whole: its HEAD, and CONT records behind it up to its end. -/
theorem stepAt_of_structure {records : List Record} {h : Nat} (hs : structureFault records h = none) :
    ∃ st, stepAt records h = some st ∧ h < st.after
      ∧ ∀ i, h < i → i < st.after → ∃ is more, records.getD i .empty = .cont is more := by
  unfold structureFault at hs
  unfold stepAt
  cases hr : records.getD h .empty with
  | head hd is more =>
    rw [hr] at hs
    refine ⟨_, rfl, ?_⟩
    cases more with
    | false => exact ⟨Nat.lt_succ_self h, fun i h1 h2 => absurd h1 (Nat.not_lt.mpr (Nat.lt_succ_iff.mp h2))⟩
    | true =>
      simp only [if_true, Option.map_eq_none_iff] at hs ⊢
      obtain ⟨j, hj, hconts⟩ := chainFault_eq_none hs
      refine ⟨by omega, fun i h1 h2 => ?_⟩
      obtain ⟨k, rfl⟩ := Nat.exists_eq_add_of_lt h1
      exact Nat.add_right_comm h 1 k ▸ hconts k (by omega)
  | cont | empty =>
    rw [hr] at hs
    cases hs

theorem stepAt_of_cont {records : List Record} {i : Nat} {is : List Item} {more : Bool} (h : records.getD i .empty = .cont is more) :
    stepAt records i = none := by
  unfold stepAt; rw [h]

theorem stepAt_getD {records : List Record} {h : Nat} {st : Step} (hst : stepAt records h = some st) :
    ∃ hd is more, records.getD h .empty = .head hd is more := by
  unfold stepAt at hst
  split at hst
  · next hd is more heq => exact ⟨hd, is, more, heq⟩
  · cases hst

/-! ### One step of a path -/

/-- What the checks of R66 to R68 say of a step on an accepted path. -/
structure Step.Accepted (s : State) (c : Nat) (purpose : Purpose) (st : Step) : Prop where
  kind : st.KindOk
  limits : (st.sets.map (·.point)).Nodup ∧ st.sets.length ≤ 32 ∧ st.bands.length ≤ 8 ∧ st.ends.length ≤ 4
  items : ∀ x ∈ st.items, s.itemReason c st.sets x = none
  plant : (st.head.kind.gate = true → ∃ g x, st.head.gate = some g ∧ s.gate g = some x ∧ x.cfg.owner = c)
    ∧ (st.head.kind = .pump → ∀ g, st.head.group = some g → c ∈ (s.group g).members)
  rules : st.PurposeOk s purpose
  job : purpose = .job → st.head.kind ≠ .ret ∧ st.head.kind ≠ .halt ∧ st.head.kind ≠ .abandon
  handler : purpose.handler = true → st.head.kind ≠ .jobEnd

/-- The step ends a path of its purpose (R65). -/
def Step.endsPath (purpose : Purpose) (st : Step) : Prop :=
  purpose.resting = true ∨ st.head.kind = .jobEnd ∨ st.head.kind = .ret ∨ st.head.kind = .halt ∨ st.head.kind = .abandon

/-- What a path that the walk goes on with gives of the step: the rules on its kind, and a successor unless it ends. -/
theorem walkNext_eq_ok {purpose : Purpose} {h : Nat} {st : Step} {visited open' : List Nat} {r : List Nat × Option Nat}
    (hw : walkNext purpose h st visited open' = .ok r) :
    (purpose = .job → st.head.kind ≠ .ret ∧ st.head.kind ≠ .halt ∧ st.head.kind ≠ .abandon)
      ∧ (purpose.handler = true → st.head.kind ≠ .jobEnd)
      ∧ (r.2 = some (st.head.next.target st.after) ∨ r.2 = none ∧ st.endsPath purpose) := by
  unfold walkNext at hw
  split at hw
  · cases hw
  · next open'' _ =>
    have hend : ∀ e, walkEnd purpose st.head.kind h open'' = some e → st.endsPath purpose := by
      intro e he
      unfold walkEnd at he
      split at he
      · next hr => exact .inl hr
      · split at he <;> simp_all [Step.endsPath]
    split at hw
    · cases hw
    · next heq =>
      cases hw
      refine ⟨fun hp => ?_, fun hp => ?_, .inr ⟨rfl, hend _ heq⟩⟩
      · subst hp
        cases hk : st.head.kind <;> simp_all [walkEnd, Purpose.resting, Purpose.handler]
      · intro hk
        have hrest : purpose.resting = false := by cases purpose <;> simp_all [Purpose.resting, Purpose.handler]
        simp [walkEnd, hk, hp, hrest] at heq
    · next heq =>
      refine ⟨fun hp => ?_, fun hp hk => ?_, .inl ?_⟩
      · subst hp
        cases hk : st.head.kind <;> simp_all [walkEnd, Purpose.resting, Purpose.handler]
      · have hrest : purpose.resting = false := by cases purpose <;> simp_all [Purpose.resting, Purpose.handler]
        simp [walkEnd, hk, hp, hrest] at heq
      · dsimp only at hw
        split at hw
        · cases hw
        · split at hw
          · cases hw
          · cases hw; rfl

theorem State.accepted_of_checks {s : State} {c h : Nat} {purpose : Purpose} {st : Step} {visited open' : List Nat}
    {r : List Nat × Option Nat} (hst : stepAt s.records h = some st) (hf : s.stepFault c h = none)
    (hw : walkNext purpose h st visited open' = .ok r) (hp : s.purposeFault purpose h st (placedItems s.records h) = none) :
    st.Accepted s c purpose := by
  have hps := placedItems_items hst
  have hchecks : firstFault [kindFault h st (placedItems s.records h), limitFault [] 0 0 (placedItems s.records h),
      s.pointFault c st.sets (placedItems s.records h), s.plantFault c h st.head] = none := by
    unfold State.stepFault at hf
    rw [hst] at hf
    split at hf
    · cases hf
    · cases hf
    · next heq => cases heq; exact hf
  simp only [firstFault_eq_none, List.forall_mem_cons] at hchecks
  obtain ⟨hkind, hlimit, hpoint, hplant, -⟩ := hchecks
  obtain ⟨hjob, hhandler, -⟩ := walkNext_eq_ok hw
  exact ⟨kindOk_of_kindFault hps hkind, Step.limits hps hlimit, hps ▸ s.pointFault_eq_none hpoint, s.plant_of_plantFault hplant,
    purposeOk_of_purposeFault hps hp, hjob, hhandler⟩

/-! ### The path -/

/-- A path whose steps are accepted and whose records are defined, and which, but for the heads still to come, has the successors of its
steps. -/
structure PathOk (s : State) (c : Nat) (purpose : Purpose) (path : List Nat) (todo : Option Nat) : Prop where
  defined : ∀ i ∈ path, s.record i ≠ .empty
  accepted : ∀ h ∈ path, ∀ st, stepAt s.records h = some st → st.Accepted s c purpose
  closed : ∀ h ∈ path, ∀ st, stepAt s.records h = some st →
    st.endsPath purpose ∨ st.head.next.target st.after ∈ path ∨ todo = some (st.head.next.target st.after)

theorem PathOk.step {s : State} {c h : Nat} {purpose : Purpose} {path visited open' : List Nat} {st : Step}
    {r : List Nat × Option Nat} (hok : PathOk s c purpose path (some h)) (hst : stepAt s.records h = some st)
    (hf : s.stepFault c h = none) (hw : walkNext purpose h st visited open' = .ok r)
    (hp : s.purposeFault purpose h st (placedItems s.records h) = none) :
    h < st.after ∧ PathOk s c purpose (path ++ List.range' h (st.after - h)) r.2 := by
  have hstructure : structureFault s.records h = none := by
    unfold State.stepFault at hf
    split at hf
    · cases hf
    · cases hf
    · next heq _ => exact heq
  obtain ⟨st', hst', hlt, hconts⟩ := stepAt_of_structure hstructure
  obtain rfl : st' = st := by rw [hst] at hst'; exact (Option.some.inj hst').symm
  have hhere : ∀ i ∈ List.range' h (st'.after - h), i = h ∨ ∃ is more, s.records.getD i .empty = .cont is more := by
    intro i hi
    obtain ⟨h1, h2⟩ := List.mem_range'_1.mp hi
    rcases Nat.eq_or_lt_of_le h1 with e | hlt'
    · exact .inl e.symm
    · exact .inr (hconts i hlt' (by omega))
  have hmem : h ∈ List.range' h (st'.after - h) := List.mem_range'_1.mpr ⟨Nat.le_refl h, by omega⟩
  have hnext := (walkNext_eq_ok hw).2.2
  refine ⟨hlt, fun i hi => ?_, fun i hi st hsti => ?_, fun i hi st hsti => ?_⟩
  · rcases List.mem_append.mp hi with hi | hi
    · exact hok.defined i hi
    · rcases hhere i hi with rfl | ⟨is, more, hr⟩
      · obtain ⟨hd, is, more, hr⟩ := stepAt_getD hst
        rw [State.record, hr]; simp
      · rw [State.record, hr]; simp
  · rcases List.mem_append.mp hi with hi | hi
    · exact hok.accepted i hi st hsti
    · rcases hhere i hi with rfl | ⟨is, more, hr⟩
      · obtain rfl : st' = st := by rw [hst] at hsti; exact Option.some.inj hsti
        exact s.accepted_of_checks hst hf hw hp
      · rw [stepAt_of_cont hr] at hsti; cases hsti
  · rcases List.mem_append.mp hi with hi | hi
    · rcases hok.closed i hi st hsti with he | hm | ht
      · exact .inl he
      · exact .inr (.inl (List.mem_append_left _ hm))
      · cases ht; exact .inr (.inl (List.mem_append_right _ hmem))
    · rcases hhere i hi with rfl | ⟨is, more, hr⟩
      · obtain rfl : st' = st := by rw [hst] at hsti; exact Option.some.inj hsti
        rcases hnext with hn | ⟨-, he⟩
        · exact .inr (.inr hn)
        · exact .inl he
      · rw [stepAt_of_cont hr] at hsti; cases hsti

theorem State.walkOn_eq_ok {s : State} {c : Nat} {purpose : Purpose} {n h : Nat} {visited open' path path' : List Nat}
    (hw : s.walkOn c purpose n h visited open' path = .ok path') (hok : PathOk s c purpose path (some h)) :
    h ∈ path' ∧ (∃ st, stepAt s.records h = some st) ∧ (∀ i ∈ path, i ∈ path') ∧ PathOk s c purpose path' none := by
  induction n generalizing h visited open' path with
  | zero => cases hw
  | succ n ih =>
    unfold State.walkOn at hw
    split at hw
    · cases hw
    · cases hw
    · next st hf hst =>
      split at hw
      · cases hw
      · next open'' next hnext =>
        split at hw
        · cases hw
        · next hp =>
          obtain ⟨hlt, hstep⟩ := hok.step hst hf hnext hp
          have hmem : h ∈ path ++ List.range' h (st.after - h) :=
            List.mem_append_right _ (List.mem_range'_1.mpr ⟨Nat.le_refl h, by omega⟩)
          cases next with
          | none =>
            cases hw
            exact ⟨hmem, ⟨st, hst⟩, fun i hi => List.mem_append_left _ hi, hstep⟩
          | some next =>
            obtain ⟨-, -, hsub, hpath⟩ := ih hw hstep
            exact ⟨hsub h hmem, ⟨st, hst⟩, fun i hi => hsub i (List.mem_append_left _ hi), hpath⟩

/-- A path that the walk accepts begins at its start, and is closed and runnable (R61 to R68). -/
theorem State.walk_eq_ok {s : State} {c start : Nat} {purpose : Purpose} {path : List Nat} (h : s.walk c purpose start = .ok path) :
    start ∈ path ∧ (∃ st, stepAt s.records start = some st) ∧ PathOk s c purpose path none := by
  have hnil : PathOk s c purpose [] (some start) :=
    ⟨fun _ h => absurd h List.not_mem_nil, fun _ h => absurd h List.not_mem_nil, fun _ h => absurd h List.not_mem_nil⟩
  obtain ⟨hstart, hst, -, hok⟩ := s.walkOn_eq_ok h hnil
  exact ⟨hstart, hst, hok⟩

theorem State.lt_of_record {s : State} (hsize : s.sizes = partSizes) {i : Nat} (h : s.record i ≠ .empty) : i < 2048 := by
  have hlen : s.records.length = 2048 := by
    simp only [State.sizes, partSizes, List.cons.injEq] at hsize
    exact hsize.2.2.1
  by_contra hi
  exact h (by rw [State.record, List.getD_eq_default _ _ (by omega)])

/-- A start that is no HEAD fails the first check of the walk (R63). -/
theorem State.walk_of_not_head {s : State} {c start : Nat} {purpose : Purpose} (h : stepAt s.records start = none) :
    s.walk c purpose start = .error { reason := .notHead, record := start, slot := none } := by
  have hfault : s.stepFault c start = some { reason := .notHead, record := start, slot := none } := by
    have hstructure : structureFault s.records start = some { reason := .notHead, record := start, slot := none } := by
      unfold structureFault
      split
      · next hd is more heq => unfold stepAt at h; rw [heq] at h; cases h
      · rfl
    unfold State.stepFault
    rw [hstructure]
  unfold State.walk State.walkOn
  rw [hfault]

/-- A rest path at a LOOP_END has no level to close (R64; that R64 is asked before R68 is log 15). -/
theorem State.walk_of_loopEnd {s : State} {c start : Nat} {purpose : Purpose} {st : Step} (hst : stepAt s.records start = some st)
    (hk : st.head.kind = .loopEnd) (hf : s.stepFault c start = none) :
    s.walk c purpose start = .error { reason := .loopUnbalanced, record := start, slot := none } := by
  unfold State.walk State.walkOn
  rw [hf, hst]
  simp [walkNext, walkLoops, hk]

/-- Settles O9: the work keeps the job law (`step_jobsLaw`), no command writes a held record (`exec_record`), and each check of the walk
says its part of the path (`State.walk_eq_ok`). -/
theorem heldRecordsNeverChange : Obligations.HeldRecordsNeverChange := by
  refine ⟨fun c s t i => exec_record, fun s t hsize hj h => ?_, fun s c start purpose path hsize hw => ?_, fun s c start purpose => s.walk_of_not_head,
    fun s c start purpose st _ => s.walk_of_loopEnd⟩
  · rw [State.sized_iff] at hsize
    have ht := step_jobsLaw ((State.jobsLaw_iff hsize).mp hj) h
    exact (State.jobsLaw_iff ht.sizes).mpr ht
  · rw [State.sized_iff] at hsize
    obtain ⟨hstart, hst, hok⟩ := s.walk_eq_ok hw
    refine ⟨hstart, hst, fun i hi => ⟨s.lt_of_record hsize (hok.defined i hi), hok.defined i hi⟩, fun h hh st hst => ?_⟩
    obtain ⟨hkind, ⟨hnodup, hsets, hbands, hends⟩, hitems, ⟨hgate, hgroup⟩, hrules, hjob, hhandler⟩ := hok.accepted h hh st hst
    refine ⟨fun x hx => s.drives_of_itemReason (hitems _ (Step.mem_sets.mp hx)),
      fun b hb => s.reads_of_band (hitems _ (Step.mem_bands.mp hb)), fun e he => (s.reads_of_end (hitems _ (Step.mem_ends.mp he))).1,
      fun p v he => (s.reads_of_end (hitems _ (Step.mem_ends.mp he))).2 p v rfl, hnodup, hsets, hbands, hends, hkind.watches, hkind.sets,
      hkind.times, hgate, hgroup, hjob, hhandler, hrules.emergency, hrules.rest, hrules.cold, fun hr h1 h2 h3 h4 => ?_⟩
    rcases hok.closed h hh st hst with (he | he | he | he | he) | hm | hm
    · rw [hr] at he; cases he
    · exact absurd he h1
    · exact absurd he h2
    · exact absurd he h3
    · exact absurd he h4
    · exact hm
    · cases hm

end Sys2Proof.Machine
end

section
/-!
The machine's commands as a whole: every command answers a next state, leaves the queue of commands, the straps and no work of its event
behind, and moves the part time by its interval (R1); and what RESET gives.
-/
namespace Sys2Proof.Machine

/-! ### Every command answers -/

theorem State.arrive_next (s : State) (p : Port) (f : Frame) : ∃ t, s.arrive p f = .next t := by
  cases p with
  | u => exact s.arriveU_next _ _
  | d => exact ⟨_, rfl⟩

/-- No command faults, and none is refused: an event answers by its definition, a frame by its passage. -/
theorem exec_next (i : Instr) (s : State) : ∃ t, exec i s = .next t := by
  cases i with
  | processFrameOutbound dt f | mailboxHolderFull dt f => exact State.arrive_next _ .u f
  | processFrameReturn dt f | mailboxFrameReturn dt f => exact State.arrive_next _ .d f
  | otherFrame dt port f | badCheckArrival dt port f => exact State.arrive_next _ port f
  | reset => exact ⟨_, rfl⟩
  | loadCompletion | storeCompletion | gapTimerExpiry | holderTimerExpiry | rampEnd | autoParkExpiry | wakeDelayExpiry | timeExpiry
    | rampCompletion | maxTimeExpiry | strikeWindowExpiry | settleExpiry | measureExpiry | admitTimeoutExpiry | motionTimerExpiry =>
    exact ⟨_, rfl⟩
  | _ => exact State.arriveU_next _ _ _

/-! ### The queue of commands, the straps and the part time -/

/-- What no command but RESET touches beyond its interval. -/
def State.bearings (s : State) : List Instr × Byte × Time := (s.pending, s.straps, s.now)

theorem Works.bearings {s t : State} (h : Works s t) : t.bearings = s.bearings := by
  induction h with
  | refl => rfl
  | report _ c st tag b ih => rw [← ih, State.bearings, State.report_pending, State.report_straps, State.report_now]; rfl
  | _ => assumption

theorem Acts.bearings {s t : State} (h : Acts s t) : t.bearings = s.bearings := by
  induction h with
  | refl => rfl
  | works _ k ih => exact k.bearings.trans ih
  | _ => assumption

/-! ### No work is left -/

theorem Request.run_agenda {q : Request} {s : State} (h : s.agenda = []) : (q.run s).1.agenda = [] := by
  unfold Request.run
  split
  · exact h
  · exact State.settle_agenda _

theorem State.perform_agenda {s : State} (m : Mailbox) (q : Request) (h : s.agenda = []) : (s.perform m q).agenda = [] := by
  unfold State.perform
  split
  · exact (State.holdResponse_agenda ..).trans (Request.run_agenda h)
  · exact (State.holdResponse_agenda ..).trans h

theorem State.executeSpelled_agenda {s : State} (f : Frame) (h : s.agenda = []) : (s.executeSpelled f).agenda = [] := by
  unfold State.executeSpelled
  dsimp only
  split
  · exact State.perform_agenda _ _ h
  · exact (State.holdResponse_agenda ..).trans h

theorem State.execute_agenda {s : State} (m : Mailbox) (q : Option Request) (h : s.agenda = []) : (s.execute m q).agenda = [] := by
  unfold State.execute
  split
  · exact (State.holdResponse_agenda ..).trans h
  · split
    · split
      · exact State.perform_agenda _ _ h
      · exact State.executeSpelled_agenda _ h
    · exact State.executeSpelled_agenda _ h

theorem State.arriveU_agenda {s t : State} {m : Mailbox} {q : Option Request} (h : s.agenda = []) (ht : s.arriveU m q = .next t) :
    t.agenda = [] := by
  unfold State.arriveU at ht
  dsimp only at ht
  split at ht
  · split at ht
    · cases ht; exact (State.forward_agenda ..).trans h
    · cases ht; exact State.settle_agenda _
    · cases ht
      split
      · exact (State.forward_agenda ..).trans h
      · exact State.execute_agenda _ _ h
  · cases ht; exact (State.forward_agenda ..).trans h

theorem State.revalidate_agenda {s : State} {c : Nat} (hcl : s.Cleared c) : (s.revalidate c).agenda = s.agenda := by
  by_cases hs : (s.ctx c).state = .offline
  · rw [State.revalidate_of_offline hs]
  · cases hv : s.validate c (s.ctx c).cfg with
    | error e => rw [State.revalidate_of_error hs hv]; rfl
    | ok r =>
      rw [State.revalidate_of_ok hcl hs hv]
      change (s.applyRest c (s.ctx c).cfg.idleStep).agenda = s.agenda
      rw [State.applyRest_only]

/-- What the revalidations of cleared contexts keep each, they keep together. -/
theorem State.revalidateAll_induction {P : State → Prop} (hP : ∀ s c, s.Cleared c → P s → P (s.revalidate c)) {cs : List Nat}
    (hn : cs.Nodup) {s : State} (hcl : ∀ c ∈ cs, s.Cleared c) (hs : P s) : P (cs.foldl State.revalidate s) := by
  induction cs generalizing s with
  | nil => exact hs
  | cons c cs ih =>
    obtain ⟨hc, hn⟩ := List.nodup_cons.mp hn
    refine ih hn (fun d hd => ?_) (hP s c (hcl c (by simp)) hs)
    exact .revalidate (hcl c (by simp)) (hcl d (by simp [hd])) fun e => hc (e ▸ hd)

/-- What the soft reset's tables keep and each revalidation keeps, the soft reset keeps. -/
theorem State.softReset_induction {P : State → Prop} {s : State} (hs : P s.softResetTables)
    (hP : ∀ u c, u.Cleared c → P u → P (u.revalidate c)) : P s.softReset :=
  State.revalidateAll_induction hP List.nodup_range (fun c _ => s.cleared_softResetTables c) hs

theorem State.softReset_agenda (s : State) : s.softReset.agenda = s.agenda :=
  State.softReset_induction (P := fun u => u.agenda = s.agenda) rfl fun _ _ hcl hu => (State.revalidate_agenda hcl).trans hu

theorem State.emptyHolder_agenda (s : State) (h : Held) : (s.emptyHolder h).agenda = s.agenda := by
  unfold State.emptyHolder
  dsimp only
  split
  · exact State.softReset_agenda _
  · rfl

theorem State.mailboxReturn_agenda (s : State) (f : Frame) : (s.mailboxReturn f).agenda = s.agenda := by
  unfold State.mailboxReturn
  split
  · split
    · exact State.emptyHolder_agenda ..
    · rfl
  · rfl

theorem State.arriveD_agenda {s : State} (f : Frame) (h : s.agenda = []) : (s.arriveD f).agenda = [] := by
  unfold State.arriveD
  dsimp only
  split
  · split
    · exact (State.forward_agenda ..).trans h
    · exact State.settle_agenda _
    · exact (State.mailboxReturn_agenda ..).trans h
  · exact (State.forward_agenda ..).trans h

theorem State.arrive_agenda {s t : State} {p : Port} {f : Frame} (h : s.agenda = []) (ht : s.arrive p f = .next t) : t.agenda = [] := by
  cases p with
  | u => exact State.arriveU_agenda h ht
  | d => cases ht; exact State.arriveD_agenda f h

theorem State.settleExpiry_agenda (s : State) (c : Nat) : (s.settleExpiry c).agenda = s.agenda := by
  unfold State.settleExpiry State.afterReading
  split
  · rfl
  · split
    · split <;> rfl
    · rfl

theorem State.holderExpiry_agenda (s : State) : s.holderExpiry.agenda = s.agenda := by
  unfold State.holderExpiry
  split
  · split
    · exact State.emptyHolder_agenda ..
    · rfl
  · rfl

/-- No command leaves work behind (log 10): its event is settled, or makes none. -/
theorem exec_agenda {i : Instr} {s t : State} (hs : s.agenda = []) (h : exec i s = .next t) : t.agenda = [] := by
  have ha : ∀ dt, (s.advance dt).agenda = [] := fun _ => hs
  cases i with
  | processFrameOutbound dt f | mailboxHolderFull dt f => exact State.arrive_agenda (p := .u) (ha dt) h
  | processFrameReturn dt f | mailboxFrameReturn dt f => exact State.arrive_agenda (p := .d) (ha dt) h
  | otherFrame dt port f | badCheckArrival dt port f => exact State.arrive_agenda (ha dt) h
  | reset => cases h; rfl
  | loadCompletion dt page => cases h; split <;> exact ha dt
  | storeCompletion dt answered =>
    cases h
    unfold State.endStore
    split
    · split <;> exact ha dt
    · exact ha dt
  | gapTimerExpiry dt | autoParkExpiry dt c | wakeDelayExpiry dt c =>
    cases h
    split
    · exact State.settle_agenda _
    · exact ha dt
  | holderTimerExpiry dt => cases h; exact (State.holderExpiry_agenda _).trans (ha dt)
  | settleExpiry dt c => cases h; exact (State.settleExpiry_agenda ..).trans (ha dt)
  | rampEnd | timeExpiry | rampCompletion | maxTimeExpiry | strikeWindowExpiry | measureExpiry | admitTimeoutExpiry
    | motionTimerExpiry => cases h; exact State.settle_agenda _
  | _ => exact State.arriveU_agenda (ha _) h

/-- Settles O1: a step takes the front command by its definition. -/
theorem stepRunsFrontCommand : Obligations.StepRunsFrontCommand := ⟨fun _ _ _ => rfl, fun _ => rfl⟩

/-- Settles O2: `exec_next`, `Acts.bearings` and `exec_agenda`. -/
theorem commandsAnswerAndTimeRunsOn : Obligations.CommandsAnswerAndTimeRunsOn := by
  refine ⟨exec_next, fun c s t h => ?_, fun c s t => exec_agenda⟩
  by_cases hc : c = .reset
  · subst hc
    cases h
    exact ⟨rfl, rfl, fun hne => absurd rfl hne, fun _ => rfl⟩
  · have hb := (exec_acts hc h).bearings
    simp only [State.bearings, Prod.mk.injEq] at hb
    obtain ⟨hpending, hstraps, hnow⟩ := hb
    exact ⟨hpending, hstraps, fun _ => hnow, fun he => absurd he hc⟩

/-! ### RESET -/

/-- An entry of a table of equal entries, or past its end. -/
theorem getD_replicate_self {α : Type} (n i : Nat) (x : α) : (List.replicate n x).getD i x = x := by
  rw [List.getD_eq_getElem?_getD, List.getElem?_replicate]
  split <;> rfl

/-- Settles O3: the reset state by its definition, and the laws where the step lemmas begin. -/
theorem resetMeetsTheLaws : Obligations.ResetMeetsTheLaws := by
  refine ⟨fun s => rfl, fun straps => ?_⟩
  have hsize := State.sizes_resetWith straps
  obtain ⟨hbudget, hplant⟩ := (State.plant_iff hsize).mpr (State.plant_resetWith straps)
  have hctx : ∀ c, (State.resetWith straps).ctx c = Ctx.reset := fun c => getD_replicate_self ..
  have hall : ∀ Q : Ctx → Bool, Q Ctx.reset = true → (State.resetWith straps).ctxs.all Q = true := fun Q hQ =>
    List.all_eq_true.mpr fun x hx => List.eq_of_mem_replicate hx ▸ hQ
  refine ⟨(State.sized_iff _).mpr hsize, (State.bounded_iff _).mpr (State.bounds_resetWith straps), rfl, hbudget, hall _ rfl, rfl,
    hall _ rfl, ?_, hplant, (State.jobsLaw_iff hsize).mpr (State.jobsLaw_resetWith straps), rfl, rfl, rfl, rfl, rfl,
    fun p => getD_replicate_self .., fun n => getD_replicate_self .., fun i => ⟨getD_replicate_self .., getD_replicate_self ..⟩,
    fun c => by rw [hctx]; exact ⟨rfl, rfl, rfl, rfl, rfl, rfl, rfl, rfl, rfl, rfl, rfl, rfl, rfl, rfl, rfl, rfl⟩,
    fun l => getD_replicate_self .., fun g => getD_replicate_self .., rfl, fun g => getD_replicate_self .., rfl, rfl,
    fun n => getD_replicate_self ..⟩
  rw [State.hotUnforced_iff]
  intro p hp
  rw [List.eq_of_mem_replicate hp]
  rfl

end Sys2Proof.Machine
end

section
/-!
Frames at the two ports (R2 to R5, R14 to R17), the mailbox holder (R15, R16), and the identity page (R184, R187, R188).
-/
namespace Sys2Proof.Machine

/-! ### The passage of a frame, by its class -/

section
variable {s : State} {dt : Nat} {f : Frame}

theorem State.arrive_of_bad (p : Port) (h : goodCheck f = false) : (s.advance dt).arrive p f = .next ((s.advance dt).badArrival p f) := by
  cases p <;> simp [State.arrive, State.arriveU, State.arriveD, bareOf, h]

theorem State.arriveU_of_other (h : goodCheck f = true) (hc : classify s.inUse.address f = .other) :
    (s.advance dt).arrive .u f = .next ((((s.advance dt).goodArrival).count 50).sendD f) := by
  have hc' : classify (s.advance dt).goodArrival.inUse.address f = .other := hc
  simp only [State.arrive, State.arriveU, bareOf, h, if_true, hc']
  rfl

theorem State.arriveD_of_other (h : goodCheck f = true) (hc : classify s.inUse.address f = .other) :
    (s.advance dt).arrive .d f = .next (((s.advance dt).goodArrival).sendU f) := by
  have hc' : classify (s.advance dt).goodArrival.inUse.address f = .other := hc
  simp only [State.arrive, State.arriveD, h, if_true, hc']
  rfl

theorem State.arriveU_of_process {image : Nat} (h : goodCheck f = true) (hc : classify s.inUse.address f = .process image) :
    (s.advance dt).arrive .u f = .next (((s.advance dt).goodArrival.processOutbound image f).settle) := by
  have hc' : classify (s.advance dt).goodArrival.inUse.address f = .process image := hc
  simp only [State.arrive, State.arriveU, bareOf, h, if_true, hc']

theorem State.arriveD_of_process {image : Nat} (h : goodCheck f = true) (hc : classify s.inUse.address f = .process image) :
    (s.advance dt).arrive .d f = .next (((s.advance dt).goodArrival.processReturn image f).settle) := by
  have hc' : classify (s.advance dt).goodArrival.inUse.address f = .process image := hc
  simp only [State.arrive, State.arriveD, h, if_true, hc']

/-- A mailbox frame that meets a FULL holder or the config load goes on unexecuted (R14, R17). -/
theorem State.arriveU_of_held (h : goodCheck f = true) (hc : classify s.inUse.address f = .mailbox)
    (hheld : s.holder.isSome = true ∨ s.loader.state = .loading) : (s.advance dt).arrive .u f = .next ((s.arrived dt).sendD f) := by
  have hc' : classify (s.advance dt).goodArrival.inUse.address f = .mailbox := hc
  have hheld' : (s.arrived dt).holder.isSome = true ∨ (s.arrived dt).loader.state = .loading := hheld
  simp only [State.arrive, State.arriveU, bareOf, h, if_true, hc']
  exact congrArg Host.Outcome.next (if_pos hheld')

theorem State.arriveD_of_mailbox (h : goodCheck f = true) (hc : classify s.inUse.address f = .mailbox) :
    (s.advance dt).arrive .d f = .next ((s.advance dt).goodArrival.mailboxReturn f) := by
  have hc' : classify (s.advance dt).goodArrival.inUse.address f = .mailbox := hc
  simp only [State.arrive, State.arriveD, h, if_true, hc']

end

/-- Settles O14: a bad frame at either port takes the one path that reads nothing of it. -/
theorem badFramesPassUnread : Obligations.BadFramesPassUnread := by
  intro s dt f h
  exact ⟨State.arrive_of_bad .u h, State.arrive_of_bad .d h, State.arrive_of_bad .u h, State.arrive_of_bad .d h, State.arrive_of_bad .d h,
    State.arrive_of_bad .u h⟩

/-- Settles O15: the passage by class. -/
theorem goodFramesPassOn : Obligations.GoodFramesPassOn :=
  ⟨fun _ _ _ h hc => ⟨State.arriveU_of_other h hc, State.arriveD_of_other h hc⟩, fun _ _ _ h hc hheld => State.arriveU_of_held h hc hheld⟩

/-! ### The mailbox holder -/

theorem State.emptyHolder_of_soft {s : State} {h : Held} (hs : h.softReset = true) :
    s.emptyHolder h = { s with holder := none }.softReset := by simp [State.emptyHolder, hs]

theorem State.emptyHolder_of_not_soft {s : State} {h : Held} (hs : h.softReset = false) :
    s.emptyHolder h = { s with holder := none } := by simp [State.emptyHolder, hs]

theorem State.mailboxReturn_of_tag {s : State} {f : Frame} {h : Held} (hh : s.holder = some h) (ht : h.tag = requestTag f) :
    s.mailboxReturn f = (s.sendU (writeResponse f h.response)).emptyHolder h := by simp [State.mailboxReturn, hh, ht]

theorem State.mailboxReturn_of_not_tag {s : State} {f : Frame} (ht : ∀ h, s.holder = some h → h.tag ≠ requestTag f) :
    s.mailboxReturn f = s.sendU (writeResponse f busy) := by
  unfold State.mailboxReturn
  split
  · next h hh => rw [if_neg (ht h hh)]
  · rfl

/-- Settles O18: the return pass asks the holder's tag, and the holder empties by its own rule. -/
theorem mailboxReturnAnswers : Obligations.MailboxReturnAnswers := by
  refine ⟨fun s dt f hgood hclass => ?_, fun s t dt f hbad ht => ?_⟩
  · have hexec : exec (.mailboxFrameReturn dt f) s = .next ((s.advance dt).goodArrival.mailboxReturn f) :=
      State.arriveD_of_mailbox hgood hclass
    refine ⟨fun h hh ht hs => ?_, fun h hh ht hs => ?_, fun ht => ?_, fun r => goodCheck_reform _, rfl, rfl⟩
    · rw [hexec, State.mailboxReturn_of_tag (s := (s.advance dt).goodArrival) hh ht, State.emptyHolder_of_not_soft hs]; rfl
    · rw [hexec, State.mailboxReturn_of_tag (s := (s.advance dt).goodArrival) hh ht, State.emptyHolder_of_soft hs]; rfl
    · rw [hexec, State.mailboxReturn_of_not_tag (s := (s.advance dt).goodArrival) ht]; rfl
  · have hexec : exec (.mailboxFrameReturn dt f) s = .next ((s.advance dt).badArrival .d f) := State.arrive_of_bad .d hbad
    rw [hexec] at ht
    cases ht
    exact ⟨rfl, rfl⟩

/-- Settles O19: the holder's timer asks its own time, and the holder empties by its own rule. -/
theorem holderTimerEmptiesTheHolder : Obligations.HolderTimerEmptiesTheHolder := by
  intro s dt h hh
  have hh' : (s.advance dt).holder = some h := hh
  have hexec : exec (.holderTimerExpiry dt) s =
      .next (if h.timer.reached (s.advance dt).now then (s.advance dt).emptyHolder h else s.advance dt) := by
    change Host.Outcome.next (s.advance dt).holderExpiry = _
    simp only [State.holderExpiry, hh']
  refine ⟨fun hdue hs => ?_, fun hdue hs => ?_, fun hdue => ?_⟩
  · rw [hexec, if_pos hdue, State.emptyHolder_of_not_soft hs]
  · rw [hexec, if_pos hdue, State.emptyHolder_of_soft hs]
  · rw [hexec, hdue]; rfl

/-! ### The load and the store -/

theorem wholePage_of_length {bs : List Byte} (h : bs.length = 32) : wholePage bs = bs := by
  rw [wholePage, List.take_append_of_le_length (by omega), List.take_of_length_le (by omega)]

/-- Settles O12: the load's own definition, in LOADING alone. -/
theorem loadCompletes : Obligations.LoadCompletes := by
  intro s dt page
  refine ⟨fun hload => ⟨(s.advance dt).endLoad page, ?_, rfl, rfl, rfl, fun bs hbs hlen => ?_, fun hnone => ?_, rfl, rfl, rfl⟩, fun hload => ?_⟩
  · exact congrArg Host.Outcome.next (if_pos hload)
  · subst hbs
    exact wholePage_of_length hlen
  · subst hnone; rfl
  · exact congrArg Host.Outcome.next (if_neg hload)

/-- A request that carries fields, of which the manual lays out no more than their presence (log 2). -/
structure Request.Fielded (q : Request) : Prop where
  code : fieldless q.code = false
  least : q.least ≤ 1

section
variable {s : State} {dt : Nat} {m : Mailbox} {q : Request}

theorem Request.Fielded.bodyHeld (hq : q.Fielded) (h : s.executes m q.code = true) : q.bodyHeld m = true :=
  Request.bodyHeld_of_executes q s m h hq.code hq.least

theorem Request.Fielded.ne_softReset (hq : q.Fielded) : q.code ≠ softResetCode := fun h => by
  have := hq.code
  simp [fieldless, h] at this

/-- An executed request of fields that its check passes. -/
theorem Request.Fielded.passes (hq : q.Fielded) (h : s.executes m q.code = true) (hc : q.counted = true)
    (hp : q.check (s.arrived dt) = none) :
    (s.advance dt).arriveU m (some q) =
      .next ((q.effect (s.arrived dt)).settle.answered m (q.respond (s.arrived dt) (q.effect (s.arrived dt)).settle)) :=
  State.arriveU_of_passes h (hq.bodyHeld h) hc hq.ne_softReset hp

/-- An executed request of fields that its check passes and that leaves no work behind. -/
theorem Request.Fielded.passes_of_nil (hq : q.Fielded) (h : s.executes m q.code = true) (hc : q.counted = true)
    (hp : q.check (s.arrived dt) = none) (hn : (q.effect (s.arrived dt)).agenda = []) :
    (s.advance dt).arriveU m (some q) =
      .next ((q.effect (s.arrived dt)).answered m (q.respond (s.arrived dt) (q.effect (s.arrived dt)))) :=
  State.arriveU_of_passes_of_nil h (hq.bodyHeld h) hc hq.ne_softReset hp hn

/-- An executed request of fields that its check refuses. -/
theorem Request.Fielded.refused {r : Response} (hq : q.Fielded) (h : s.executes m q.code = true) (hc : q.counted = true)
    (hr : q.check (s.arrived dt) = some r) : (s.advance dt).arriveU m (some q) = .next ((s.arrived dt).answered m r) :=
  State.arriveU_of_refused h (hq.bodyHeld h) hc hq.ne_softReset hr

end

theorem refuseIf_true (r : Response) : refuseIf true r = some r := rfl

theorem refuseIf_false (r : Response) : refuseIf false r = none := rfl

theorem firstRefusal_some (r : Response) (checks : List (Option Response)) : firstRefusal (some r :: checks) = some r := rfl

theorem firstRefusal_none (checks : List (Option Response)) : firstRefusal (none :: checks) = firstRefusal checks := rfl

theorem firstRefusal_nil : firstRefusal [] = none := rfl

/-- Fields that are all in range are no fault. -/
theorem fieldFault_of_all {subject : Option Nat} {oks : List Bool} (h : ∀ b ∈ oks, b = true) : fieldFault subject oks = none := by
  have hnone : oks.findIdx? (!·) = none := by simpa [List.findIdx?_eq_none_iff] using h
  rw [fieldFault, firstFailing, hnone]; rfl

/-- The first field out of range is the fault. -/
theorem fieldFault_of_first {subject : Option Nat} {oks : List Bool} {k : Nat} (hk : oks[k]? = some false)
    (hbefore : ∀ j, j < k → oks[j]? = some true) : fieldFault subject oks = some (refusal .outOfRange subject (some k)) := by
  have hlt : k < oks.length := (List.getElem?_eq_some_iff.mp hk).1
  have hfirst : oks.findIdx? (!·) = some k := by
    rw [List.findIdx?_eq_some_iff_getElem]
    refine ⟨hlt, by simpa [List.getElem?_eq_getElem hlt] using hk, fun j hj => ?_⟩
    have := hbefore j hj
    rw [List.getElem?_eq_getElem (by omega)] at this
    simp [Option.some.inj this]
  rw [fieldFault, firstFailing, hfirst]; rfl

theorem storeConfigRequest_fielded (f : PageFields) : (storeConfigRequest f).Fielded := ⟨rfl, Nat.le_refl 1⟩

/-- The fields of a page are read back from its bytes (R187). -/
theorem pageFields_pageBytes {f : PageFields} (ha : f.address ≤ 254) (hp : f.period ≤ 3) (hn : f.nGap ≤ 15) (ho : f.offset ≤ 1344)
    (hv : f.override ≤ 1) : pageFields (pageBytes f) = f := by
  have ha' : f.address % 256 ^ 1 = f.address := Nat.mod_eq_of_lt (by omega)
  have hp' : f.period % 256 ^ 1 = f.period := Nat.mod_eq_of_lt (by omega)
  have hn' : f.nGap % 256 ^ 1 = f.nGap := Nat.mod_eq_of_lt (by omega)
  have ho' : f.offset % 256 ^ 2 = f.offset := Nat.mod_eq_of_lt (by omega)
  have hv' : f.override % 256 ^ 1 = f.override := Nat.mod_eq_of_lt (by omega)
  simp only [pageFields, pageBytes, byteAt_eq_leAt, List.append_assoc, leAt_behind, leAt_leBytes, Nat.le_refl, Nat.reduceLeDiff,
    Nat.reduceSub, ha', hp', hn', ho', hv']

/-- Settles O13: STORE_CONFIG's checks are the loader's state and the rows of Table 10-4, and its completion the loader's own. -/
theorem storeBeginsAndCompletes : Obligations.StoreBeginsAndCompletes := by
  refine ⟨fun s dt m f => ?_, fun f ha hp hn ho hv => ⟨by simp [pageBytes], pageFields_pageBytes ha hp hn ho hv, fun k h6 h32 => ?_⟩⟩
  · have hrange : ([decide (1 ≤ f.address ∧ f.address ≤ 254), decide (f.period ≤ 3), decide (2 ≤ f.nGap ∧ f.nGap ≤ 15),
        decide (f.offset ≤ 1344), decide (f.override ≤ 1)] : List Bool) = pageChecks f := by
      simp only [pageChecks, within, Bool.decide_and]
    intro inRange
    have hin : inRange = pageChecks f := hrange
    have hexec : exec (.storeConfig dt m f) s = (s.advance dt).arriveU m (some (storeConfigRequest f)) := rfl
    have hcheck : (storeConfigRequest f).check (s.arrived dt) =
        firstRefusal [refuseIf (s.loader.state == .storing) (refusal .busy none none), fieldFault none (pageChecks f)] := rfl
    refine ⟨fun h hagenda hready hall => ?_, fun k h hready hk hbefore => ?_, fun h hstoring => ?_, fun hstoring => ?_, fun hstoring => ?_⟩
    · refine (storeConfigRequest_fielded f).passes_of_nil h rfl ?_ hagenda
      have hok : ∀ b ∈ pageChecks f, b = true := fun b hb => by
        obtain ⟨k, hk⟩ := List.mem_iff_getElem?.mp hb
        have hlt : k < 5 := (List.getElem?_eq_some_iff.mp hk).1
        have := hall k hlt
        rw [hin, hk] at this
        exact Option.some.inj this
      rw [hcheck, hready, fieldFault_of_all hok]; rfl
    · refine (storeConfigRequest_fielded f).refused h rfl ?_
      rw [hin] at hk hbefore
      rw [hcheck, hready, fieldFault_of_first hk hbefore]; rfl
    · refine (storeConfigRequest_fielded f).refused h rfl ?_
      rw [hcheck, hstoring]; rfl
    · exact congrArg Host.Outcome.next (if_pos hstoring)
    · exact congrArg Host.Outcome.next (if_pos hstoring)
  · rw [pageBytes, List.getElem?_append_right (by simpa using h6), List.getElem?_replicate]
    simp; omega

end Sys2Proof.Machine
end

section
/-!
Setpoint records (R24, R25), scaling and saturation (R26, R27, R30), collections (R28 to R31) and touch bytes (R43 to R47).
-/
namespace Sys2Proof.Machine

/-! ### Shares of a difference, truncated toward zero -/

/-- A share e/d of a difference lies between 0 and the difference. -/
theorem tdiv_share_bounds (a : Int) {e d : Nat} (hd : 0 < d) (he : e ≤ d) : min 0 a ≤ (a * e).tdiv d ∧ (a * e).tdiv d ≤ max 0 a := by
  have hnat : ∀ n : Nat, ∃ k : Nat, k ≤ n ∧ ((n : Int) * e).tdiv d = k := fun n => by
    refine ⟨n * e / d, ?_, by rw [← Int.natCast_mul, ← Int.ofNat_tdiv]⟩
    rw [Nat.div_le_iff_le_mul_add_pred hd]
    have := Nat.mul_le_mul_left n he
    rw [Nat.mul_comm d n]; omega
  rcases Int.le_total 0 a with ha | ha
  · obtain ⟨n, rfl⟩ := Int.eq_ofNat_of_zero_le ha
    obtain ⟨k, hk, heq⟩ := hnat n
    rw [heq]; omega
  · obtain ⟨n, hn⟩ := Int.eq_ofNat_of_zero_le (Int.neg_nonneg_of_nonpos ha)
    obtain rfl : a = -(n : Int) := by omega
    obtain ⟨k, hk, heq⟩ := hnat n
    rw [Int.neg_mul, Int.neg_tdiv, heq]; omega

/-! ### Ramps (R24, R25) -/

section
variable (r : SetRec) (now : Time)

theorem SetRec.rampValue_of_end (h : r.d = 0 ∨ r.d ≤ (now - r.r).toNat) : r.rampValue now = r.t := if_pos h

theorem SetRec.rampValue_of_run (h : ¬ (r.d = 0 ∨ r.d ≤ (now - r.r).toNat)) :
    r.rampValue now = ((r.s : Int) + (((r.t : Int) - r.s) * ((now - r.r).toNat : Nat)).tdiv r.d).toNat := if_neg h

theorem SetRec.rampValue_between : min r.s r.t ≤ r.rampValue now ∧ r.rampValue now ≤ max r.s r.t := by
  by_cases h : r.d = 0 ∨ r.d ≤ (now - r.r).toNat
  · rw [r.rampValue_of_end now h]; omega
  · have hb := tdiv_share_bounds ((r.t : Int) - r.s) (e := (now - r.r).toNat) (d := r.d) (by omega) (by omega)
    rw [r.rampValue_of_run now h]; omega

theorem SetRec.rampValue_start (h : 0 < r.d) : r.rampValue r.r = r.s := by
  rw [r.rampValue_of_run r.r (by simp; omega)]
  simp

end

/-- Settles O22: the ramp's two cases, and a retarget as a ramp that starts at the value reached. -/
theorem rampsRunFromValueReached : Obligations.RampsRunFromValueReached := by
  intro r now
  exact ⟨(r.rampValue_between now).1, (r.rampValue_between now).2, r.rampValue_start, fun h => r.rampValue_of_end now (.inr h),
    fun t d hd => (r.retarget now t d).rampValue_start hd, fun t now' => (r.retarget now t 0).rampValue_of_end now' (.inl rfl)⟩

/-! ### Scaling (R26, R30) -/

section
variable (cfg : PointCfg)

theorem PointCfg.stampOf_eq (v : Nat) : cfg.stampOf v = (min (cfg.rawOf v) cfg.rawFull, decide (cfg.rawFull < cfg.rawOf v)) := by
  unfold PointCfg.stampOf
  split
  · next h => rw [Nat.min_eq_right (Nat.le_of_lt h), decide_eq_true h]
  · next h => rw [Nat.min_eq_left (Nat.le_of_not_lt h), decide_eq_false h]

theorem PointCfg.rawOf_mono {v w : Nat} (h : v ≤ w) : cfg.rawOf v ≤ cfg.rawOf w :=
  Nat.div_le_div_right (Nat.add_le_add_right (Nat.mul_le_mul_right _ (Nat.mul_le_mul_right _ h)) _)

/-- Without a gas factor the raw count at eng_full is raw_full. -/
theorem PointCfg.rawOf_engFull (hfull : 0 < cfg.engFull) (hgas : cfg.gas = 1000) : cfg.rawOf cfg.engFull = cfg.rawFull := by
  have hpos : 0 < cfg.engFull * 1000 := by omega
  rw [PointCfg.rawOf, hgas, Nat.mul_right_comm, Nat.add_comm, Nat.add_mul_div_left _ _ hpos,
    Nat.div_eq_of_lt (Nat.div_lt_self hpos (by decide)), Nat.zero_add]

theorem Sample.filter_of_taken (st : Sample) (eng : Nat) (h : cfg.quantity = .digital ∨ st.stale = true) : st.filter cfg eng = eng :=
  if_pos h

theorem Sample.filter_of_filtered (st : Sample) (eng : Nat) (h : ¬ (cfg.quantity = .digital ∨ st.stale = true)) :
    st.filter cfg eng = ((st.f : Int) + ((eng : Int) - st.f).tdiv (2 ^ cfg.shift)).toNat := if_neg h

theorem Sample.filter_between (st : Sample) (eng : Nat) : min st.f eng ≤ st.filter cfg eng ∧ st.filter cfg eng ≤ max st.f eng := by
  by_cases h : cfg.quantity = .digital ∨ st.stale = true
  · rw [Sample.filter_of_taken cfg st eng h]; omega
  · have hb := tdiv_share_bounds ((eng : Int) - st.f) (e := 1) (d := 2 ^ cfg.shift) (Nat.two_pow_pos _) (Nat.two_pow_pos _)
    rw [Nat.cast_one, Int.mul_one, Nat.cast_pow, Nat.cast_ofNat] at hb
    rw [Sample.filter_of_filtered cfg st eng h]; omega

theorem Sample.filter_self (st : Sample) (eng : Nat) (h : cfg.shift = 0 ∨ cfg.quantity = .digital ∨ st.stale = true) :
    st.filter cfg eng = eng := by
  by_cases hq : cfg.quantity = .digital ∨ st.stale = true
  · exact Sample.filter_of_taken cfg st eng hq
  · have hshift := h.resolve_right hq
    rw [Sample.filter_of_filtered cfg st eng hq, hshift, pow_zero, Int.tdiv_one]
    omega

end

/-! ### Saturation (R27) -/

theorem State.counter_count_self {s : State} {n : Nat} (h : n < s.counters.length) : (s.count n).counter n = (s.counter n).count := by
  simp [State.counter, State.count, List.getD, h]

theorem State.counter_count_of_ne (s : State) {n k : Nat} (h : n ≠ k) : (s.count n).counter k = s.counter k := by
  simp [State.counter, State.count, List.getD, List.getElem?_set_ne h]

/-- Marks touch contexts and counters alone. -/
theorem State.foldl_markSaturated_only (s : State) (cs : List Nat) :
    cs.foldl State.markSaturated s =
      { s with ctxs := (cs.foldl State.markSaturated s).ctxs, counters := (cs.foldl State.markSaturated s).counters } := by
  induction cs generalizing s with
  | nil => rfl
  | cons c cs ih => rw [List.foldl_cons, ih]; rfl

/-- Each marked context is marked once and counted once, and no other. -/
theorem State.foldl_markSaturated {s : State} {cs : List Nat} (hn : cs.Nodup) (hc : ∀ c ∈ cs, c < s.ctxs.length)
    (hk : ∀ c ∈ cs, 8 * c + 6 < s.counters.length) (d : Nat) :
    (cs.foldl State.markSaturated s).ctx d = (if d ∈ cs then { s.ctx d with marker := true } else s.ctx d)
      ∧ (cs.foldl State.markSaturated s).counter (8 * d + 6) =
          if d ∈ cs then (s.counter (8 * d + 6)).count else s.counter (8 * d + 6) := by
  induction cs generalizing s with
  | nil => simp
  | cons c cs ih =>
    obtain ⟨hnot, hn⟩ := List.nodup_cons.mp hn
    obtain ⟨hctx, hcount⟩ := ih (s := s.markSaturated c) hn (fun x hx => by simpa [State.markSaturated] using hc x (by simp [hx]))
      (fun x hx => by simpa [State.markSaturated] using hk x (by simp [hx]))
    rw [List.foldl_cons, hctx, hcount]
    by_cases hd : d = c
    · subst hd
      have hlt := hc d (by simp)
      have hlt' := hk d (by simp)
      simp only [hnot, if_false, List.mem_cons, true_or, if_true]
      exact ⟨State.ctx_setCtx_self _ _ _ hlt, State.counter_count_self hlt'⟩
    · have hctx' : (s.markSaturated c).ctx d = s.ctx d := State.ctx_setCtx_of_ne _ _ (Ne.symm hd)
      have hcounter : (s.markSaturated c).counter (8 * d + 6) = s.counter (8 * d + 6) :=
        State.counter_count_of_ne _ (by omega)
      simp [hctx', hcounter, hd]

/-- The contexts in which a frame's clamping stamps raise SATURATION. -/
def State.saturated (s : State) (clamped : List Nat) : List Nat := contexts.filter fun c => clamped.contains c && !(s.ctx c).marker

theorem State.mem_saturated {s : State} {clamped : List Nat} {c : Nat} :
    c ∈ s.saturated clamped ↔ c < 6 ∧ c ∈ clamped ∧ (s.ctx c).marker = false := by
  simp [State.saturated, contexts, Config.contexts]

theorem State.saturate_eq (s : State) (clamped : List Nat) :
    s.saturate clamped =
      ((s.saturated clamped).foldl State.markSaturated s).push ((s.saturated clamped).map fun c => .raise c .saturation) := rfl

theorem State.length_counters_of_sizes {s : State} (h : s.sizes = partSizes) : s.counters.length = Config.counters := by
  simp only [State.sizes, partSizes, List.cons.injEq] at h
  exact h.2.2.2.2.2.2.2.2.1

theorem State.saturate_ctx {s : State} (hsize : s.sizes = partSizes) (clamped : List Nat) (d : Nat) :
    (s.saturate clamped).ctx d = (if d ∈ s.saturated clamped then { s.ctx d with marker := true } else s.ctx d)
      ∧ (s.saturate clamped).counter (8 * d + 6) =
          if d ∈ s.saturated clamped then (s.counter (8 * d + 6)).count else s.counter (8 * d + 6) := by
  rw [State.saturate_eq]
  refine State.foldl_markSaturated (List.nodup_range.filter _) (fun c hc => ?_) (fun c hc => ?_) d <;>
    have hlt := (State.mem_saturated.mp hc).1
  · rw [State.length_ctxs_of_sizes hsize]; exact hlt
  · rw [State.length_counters_of_sizes hsize, Config.counters]; omega

/-- Settles O23: the stamp as the lesser of scaled value and raw_full, the filter as a share of the difference, and the marks in the
contexts that the raises name. -/
theorem scalingStaysInRange : Obligations.ScalingStaysInRange := by
  refine ⟨fun cfg v w hfull hgas => ?_, fun cfg st eng => ⟨(st.filter_between cfg eng).1, (st.filter_between cfg eng).2, st.filter_self cfg eng⟩,
    fun s clamped hsize => ?_⟩
  · rw [cfg.stampOf_eq, cfg.stampOf_eq, cfg.stampOf_eq]
    refine ⟨Nat.min_le_right _ _, decide_eq_true_iff, fun h => ?_, fun h => ?_⟩
    · have := cfg.rawOf_mono h
      simp only
      omega
    · rw [cfg.rawOf_engFull hfull h]; simp
  · rw [State.sized_iff] at hsize
    refine ⟨⟨s.saturated clamped, ?_, ?_, fun c => State.mem_saturated⟩, fun c hc hmem hmark => ?_, fun c hc hnot => ?_⟩
    · rw [State.saturate_eq, State.push_agenda, State.foldl_markSaturated_only]
    · exact List.pairwise_lt_range.filter _
    · obtain ⟨hctx, hcount⟩ := State.saturate_ctx hsize clamped c
      rw [if_pos (State.mem_saturated.mpr ⟨hc, hmem, hmark⟩)] at hctx hcount
      exact ⟨hctx, hcount⟩
    · obtain ⟨hctx, hcount⟩ := State.saturate_ctx hsize clamped c
      have hout : c ∉ s.saturated clamped := fun hin => by
        obtain ⟨-, hmem, hmark⟩ := State.mem_saturated.mp hin
        exact hnot.elim (fun h => h hmem) fun h => by rw [hmark] at h; cases h
      rw [if_neg hout] at hctx hcount
      exact ⟨hctx, hcount⟩

/-! ### Ramp ends (R25) -/

theorem State.advance_quiet {s : State} (dt : Nat) (h : s.quiet = true) : (s.advance dt).quiet = true := by
  obtain ⟨ha, hw, hs, hg⟩ := s.quiet_iff.mp h
  exact (State.quiet_iff _).mpr ⟨ha, by simp [State.advance, hw], hs, hg⟩

/-- Settles O28: the ramp end writes one record, and a trigger that it may leave admits nothing in a quiet part. -/
theorem rampEndSettlesTheRecord : Obligations.RampEndSettlesTheRecord := by
  intro s dt p cfg r hq hp
  have hquiet := State.advance_quiet dt hq
  have hp' : (s.advance dt).point p = .set cfg r := hp
  refine ⟨fun hd hle => ⟨?_, r.rampValue_of_end _ (.inr hle), fun now => SetRec.rampValue_of_end _ now (.inl rfl)⟩, fun hnot => ?_⟩
  · have hset : ((s.advance dt).setPoint p (.set cfg { r with s := r.t, d := 0 })).quiet = true := hquiet
    change Host.Outcome.next ((s.advance dt).settleRamp p).settle = _
    simp only [State.settleRamp, hp', if_pos (And.intro hd hle)]
    split
    · rw [State.settle_triggerIf _ _ hset]
    · rw [State.settle_of_nil _ ((State.quiet_iff _).mp hset).1]
  · change Host.Outcome.next ((s.advance dt).settleRamp p).settle = _
    simp only [State.settleRamp, hp', if_neg (show ¬ (0 < r.d ∧ r.d ≤ ((s.advance dt).now - r.r).toNat) by omega)]
    rw [State.settle_of_nil _ ((State.quiet_iff _).mp hquiet).1]

end Sys2Proof.Machine
end

section
/-!
Collections (R28 to R31), touch bytes (R43 to R47), and the gap (R10, R11).
-/
namespace Sys2Proof.Machine

/-! ### Collections -/

section
variable {s : State} {p : Nat} {cfg : PointCfg} {st : Sample}

theorem State.lt_of_point {q : Point} (h : s.point p = q) (hq : q ≠ .empty) : p < s.points.length := by
  by_contra hp
  rw [State.point, List.getD_eq_default _ _ (Nat.le_of_not_lt hp)] at h
  exact hq h.symm

/-- An edge of the selected sense (R31). -/
theorem PointCfg.edgeMatches_iff (baseline : Option Bool) (x : Nat) :
    cfg.edgeMatches baseline (x != 0) = true ↔
      (baseline = some false ∧ x ≠ 0 ∧ (cfg.edge = .rise ∨ cfg.edge = .both))
        ∨ (baseline = some true ∧ x = 0 ∧ (cfg.edge = .fall ∨ cfg.edge = .both)) := by
  unfold PointCfg.edgeMatches
  have hbit : (x != 0) = decide (x ≠ 0) := by by_cases hx : x = 0 <;> simp [hx]
  rw [hbit]
  rcases baseline with _ | _ | _ <;> by_cases hx : x = 0 <;> simp [hx]

/-- The raises that a collection leaves. -/
def State.edgeRaises (s : State) (cfg : PointCfg) (st : Sample) (x : Nat) : List Task :=
  if cfg.quantity = .digital ∧ cfg.edgeMatches st.baseline (x != 0) then
    match edgeSource cfg.source with
    | some src => (s.raisedIn cfg.owner fun k => k.state != .offline).map fun c => .raise c src
    | none => []
  else []

/-- A collection while the node is FRESH writes the sample, and leaves its raises. -/
theorem State.collectPoint_of_fresh (hp : s.point p = .sample cfg st) (hf : s.nodeFresh cfg.node = true) (x : Nat) :
    s.collectPoint p x = (s.setPoint p (.sample cfg (st.collect cfg s.now x))).push (s.edgeRaises cfg st x) := by
  unfold State.collectPoint State.edgeRaises
  simp only [hp, hf, if_true]
  split
  · cases edgeSource cfg.source <;> rfl
  · rfl

/-- A collection while the node is not FRESH sets the stale flag (R28). -/
theorem State.collectPoint_of_not_fresh (hp : s.point p = .sample cfg st) (hf : s.nodeFresh cfg.node = false) (x : Nat) :
    s.collectPoint p x = s.setPoint p (.sample cfg (if st.stale then st else st.makeStale)) := by
  unfold State.collectPoint
  simp only [hp, hf, Bool.false_eq_true, if_false]

end

/-- Settles O24: a collection by whether its node is FRESH, and the raises of a fresh one by whether it makes an edge. -/
theorem collectionIsFreshOrStale : Obligations.CollectionIsFreshOrStale := by
  intro s p x cfg st hp
  have hlt := State.lt_of_point hp (by simp)
  refine ⟨fun hf => ?_, fun hf => ⟨fun hs => ?_, fun hs => ?_⟩, fun q hq => ?_, fun src hedge hsrc => ?_, fun hnone => ?_⟩
  · rw [State.collectPoint_of_fresh hp hf]
    exact State.point_setPoint_self _ _ _ hlt
  · rw [State.collectPoint_of_not_fresh hp hf, State.point_setPoint_self _ _ _ hlt, hs]; rfl
  · rw [State.collectPoint_of_not_fresh hp hf, State.point_setPoint_self _ _ _ hlt, hs]; rfl
  · cases hf : s.nodeFresh cfg.node with
    | true => rw [State.collectPoint_of_fresh hp hf]; exact State.point_setPoint_of_ne _ _ (Ne.symm hq)
    | false => rw [State.collectPoint_of_not_fresh hp hf]; exact State.point_setPoint_of_ne _ _ (Ne.symm hq)
  · obtain ⟨hf, hq, hmatch⟩ := hedge
    have hsource : edgeSource cfg.source = some src := by
      rcases hsrc with ⟨hc, rfl⟩ | ⟨hc, rfl⟩ <;> rw [hc] <;> rfl
    rw [State.collectPoint_of_fresh hp hf, State.push_agenda, State.edgeRaises,
      if_pos ⟨hq, (PointCfg.edgeMatches_iff st.baseline x).mpr hmatch⟩, hsource]
    exact ⟨fun c hc => by rw [hc]; rfl, fun hc => by rw [hc]; rfl⟩
  · cases hf : s.nodeFresh cfg.node with
    | true =>
      have hraises : s.edgeRaises cfg st x = [] := by
        unfold State.edgeRaises
        split
        · next hedge =>
          rcases hnone with hn | hn
          · exact absurd ⟨hf, hedge.1, (PointCfg.edgeMatches_iff st.baseline x).mp hedge.2⟩ hn
          · rw [hn]; rfl
        · rfl
      rw [State.collectPoint_of_fresh hp hf, State.push_agenda, hraises]; rfl
    | false => rw [State.collectPoint_of_not_fresh hp hf]; rfl

/-! ### Reports while there is room -/

theorem State.reports_report {s : State} (h : s.reports.length < 64) (c st : Option Nat) (tag : Option (BitVec 32)) (b : ReportBody) :
    (s.report c st tag b).reports = s.reports ++ [{ ctx := c, step := st, time := s.now, tag := tag, body := b }] := by
  rw [State.report, if_pos (show s.reports.length < Config.reports from h)]

/-! ### Touch bytes -/

/-- The context that a NODE report names. -/
def reportedOwner : Owner → Option Nat
  | .ctx c => some c
  | .shared => none

theorem State.nodeReport_eq (s : State) (n : Nat) (x : Node) (e : NodeEvent) (touch : Byte) :
    s.nodeReport n x e touch = s.report (reportedOwner x.cfg.owner) none none (.node n e touch x.age x.lastSeen) := by
  unfold State.nodeReport reportedOwner
  cases x.cfg.owner <;> rfl

/-- A missed node becomes STALE (R44). -/
def Node.lost (x : Node) : Bool := x.state == .fresh && decide (x.cfg.staleAfter ≤ min (x.age + 1) 3)

theorem Node.lost_iff (x : Node) : x.lost = true ↔ x.state = .fresh ∧ x.cfg.staleAfter ≤ min (x.age + 1) 3 := by
  simp [Node.lost]

/-- What a miss leaves of a node (R44, R45). -/
def Node.missed (x : Node) (conflict : Bool) : Node :=
  { x with age := min (x.age + 1) 3, conflict := x.conflict || conflict, state := if x.lost then .stale else x.state }

/-- What a seen return leaves of a node (R44). -/
def Node.seen (x : Node) (now : Time) : Node := { x with age := 0, state := .fresh, lastSeen := some now }

/-- The raises of a node that becomes STALE (R47). -/
def State.staleRaises (s : State) (x : Node) : List Task :=
  if x.lost && x.cfg.required then
    ((s.raisedIn x.cfg.owner Ctx.active).filter fun c => (s.ctx c).active).map fun c => .raise c .sampleStale
  else []

/-- A seen return by its parts. -/
theorem State.seeNode_eq (s : State) (n : Nat) (x : Node) (touch : Byte) :
    s.seeNode n x touch =
      if x.state = .stale then (s.setNode n (some (x.seen s.now))).nodeReport n (x.seen s.now) .recovered touch
      else s.setNode n (some (x.seen s.now)) := rfl

/-- A missed return by its parts: the node and its count, the CONFLICT report, and what becoming STALE brings. -/
theorem State.missNode_eq (s : State) (n : Nat) (x : Node) (touch : Byte) (conflict : Bool) :
    s.missNode n x touch conflict =
      let s1 := (s.setNode n (some (x.missed conflict))).count (53 + n)
      let s2 := if conflict && !x.conflict then s1.nodeReport n (x.missed conflict) .conflict touch else s1
      if x.lost then ((s2.staleNode n).nodeReport n (x.missed conflict) .stale touch).push (s.staleRaises x) else s2 := by
  have hdef : s.missNode n x touch conflict =
      let s1 := (s.setNode n (some (x.missed conflict))).count (53 + n)
      let s2 := if conflict && !x.conflict then s1.nodeReport n (x.missed conflict) .conflict touch else s1
      if x.lost then
        let s3 := (s2.staleNode n).nodeReport n (x.missed conflict) .stale touch
        if x.cfg.required then
          s3.push (((s.raisedIn x.cfg.owner Ctx.active).filter fun c => (s.ctx c).active).map fun c => .raise c .sampleStale)
        else s3
      else s2 := rfl
  rw [hdef]
  dsimp only
  rw [State.staleRaises]
  cases x.lost with
  | false => rfl
  | true => cases x.cfg.required <;> rfl

/-- The tables and the agenda that a missed return leaves. -/
theorem State.missNode_tables (s : State) (n : Nat) (x : Node) (touch : Byte) (conflict : Bool) :
    (s.missNode n x touch conflict).nodes = s.nodes.set n (some (x.missed conflict))
      ∧ (s.missNode n x touch conflict).counters = (s.count (53 + n)).counters
      ∧ (s.missNode n x touch conflict).points = (if x.lost then (s.staleNode n).points else s.points)
      ∧ (s.missNode n x touch conflict).agenda = s.staleRaises x ++ s.agenda := by
  rw [State.missNode_eq]
  dsimp only
  cases hl : x.lost with
  | false =>
    have hnone : s.staleRaises x = [] := by simp [State.staleRaises, hl]
    simp only [Bool.false_eq_true, if_false, hnone]
    split
    · simp [State.nodeReport_eq, State.count]
      rfl
    · simp [State.count]
      rfl
  | true =>
    simp only [if_true]
    split
    · simp [State.nodeReport_eq, State.count, State.staleNode]
      rfl
    · simp [State.nodeReport_eq, State.count, State.staleNode]
      rfl

/-- A NODE report with the age and the last seen time given. -/
def State.nodeRecord (s : State) (n : Nat) (x : Node) (touch : Byte) (event : NodeEvent) (age : Nat) (seen : Option Time) : Report :=
  { ctx := (reportedOwner x.cfg.owner), step := none, time := s.now, tag := none, body := .node n event touch age seen }

/-- The reports of a missed return, where there is room for two (R46). -/
theorem State.missNode_reports {s : State} (hroom : s.reports.length + 2 ≤ 64) (n : Nat) (x : Node) (touch : Byte) (conflict : Bool) :
    (s.missNode n x touch conflict).reports = s.reports
      ++ (if conflict && !x.conflict then [s.nodeRecord n x touch .conflict (min (x.age + 1) 3) x.lastSeen] else [])
      ++ (if x.lost then [s.nodeRecord n x touch .stale (min (x.age + 1) 3) x.lastSeen] else []) := by
  rw [State.missNode_eq]
  dsimp only
  have hone : ∀ u : State, u.reports = s.reports → u.now = s.now →
      (u.nodeReport n (x.missed conflict) .conflict touch).reports =
        s.reports ++ [s.nodeRecord n x touch .conflict (min (x.age + 1) 3) x.lastSeen] := fun u hu hnow => by
    rw [State.nodeReport_eq, State.reports_report (by rw [hu]; omega), hu, hnow]; rfl
  have htwo : ∀ u : State, u.reports.length < 64 → u.now = s.now →
      ((u.staleNode n).nodeReport n (x.missed conflict) .stale touch).reports =
        u.reports ++ [s.nodeRecord n x touch .stale (min (x.age + 1) 3) x.lastSeen] := fun u hu hnow => by
    rw [State.nodeReport_eq, State.reports_report (s := u.staleNode n) hu]
    change u.reports ++ [_] = _
    rw [show (u.staleNode n).now = s.now from hnow]; rfl
  have hfirst := hone ((s.setNode n (some (x.missed conflict))).count (53 + n)) rfl rfl
  have hlen : (s.reports ++ [s.nodeRecord n x touch .conflict (min (x.age + 1) 3) x.lastSeen]).length < 64 := by
    rw [List.length_append, List.length_singleton]; omega
  cases x.lost with
  | true =>
    simp only [if_true, State.push_reports]
    cases conflict && !x.conflict with
    | true =>
      simp only [if_true]
      rw [htwo _ (by rw [hfirst]; exact hlen) (by simp [State.nodeReport_eq, State.count]), hfirst]
    | false =>
      simp only [Bool.false_eq_true, if_false, List.append_nil]
      exact htwo ((s.setNode n (some (x.missed conflict))).count (53 + n)) (show s.reports.length < 64 by omega) rfl
  | false =>
    simp only [Bool.false_eq_true, if_false, List.append_nil]
    cases conflict && !x.conflict with
    | true => exact hfirst
    | false => exact (List.append_nil _).symm

theorem State.evaluateNode_of_one {s : State} {n : Nat} {x : Node} (h : s.node n = some x) : s.evaluateNode n 1 = s.seeNode n x 1 := by
  simp [State.evaluateNode, h]

theorem State.evaluateNode_of_ne {s : State} {n : Nat} {x : Node} {touch : Byte} (h : s.node n = some x) (ht : touch ≠ 1) :
    s.evaluateNode n touch = s.missNode n x touch (touch != 0) := by
  unfold State.evaluateNode
  simp only [h, if_neg ht]

theorem State.lt_of_node {s : State} {n : Nat} {x : Node} (h : s.node n = some x) : n < s.nodes.length := by
  by_contra hn
  rw [State.node, List.getD_eq_default _ _ (Nat.le_of_not_lt hn)] at h
  cases h

/-- The tables and the agenda that a seen return leaves. -/
theorem State.seeNode_tables (s : State) (n : Nat) (x : Node) (touch : Byte) :
    (s.seeNode n x touch).nodes = s.nodes.set n (some (x.seen s.now)) ∧ (s.seeNode n x touch).counters = s.counters
      ∧ (s.seeNode n x touch).points = s.points ∧ (s.seeNode n x touch).agenda = s.agenda := by
  rw [State.seeNode_eq]
  split <;> simp [State.nodeReport_eq]

theorem State.node_of_nodes {s t : State} {n : Nat} {x : Option Node} (h : t.nodes = s.nodes.set n x) (k : Nat) :
    t.node k = (s.setNode n x).node k := by rw [State.node, h]; rfl

/-- Every point after the samples of a node have been made stale. -/
theorem State.point_staleNode (s : State) (n p : Nat) :
    (s.staleNode n).point p = match s.point p with
      | .sample cfg st => if cfg.node = n then .sample cfg { st with stale := true, baseline := none } else .sample cfg st
      | q => q := by
  simp only [State.point, State.staleNode, List.getD_eq_getElem?_getD, List.getElem?_map]
  cases s.points[p]? with
  | none => rfl
  | some q => cases q <;> rfl

theorem State.length_counters {s : State} (h : s.sized = true) : s.counters.length = 117 :=
  State.length_counters_of_sizes ((State.sized_iff s).mp h)

theorem State.length_nodes {s : State} (h : s.sized = true) : s.nodes.length = 64 := by
  have hsize := (State.sized_iff s).mp h
  simp only [State.sizes, partSizes, List.cons.injEq] at hsize
  exact hsize.2.1

/-- Settles O25: a touch byte by whether it is 1, and a missed return by whether the node becomes STALE. -/
theorem touchBytesMoveNodes : Obligations.TouchBytesMoveNodes := by
  intro s n x touch hsize hn
  have hlt := State.lt_of_node hn
  have hlt64 : n < 64 := State.length_nodes hsize ▸ hlt
  dsimp only
  by_cases ht : touch = 1
  · subst ht
    rw [State.evaluateNode_of_one hn]
    obtain ⟨hnodes, hcounters, hpoints, hagenda⟩ := s.seeNode_tables n x 1
    refine ⟨fun _ => ⟨?_, hcounters⟩, fun h => absurd rfl h, fun k hk => ?_, fun h => absurd rfl h.1, fun _ => hpoints,
      fun hroom => ⟨fun _ hs => ?_, fun _ hs => ?_, fun h => absurd rfl h⟩, fun h => absurd rfl h.1, fun h => absurd rfl h.1, fun _ => hagenda⟩
    · rw [State.node_of_nodes hnodes, State.node_setNode_self _ _ _ hlt]; rfl
    · rw [State.node_of_nodes hnodes, State.node_setNode_of_ne _ _ (Ne.symm hk)]
    · rw [State.seeNode_eq, if_pos hs, State.nodeReport_eq, State.reports_report (by simp; omega)]
      unfold reportedOwner
      rfl
    · rw [State.seeNode_eq, if_neg hs]; rfl
  · rw [State.evaluateNode_of_ne hn ht]
    obtain ⟨hnodes, hcounters, hpoints, hagenda⟩ := s.missNode_tables n x touch (touch != 0)
    have hlost : ∀ {p : Prop}, (touch ≠ 1 ∧ x.state = .fresh ∧ x.cfg.staleAfter ≤ min (x.age + 1) 3 → p) ↔ (x.lost = true → p) := by
      intro p
      rw [Node.lost_iff]
      exact ⟨fun h hl => h ⟨ht, hl⟩, fun h hl => h hl.2⟩
    refine ⟨fun h => absurd h ht, fun _ => ⟨?_, ?_⟩, fun k hk => ?_, hlost.mpr fun hl p => ?_, fun hl => ?_,
      fun hroom => ⟨fun h => absurd h ht, fun h => absurd h ht, fun _ => ?_⟩, hlost.mpr fun hl hreq c hc => ?_,
      hlost.mpr fun hl hreq hc => ?_, fun hnot => ?_⟩
    · rw [State.node_of_nodes hnodes, State.node_setNode_self _ _ _ hlt, Node.missed]
      simp only [Node.lost_iff]
    · rw [State.counter, hcounters]
      exact State.counter_count_self (by rw [State.length_counters hsize]; omega)
    · rw [State.node_of_nodes hnodes, State.node_setNode_of_ne _ _ (Ne.symm hk)]
    · rw [State.point, hpoints, if_pos hl]
      exact s.point_staleNode n p
    · rw [hpoints, if_neg fun h => hl ⟨ht, (Node.lost_iff x).mp h⟩]
    · rw [State.missNode_reports hroom]
      simp only [Node.lost_iff, Bool.and_eq_true, bne_iff_ne, Bool.not_eq_true']
      unfold State.nodeRecord reportedOwner
      rfl
    · rw [hagenda, State.staleRaises, hl, hreq, hc]
      simp only [Bool.and_self, if_true, State.raisedIn, List.filter_cons, List.filter_nil]
      split <;> rfl
    · rw [hagenda, State.staleRaises, hl, hreq, hc]
      simp only [Bool.and_self, if_true, State.raisedIn, List.filter_filter]
      rfl
    · rw [hagenda]
      have hnone : s.staleRaises x = [] := by
        rw [State.staleRaises, if_neg]
        intro h
        rw [Bool.and_eq_true] at h
        rcases hnot with hnot | hnot
        · exact hnot ⟨ht, (Node.lost_iff x).mp h.1⟩
        · rw [h.2] at hnot; cases hnot
      rw [hnone]; rfl

end Sys2Proof.Machine
end

section
/-!
What an event's work leaves of the ring, its counters and the stamps, whatever it brings about; the gap (R10, R11); and the return pass
(R7).
-/
namespace Sys2Proof.Machine

/-! ### What an event's work leaves -/

/-- Work of an event brings no last stage of a return pass. -/
theorem Works.not_finishes {s t : State} (h : Works s t) (hs : ∀ x ∈ s.agenda, x.finishes = false) :
    ∀ x ∈ t.agenda, x.finishes = false := by
  induction h with
  | refl => exact hs
  | agenda _ ts hts ih => exact fun x hx => (hts x hx).elim (ih x) id
  | report _ c st tag b ih => rw [State.report_agenda]; exact ih
  | _ => assumption

/-- An event without a last stage of a return pass is a chain of updates. -/
theorem settleFor_works (n : Nat) {s t : State} (h : Works s t) (ht : ∀ x ∈ t.agenda, x.finishes = false) : Works s (settleFor n t) := by
  induction n generalizing t with
  | zero => exact h.agenda [] fun x hx => absurd hx List.not_mem_nil
  | succ n ih =>
    unfold settleFor
    split
    · exact h
    · next x ts heq =>
      have htail : Works s { t with agenda := ts } := h.agenda ts fun y hy => .inr (ht y (by rw [heq]; exact List.mem_cons_of_mem x hy))
      have hdone := doTask_works (ht x (by rw [heq]; exact List.mem_cons_self)) { t with agenda := ts }
      exact ih (htail.trans hdone) (hdone.not_finishes fun y hy => ht y (by rw [heq]; exact List.mem_cons_of_mem x hy))

theorem Works.settle {s t : State} (h : Works s t) (ht : ∀ x ∈ t.agenda, x.finishes = false) : Works s t.settle :=
  settleFor_works _ h ht

theorem Works.ring {s t : State} (h : Works s t) : t.ring = s.ring ∧ t.gapTimer = s.gapTimer := by
  induction h with
  | refl => exact ⟨rfl, rfl⟩
  | report _ c st tag b ih => rw [State.report_ring, State.report_gapTimer]; exact ih
  | _ => assumption

theorem Works.length_ctxs {s t : State} (h : Works s t) : t.ctxs.length = s.ctxs.length := by
  have := h.sizes
  simp only [State.sizes, List.cons.injEq] at this
  exact this.2.2.2.2.1

/-- The counters of the frame engine, 48 to 52, count nothing that work brings (Table 11-2). -/
theorem Works.counter {s t : State} (h : Works s t) (hc : s.ctxs.length = 6) {n : Nat} (h48 : 48 ≤ n) (h53 : n < 53) :
    t.counter n = s.counter n := by
  induction h with
  | refl => rfl
  | report _ c st tag b ih => rw [State.counter, State.report_counters]; exact ih
  | count k m hm ih =>
    have hlen := k.length_ctxs
    rw [State.counter_count_of_ne _ (by omega)]
    exact ih
  | _ => assumption

theorem Point.Moves.trans {p q r : Point} (h : p.Moves q) (k : q.Moves r) : p.Moves r := by
  cases h with
  | empty => exact k
  | set cfg a b hforced hsaturated hraw =>
    cases k with
    | set _ _ c hforced' hsaturated' hraw' =>
      exact .set cfg a c (hforced'.elim (fun e => e ▸ hforced) .inr) (hsaturated'.trans hsaturated) (hraw'.trans hraw)
  | sample cfg a b =>
    cases k with
    | sample _ _ c => exact .sample cfg a c

theorem forall₂_moves_refl (ps : List Point) : List.Forall₂ Point.Moves ps ps := by
  induction ps with
  | nil => exact .nil
  | cons p ps ih => exact .cons (.refl p) ih

theorem forall₂_moves_trans {ps qs rs : List Point} (h : List.Forall₂ Point.Moves ps qs) (k : List.Forall₂ Point.Moves qs rs) :
    List.Forall₂ Point.Moves ps rs := by
  induction h generalizing rs with
  | nil => cases k; exact .nil
  | cons h _ ih =>
    cases k with
    | cons k ks => exact .cons (h.trans k) (ih ks)

/-- Work keeps the points' configurations and what the last stamp left. -/
theorem Works.points_moves {s t : State} (h : Works s t) : List.Forall₂ Point.Moves s.points t.points := by
  induction h with
  | refl => exact forall₂_moves_refl _
  | report _ c st tag b ih => rw [State.report_points]; exact ih
  | points _ ps hps ih => exact forall₂_moves_trans ih hps
  | _ => assumption

theorem State.finishReturn_only (s : State) (image : Nat) (f : Frame) :
    s.finishReturn image f =
      { s with ring := (s.finishReturn image f).ring, gapTimer := (s.finishReturn image f).gapTimer,
               sentU := (s.finishReturn image f).sentU } := by
  unfold State.finishReturn
  split <;> rfl

/-- What all work and the last stage of a return pass keep, an event keeps. -/
theorem settleFor_keeps {P : State → Prop} (hworks : ∀ u v, Works u v → P u → P v)
    (hfinish : ∀ (u : State) (r : Ring) (g : Option Timer) (f : Option Frame), P u → P { u with ring := r, gapTimer := g, sentU := f })
    (n : Nat) {s : State} (hs : P s) : P (settleFor n s) := by
  induction n generalizing s with
  | zero => exact hworks _ _ (Works.refl.agenda [] fun x hx => absurd hx List.not_mem_nil) hs
  | succ n ih =>
    unfold settleFor
    split
    · exact hs
    · next x ts heq =>
      have htail : P { s with agenda := ts } :=
        hworks _ _ (Works.refl.agenda ts fun y hy => .inl (by rw [heq]; exact List.mem_cons_of_mem x hy)) hs
      refine ih ?_
      cases hx : x.finishes with
      | false => exact hworks _ _ (doTask_works hx _) htail
      | true =>
        cases x with
        | finishReturn image f =>
          change P (State.finishReturn _ image f)
          rw [State.finishReturn_only]
          exact hfinish _ _ _ _ htail
        | _ => cases hx

theorem State.settle_keeps {P : State → Prop} (hworks : ∀ u v, Works u v → P u → P v)
    (hfinish : ∀ (u : State) (r : Ring) (g : Option Timer) (f : Option Frame), P u → P { u with ring := r, gapTimer := g, sentU := f })
    {s : State} (hs : P s) : P s.settle := settleFor_keeps hworks hfinish _ hs

/-- An event keeps the counters 48 to 52 (Table 11-2). -/
theorem State.counter_settle {s : State} (hc : s.ctxs.length = 6) {n : Nat} (h48 : 48 ≤ n) (h53 : n < 53) :
    s.settle.counter n = s.counter n :=
  (State.settle_keeps (P := fun u => u.ctxs.length = 6 ∧ u.counter n = s.counter n)
    (fun _ _ h hu => ⟨h.length_ctxs.trans hu.1, (h.counter hu.1 h48 h53).trans hu.2⟩) (fun _ _ _ _ hu => hu) ⟨hc, rfl⟩).2

/-- An event keeps the points' configurations and what the last stamp left. -/
theorem State.points_settle (s : State) : List.Forall₂ Point.Moves s.points s.settle.points :=
  State.settle_keeps (P := fun u => List.Forall₂ Point.Moves s.points u.points) (fun _ _ h hu => forall₂_moves_trans hu h.points_moves)
    (fun _ _ _ _ hu => hu) (forall₂_moves_refl _)

/-! ### The gap (R10, R11) -/

theorem State.mem_enterGap {s : State} {c : Nat} :
    .raise c .ringGap ∈ s.enterGap.agenda ↔ (c < 6 ∧ (s.ctx c).active = true ∧ s.flowOn c = true) ∨ .raise c .ringGap ∈ s.agenda := by
  have hflow : ∀ d, (({ s with ring := .gap, gapTimer := none } : State).count 52).flowOn d = s.flowOn d := fun _ => rfl
  simp only [State.enterGap, State.push_agenda, List.mem_append, List.mem_map, List.mem_filter, contexts, List.mem_range,
    Config.contexts, Bool.and_eq_true]
  refine or_congr ⟨?_, fun h => ⟨c, h, rfl⟩⟩ Iff.rfl
  rintro ⟨d, h, heq⟩
  cases heq
  exact h

/-- Settles O20: entry into GAP by its definition; the raises and what they bring touch neither the ring nor the counter. -/
theorem gapTimerEntersGap : Obligations.GapTimerEntersGap := by
  intro s dt hring hdue a
  have hexec : exec (.gapTimerExpiry dt) s = .next a.enterGap.settle := by
    change Host.Outcome.next (if a.ring = .up ∧ timerDue a.gapTimer a.now = true then a.enterGap.settle else a) = _
    rw [if_pos ⟨hring, hdue⟩]
  refine ⟨hexec, rfl, rfl, rfl, fun c hc => ?_, fun c hc ha hf => State.mem_enterGap.mpr (.inl ⟨hc, ha, hf⟩), fun hagenda hnone => ?_,
    fun hagenda hsize => ⟨_, hexec, ?_⟩⟩
  · exact (State.mem_enterGap.mp hc.1).resolve_right hc.2
  · have hfilter : (contexts.filter fun c => (a.ctx c).active && a.flowOn c) = [] := by
      rw [List.filter_eq_nil_iff]
      intro c _ h
      rw [Bool.and_eq_true] at h
      rcases hnone c with hn | hn
      · rw [hn] at h; cases h.1
      · rw [hn] at h; cases h.2
    have hgap : a.enterGap = ({ a with ring := .gap, gapTimer := none } : State).count 52 := by
      unfold State.enterGap
      rw [hfilter]; rfl
    rw [hexec, hgap]
    exact congrArg Host.Outcome.next (State.settle_of_nil _ hagenda)
  · have hagenda' : ∀ x ∈ a.enterGap.agenda, x.finishes = false := by
      intro x hx
      rcases List.mem_append.mp hx with hx | hx
      · obtain ⟨c, -, rfl⟩ := List.mem_map.mp hx; rfl
      · have hnil : x ∈ s.agenda := hx
        rw [hagenda] at hnil
        exact absurd hnil List.not_mem_nil
    have hworks := (Works.refl (s := a.enterGap)).settle hagenda'
    have hsizes := (State.sized_iff s).mp hsize
    have hlen : a.enterGap.ctxs.length = 6 := by
      change (s.ctxs.map _).length = 6
      rw [List.length_map, State.length_ctxs_of_sizes hsizes]; rfl
    refine ⟨hworks.ring.1, hworks.ring.2, ?_, State.settle_agenda _⟩
    rw [State.counter_settle hlen (by decide) (by decide)]
    exact State.counter_count_self (s := { a with ring := .gap, gapTimer := none })
      (by change 52 < s.counters.length; rw [State.length_counters hsize]; decide)

/-! ### The stages of a return pass (R7) -/

theorem pickFrom_congr {α β : Type} {f g : Nat → α → Option β} {l : List α} (n : Nat)
    (h : ∀ k a, l[k]? = some a → f (n + k) a = g (n + k) a) : pickFrom f n l = pickFrom g n l := by
  induction l generalizing n with
  | nil => rfl
  | cons a l ih =>
    have h0 := h 0 a rfl
    rw [Nat.add_zero] at h0
    rw [pickFrom, pickFrom, h0, ih (n + 1) fun k b hb => by simpa [Nat.add_assoc, Nat.add_comm 1 k] using h (k + 1) b hb]

theorem map_pickFrom {α β γ : Type} (f : Nat → α → Option β) (g : β → γ) (n : Nat) (l : List α) :
    (pickFrom f n l).map g = pickFrom (fun k a => (f k a).map g) n l := by
  induction l generalizing n with
  | nil => rfl
  | cons a l ih =>
    rw [pickFrom, pickFrom, List.map_append, ih]
    cases f n a <;> rfl

/-- The indices that a table's entries keep stand in ascending order. -/
theorem pickFrom_index_pairwise {α : Type} (p : Nat → α → Bool) (n : Nat) (l : List α) :
    (pickFrom (fun k a => if p k a then some k else none) n l).Pairwise (· < ·)
      ∧ ∀ i ∈ pickFrom (fun k a => if p k a then some k else none) n l, n ≤ i := by
  induction l generalizing n with
  | nil => exact ⟨.nil, fun i hi => absurd hi List.not_mem_nil⟩
  | cons a l ih =>
    obtain ⟨hpair, hge⟩ := ih (n + 1)
    rw [pickFrom]
    cases p n a with
    | false => exact ⟨hpair, fun i hi => Nat.le_of_succ_le (hge i hi)⟩
    | true =>
      refine ⟨List.pairwise_cons.mpr ⟨fun i hi => hge i hi, hpair⟩, fun i hi => ?_⟩
      rcases List.mem_cons.mp hi with rfl | hi
      · exact Nat.le_refl i
      · exact Nat.le_of_succ_le (hge i hi)

/-- A return pass of this image and length evaluates the node entry (R44). -/
def evaluatedEntry (image len : Nat) : Option Node → Bool
  | some x => decide (x.cfg.image = image ∧ x.cfg.touch + 1 ≤ len)
  | none => false

/-- The nodes that a return pass evaluates (R44). -/
def State.evaluated (s : State) (image len : Nat) : List Nat :=
  pickFrom (fun n x => if evaluatedEntry image len x then some n else none) 0 s.nodes

theorem State.node_of_getElem? {s : State} {n : Nat} {x : Option Node} (h : s.nodes[n]? = some x) : s.node n = x := by
  simp [State.node, List.getD_eq_getElem?_getD, h]

theorem State.getElem?_of_node {s : State} {n : Nat} {x : Node} (h : s.node n = some x) : s.nodes[n]? = some (some x) := by
  rw [State.node, List.getD_eq_getElem?_getD] at h
  cases hn : s.nodes[n]? with
  | none => rw [hn] at h; cases h
  | some y => rw [hn] at h; exact congrArg some h

theorem State.evaluations_eq (s : State) (image : Nat) (payload : List Byte) :
    s.evaluations image payload = (s.evaluated image payload.length).map fun n =>
      Task.evalNode n (payload.getD (((s.node n).map (·.cfg.touch)).getD 0) 0) := by
  rw [State.evaluated, map_pickFrom, State.evaluations]
  refine pickFrom_congr 0 fun k x hx => ?_
  have hnode := State.node_of_getElem? hx
  rw [Nat.zero_add]
  cases x with
  | none => rfl
  | some x =>
    by_cases hin : x.cfg.image = image ∧ x.cfg.touch + 1 ≤ payload.length
    · simp [evaluatedEntry, hin, hnode]
    · simp only [evaluatedEntry, hin, decide_false, Bool.false_eq_true, if_false, Option.map_none]

theorem State.mem_evaluated {s : State} {image len n : Nat} :
    n ∈ s.evaluated image len ↔ ∃ x, s.node n = some x ∧ x.cfg.image = image ∧ x.cfg.touch < len := by
  rw [State.evaluated, mem_pickFrom]
  constructor
  · rintro ⟨k, x, hx, hk⟩
    obtain ⟨hok, hkn⟩ := Option.ite_none_right_eq_some.mp hk
    obtain rfl : 0 + k = n := Option.some.inj hkn
    rw [Nat.zero_add, State.node_of_getElem? hx]
    cases x with
    | none => cases hok
    | some x => exact ⟨x, rfl, by simpa [evaluatedEntry] using hok⟩
  · rintro ⟨x, hx, himage, htouch⟩
    exact ⟨n, some x, State.getElem?_of_node hx, by simp [evaluatedEntry, himage]; omega⟩

/-- A return pass of this image and length collects the point entry (R29). -/
def sampledEntry (image len : Nat) : Point → Bool
  | .sample cfg _ => cfg.image == image && cfg.inside len
  | _ => false

/-- The SAMPLE points that a return pass collects (R29). -/
def State.sampled (s : State) (image len : Nat) : List Nat :=
  pickFrom (fun n p => if sampledEntry image len p then some n else none) 0 s.points

theorem State.point_of_getElem? {s : State} {p : Nat} {x : Point} (h : s.points[p]? = some x) : s.point p = x := by
  simp [State.point, List.getD_eq_getElem?_getD, h]

/-- What a frame holds for a SAMPLE point. -/
def State.fieldOf (s : State) (payload : List Byte) (p : Nat) : Nat :=
  match s.point p with
  | .sample cfg _ => readField payload cfg
  | _ => 0

theorem State.collections_eq (s : State) (image : Nat) (payload : List Byte) :
    s.collections image payload = (s.sampled image payload.length).map fun p => Task.collect p (s.fieldOf payload p) := by
  rw [State.sampled, map_pickFrom, State.collections]
  refine pickFrom_congr 0 fun k x hx => ?_
  have hpoint := State.point_of_getElem? hx
  rw [Nat.zero_add]
  cases x with
  | sample cfg st =>
    by_cases hin : (cfg.image == image && cfg.inside payload.length) = true
    · simp only [sampledEntry, hin, if_true, Option.map_some, State.fieldOf, hpoint]
    · simp only [sampledEntry, hin]; rfl
  | empty | set => rfl

theorem State.mem_sampled {s : State} {image len p : Nat} :
    p ∈ s.sampled image len ↔ ∃ cfg st, s.point p = .sample cfg st ∧ cfg.image = image
      ∧ cfg.offset + encodingWidth cfg.encoding ≤ len := by
  rw [State.sampled, mem_pickFrom]
  constructor
  · rintro ⟨k, x, hx, hk⟩
    obtain ⟨hok, hkn⟩ := Option.ite_none_right_eq_some.mp hk
    obtain rfl : 0 + k = p := Option.some.inj hkn
    rw [Nat.zero_add, State.point_of_getElem? hx]
    cases x with
    | sample cfg st => exact ⟨cfg, st, rfl, by simpa [sampledEntry, PointCfg.inside] using hok⟩
    | empty | set => cases hok
  · rintro ⟨cfg, st, hx, himage, hin⟩
    exact ⟨p, .sample cfg st, State.getElem?_of_point hx (by simp), by simp [sampledEntry, himage, PointCfg.inside, hin]⟩

/-- Pieces of work that change nothing are passed over. -/
theorem runFor_idle (u : State) (k : Nat) (ts rest : List Task)
    (h : ∀ t ∈ ts, ∀ as, doTask t { u with agenda := as } = { u with agenda := as }) :
    runFor (ts.length + k) { u with agenda := ts ++ rest } = runFor k { u with agenda := rest } := by
  induction ts with
  | nil => rw [List.length_nil, Nat.zero_add]; rfl
  | cons t ts ih =>
    have hfirst := h t List.mem_cons_self (ts ++ rest)
    rw [List.length_cons, Nat.add_right_comm, runFor_cons (t := t) (ts := ts ++ rest) _ _ rfl]
    change runFor _ (doTask t { u with agenda := ts ++ rest }) = _
    rw [hfirst]
    exact ih fun x hx => h x (List.mem_cons_of_mem t hx)

theorem State.notifyArbiter_of_no_waits {u : State} (h : u.waits = []) {image len : Nat} : u.notifyArbiter image len = u := by
  unfold State.notifyArbiter
  rw [h]
  rfl

/-- The notices of a return pass find nothing in a part that stands at no step and has no gate, and in which no step waits. -/
theorem doTask_notice_idle {u : State} (hstep : ∀ c, (u.ctx c).step = none) (hgate : ∀ g, u.gate g = none) (hwaits : u.waits = [])
    (image len : Nat) :
    ∀ t ∈ (contexts.map fun c => Task.notifyCtx c image len) ++ gateNotices image len ++ [.notifyArbiter image len],
      ∀ as, doTask t { u with agenda := as } = { u with agenda := as } := by
  intro t ht as
  simp only [gateNotices, List.mem_append, List.mem_map, List.mem_flatMap, List.mem_cons, List.not_mem_nil, or_false] at ht
  rcases ht with (⟨c, -, rfl⟩ | ⟨g, -, rfl | rfl⟩) | rfl
  · have hstep' : (({ u with agenda := as } : State).ctx c).step = none := hstep c
    simp only [doTask, State.notifyCtx, hstep']
  · have hgate' : ({ u with agenda := as } : State).gate g = none := hgate g
    simp only [doTask, State.readGate, hgate']
  · have hgate' : ({ u with agenda := as } : State).gate g = none := hgate g
    simp only [doTask, State.compareGate, hgate']
  · exact State.notifyArbiter_of_no_waits (u := { u with agenda := as }) hwaits

theorem exec_processFrameReturn_of_process {s : State} {f : Frame} {image : Nat} (dt : Nat) (hgood : goodCheck f = true)
    (hclass : classify s.inUse.address f = .process image) :
    exec (.processFrameReturn dt f) s = .next (((s.advance dt).goodArrival.processReturn image f).settle) :=
  State.arriveD_of_process hgood hclass

/-- Settles O17: the stages are the agenda of the pass; in an idle part every piece but the last is passed over. -/
theorem quietReturnPass : Obligations.QuietReturnPass := by
  refine ⟨fun s dt f image hgood hclass => ⟨fun hload hagenda => ?_, fun hload => ?_⟩, fun n s t ts h => ?_, fun s f image => rfl,
    fun s dt f image hgood hclass hload hquiet hev hcol hstep hgate => ?_⟩ <;>
    try have hexec : exec (.processFrameReturn dt f) s = .next (((s.advance dt).goodArrival.processReturn image f).settle) :=
      State.arriveD_of_process hgood hclass
  · have hload' : (s.advance dt).goodArrival.loader.state = .loading := hload
    rw [exec_processFrameReturn_of_process dt hgood hclass, State.processReturn, if_pos hload']
    exact congrArg Host.Outcome.next (State.settle_of_nil _ hagenda)
  · refine ⟨s.evaluated image (payloadOf f).length, s.sampled image (payloadOf f).length, (pickFrom_index_pairwise _ 0 _).1,
      (pickFrom_index_pairwise _ 0 _).1, fun n => State.mem_evaluated, fun p => State.mem_sampled, ?_⟩
    have hload' : (s.advance dt).goodArrival.loader.state ≠ .loading := hload
    rw [exec_processFrameReturn_of_process dt hgood hclass, State.processReturn, if_neg hload']
    dsimp only
    rw [State.evaluations_eq, State.collections_eq]
    rfl
  · rw [settleFor, h]
  · intro b up
    have hload' : b.loader.state ≠ .loading := hload
    have hb := State.advance_quiet dt hquiet
    obtain ⟨hagenda, hwaits, -, -⟩ := (State.quiet_iff _).mp hb
    have hidle := doTask_notice_idle (u := b) (fun c => by
        have : b.ctx c = (s.ctx c).advance dt := s.ctx_advance dt c
        rw [this, Ctx.advance, hstep c]; rfl)
      hgate hwaits image (payloadOf f).length
    have hev' : b.evaluations image (payloadOf f) = [] := hev
    have hcol' : b.collections image (payloadOf f) = [] := hcol
    have hpass : b.processReturn image f =
        { b with agenda := ((contexts.map fun c => Task.notifyCtx c image (payloadOf f).length) ++ gateNotices image (payloadOf f).length
          ++ [.notifyArbiter image (payloadOf f).length]) ++ [.finishReturn image f] } := by
      rw [State.processReturn, if_neg hload']
      dsimp only
      rw [hev', hcol', State.push, show b.agenda = [] from hagenda]
      simp
    have hrun : runFor (23 + 1) (b.processReturn image f) = b.finishReturn image f := by
      rw [hpass]
      refine (runFor_idle b 1 _ _ hidle).trans ?_
      rw [runFor_cons (t := .finishReturn image f) (ts := []) 0 _ rfl]
      have hself : ({ b with agenda := [] } : State) = b := by
        have : b.agenda = [] := hagenda
        generalize b = v at this
        cases v; simp only at this; subst this; rfl
      change doTask (.finishReturn image f) { b with agenda := [] } = _
      rw [hself]; rfl
    have hdone : (b.finishReturn image f).agenda = [] := by
      rw [State.finishReturn_only]; exact hagenda
    rw [exec_processFrameReturn_of_process dt hgood hclass]
    change Host.Outcome.next (b.processReturn image f).settle = _
    rw [State.settle_of_run _ 24 (by decide) (by rw [hrun]; exact hdone), hrun]
    rfl

end Sys2Proof.Machine
end

section
/-!
The outbound pass of a PROCESS frame (R6, R26, R27, R43): which bytes it writes, and what it leaves of the points.
-/
namespace Sys2Proof.Machine

/-! ### Bytes laid over others -/

theorem getElem?_overlay (bs : List Byte) (k : Nat) (ns : List Byte) (i : Nat) :
    (overlay bs k ns)[i]? = if k ≤ i ∧ i < k + ns.length ∧ i < bs.length then ns[i - k]? else bs[i]? := by
  induction bs generalizing k ns i with
  | nil => simp [overlay]
  | cons b bs ih =>
    cases k with
    | zero =>
      cases ns with
      | nil => simp [overlay]
      | cons n ns =>
        cases i with
        | zero => simp [overlay]
        | succ i => simp [overlay, ih]
    | succ k =>
      cases i with
      | zero => simp [overlay]
      | succ i => simp [overlay, ih, Nat.succ_add]

/-- Bytes that fit are laid between those before and those behind them. -/
theorem overlay_eq {bs : List Byte} {k : Nat} {ns : List Byte} (h : k + ns.length ≤ bs.length) :
    overlay bs k ns = bs.take k ++ ns ++ bs.drop (k + ns.length) := by
  refine List.ext_getElem? fun i => ?_
  rw [getElem?_overlay, List.append_assoc]
  by_cases hlo : i < k
  · rw [if_neg (by omega), List.getElem?_append_left (by rw [List.length_take]; omega), List.getElem?_take_of_lt hlo]
  · rw [List.getElem?_append_right (by rw [List.length_take]; omega), List.length_take, Nat.min_eq_left (by omega)]
    by_cases hhi : i < k + ns.length
    · rw [if_pos (by omega), List.getElem?_append_left (by omega)]
    · rw [if_neg (by omega), List.getElem?_append_right (by omega), List.getElem?_drop]
      congr 1
      omega

theorem byteAt_eq_getElem? (bs : List Byte) (k : Nat) : byteAt bs k = (bs[k]?.getD 0).toNat := by
  rw [byteAt, List.getD_eq_getElem?_getD]

/-! ### Stamps (R26) -/

/-- The count that a stamp of the entry writes, and whether it clamps. -/
def State.rawOf (s : State) (cfg : PointCfg) (r : SetRec) : Nat × Bool := cfg.stampOf (r.currentValue s.now)

/-- What stamping leaves of an entry. -/
def State.stampedEntry (s : State) (image len : Nat) : Point → Point
  | .set cfg r =>
    if s.stamps image len cfg then .set cfg { r with saturated := (s.rawOf cfg r).2, lastRaw := some (s.rawOf cfg r).1 } else .set cfg r
  | q => q

/-- What stamping an entry leaves of the payload. -/
def State.stampField (s : State) (image len : Nat) (bs : List Byte) : Point → List Byte
  | .set cfg r => if s.stamps image len cfg then writeField bs cfg (s.rawOf cfg r).1 else bs
  | _ => bs

/-- The owner of an entry whose stamp clamps. -/
def State.clampedOf (s : State) (image len : Nat) : Point → List Nat
  | .set cfg r =>
    if s.stamps image len cfg then
      match cfg.owner with
      | .ctx c => if (s.rawOf cfg r).2 then [c] else []
      | .shared => []
    else []
  | _ => []

@[simp] theorem length_writeField (bs : List Byte) (cfg : PointCfg) (raw : Nat) : (writeField bs cfg raw).length = bs.length := by
  unfold writeField
  split <;> simp

@[simp] theorem State.length_stampField (s : State) (image len : Nat) (bs : List Byte) (q : Point) :
    (s.stampField image len bs q).length = bs.length := by
  unfold State.stampField
  split
  · split <;> simp
  · rfl

/-- Stamping, entry by entry: the length of the payload stays. -/
theorem State.stampAll_eq (s : State) (image : Nat) (ps : List Point) (bs : List Byte) :
    s.stampAll image ps bs =
      { payload := ps.foldl (s.stampField image bs.length) bs, points := ps.map (s.stampedEntry image bs.length),
        clamped := ps.flatMap (s.clampedOf image bs.length) } := by
  induction ps generalizing bs with
  | nil => rfl
  | cons p ps ih =>
    cases p with
    | set cfg r =>
      by_cases h : s.stamps image bs.length cfg = true
      · simp only [State.stampAll, if_pos h, ih, length_writeField, List.foldl_cons, List.map_cons, List.flatMap_cons, State.stampField,
          State.stampedEntry, State.clampedOf, State.rawOf]
        cases cfg.owner <;> rfl
      · simp only [State.stampAll, if_neg h, ih, List.foldl_cons, List.map_cons, List.flatMap_cons, State.stampField,
          State.stampedEntry, State.clampedOf, List.nil_append]
    | empty | sample => simp only [State.stampAll, ih]; rfl

theorem length_foldl_keep {α β : Type} {f : List α → β → List α} (h : ∀ bs q, (f bs q).length = bs.length) (qs : List β) (bs : List α) :
    (qs.foldl f bs).length = bs.length := by
  induction qs generalizing bs with
  | nil => rfl
  | cons q qs ih => rw [List.foldl_cons, ih, h]

/-- A field's bytes are those from its offset on, as wide as its encoding. -/
theorem getElem?_writeField {bs : List Byte} {cfg : PointCfg} {raw k : Nat}
    (h : k < cfg.offset ∨ cfg.offset + encodingWidth cfg.encoding ≤ k) : (writeField bs cfg raw)[k]? = bs[k]? := by
  unfold writeField
  cases henc : cfg.encoding <;> rw [henc] at h <;> simp only [encodingWidth] at h <;> rw [getElem?_overlay, if_neg] <;> simp <;> omega

/-- A byte that no stamp's field holds stays. -/
theorem State.getElem?_foldl_stampField {s : State} {image len k : Nat} {ps : List Point}
    (h : ∀ cfg r, Point.set cfg r ∈ ps → s.stamps image len cfg = true → k < cfg.offset ∨ cfg.offset + encodingWidth cfg.encoding ≤ k)
    (bs : List Byte) : (ps.foldl (s.stampField image len) bs)[k]? = bs[k]? := by
  induction ps generalizing bs with
  | nil => rfl
  | cons p ps ih =>
    rw [List.foldl_cons, ih fun cfg r hp => h cfg r (List.mem_cons_of_mem p hp)]
    cases p with
    | set cfg r =>
      unfold State.stampField
      dsimp only
      split
      · next hs => exact getElem?_writeField (h cfg r List.mem_cons_self hs)
      · rfl
    | empty | sample => rfl

theorem State.mem_clamped {s : State} {image len c : Nat} {ps : List Point} :
    c ∈ ps.flatMap (s.clampedOf image len) ↔ ∃ cfg r, Point.set cfg r ∈ ps ∧ cfg.owner = .ctx c
      ∧ s.stamps image len cfg = true ∧ (s.rawOf cfg r).2 = true := by
  rw [List.mem_flatMap]
  constructor
  · rintro ⟨p, hp, hc⟩
    cases p with
    | set cfg r =>
      unfold State.clampedOf at hc
      dsimp only at hc
      split at hc
      · next hs =>
        split at hc
        · next d ho =>
          split at hc
          · next hsat => exact ⟨cfg, r, hp, by rw [ho, List.mem_singleton.mp hc], hs, hsat⟩
          · exact absurd hc List.not_mem_nil
        · exact absurd hc List.not_mem_nil
      · exact absurd hc List.not_mem_nil
    | empty | sample => exact absurd hc List.not_mem_nil
  · rintro ⟨cfg, r, hp, ho, hs, hsat⟩
    exact ⟨_, hp, by simp [State.clampedOf, hs, ho, hsat]⟩

/-! ### Touch bytes (R43) -/

/-- One node's touch byte is cleared. -/
def clearTouch (image : Nat) (bs : List Byte) : Option Node → List Byte
  | some n => if n.cfg.image = image ∧ n.cfg.touch + 1 ≤ bs.length then overlay bs n.cfg.touch [0] else bs
  | none => bs

theorem zeroTouch_eq (image : Nat) (nodes : List (Option Node)) (bs : List Byte) :
    zeroTouch image nodes bs = nodes.foldl (clearTouch image) bs := by
  unfold zeroTouch
  congr 1

@[simp] theorem length_clearTouch (image : Nat) (bs : List Byte) (n : Option Node) : (clearTouch image bs n).length = bs.length := by
  unfold clearTouch
  split
  · split <;> simp
  · rfl

@[simp] theorem length_zeroTouch (image : Nat) (nodes : List (Option Node)) (bs : List Byte) :
    (zeroTouch image nodes bs).length = bs.length := by
  rw [zeroTouch_eq]
  exact length_foldl_keep (length_clearTouch image) nodes bs

/-- Clearing writes 0 at the node's touch byte, and nothing else. -/
theorem getElem?_clearTouch {image k : Nat} {bs : List Byte} {n : Option Node} :
    (clearTouch image bs n)[k]? = bs[k]? ∨ (clearTouch image bs n)[k]? = some 0 := by
  unfold clearTouch
  split
  · split
    · rw [getElem?_overlay]
      split
      · next n _ h =>
        have hk : k - n.cfg.touch = 0 := by rw [List.length_singleton] at h; omega
        rw [hk]; exact .inr rfl
      · exact .inl rfl
    · exact .inl rfl
  · exact .inl rfl

theorem getElem?_clearTouch_of_ne {image k : Nat} {bs : List Byte} {n : Option Node}
    (h : ∀ x, n = some x → x.cfg.image = image → x.cfg.touch ≠ k) : (clearTouch image bs n)[k]? = bs[k]? := by
  unfold clearTouch
  split
  · next x =>
    split
    · next hin =>
      have := h x rfl hin.1
      rw [getElem?_overlay, if_neg (by rw [List.length_singleton]; omega)]
    · rfl
  · rfl

theorem getElem?_zeroTouch_of_ne {image k : Nat} {nodes : List (Option Node)}
    (h : ∀ x, some x ∈ nodes → x.cfg.image = image → x.cfg.touch ≠ k) (bs : List Byte) : (zeroTouch image nodes bs)[k]? = bs[k]? := by
  rw [zeroTouch_eq]
  induction nodes generalizing bs with
  | nil => rfl
  | cons n nodes ih =>
    rw [List.foldl_cons, ih fun x hx => h x (List.mem_cons_of_mem n hx)]
    exact getElem?_clearTouch_of_ne fun x hx => h x (by rw [hx]; exact List.mem_cons_self)

/-- A byte that is 0 stays 0. -/
theorem byteAt_foldl_clearTouch {image k : Nat} (nodes : List (Option Node)) {bs : List Byte} (h : byteAt bs k = 0) :
    byteAt (nodes.foldl (clearTouch image) bs) k = 0 := by
  induction nodes generalizing bs with
  | nil => exact h
  | cons n nodes ih =>
    refine ih ?_
    rw [byteAt_eq_getElem?] at h ⊢
    rcases getElem?_clearTouch (image := image) (k := k) (bs := bs) (n := n) with e | e <;> rw [e]
    · exact h
    · rfl

/-- The touch byte of every node of the image reads 0, inside the frame or past its end. -/
theorem byteAt_zeroTouch {image : Nat} {nodes : List (Option Node)} {x : Node} (hx : some x ∈ nodes) (himage : x.cfg.image = image)
    (bs : List Byte) : byteAt (zeroTouch image nodes bs) x.cfg.touch = 0 := by
  rw [zeroTouch_eq]
  induction nodes generalizing bs with
  | nil => exact absurd hx List.not_mem_nil
  | cons n nodes ih =>
    rcases List.mem_cons.mp hx with rfl | hx
    · rw [List.foldl_cons]
      refine byteAt_foldl_clearTouch nodes ?_
      rw [byteAt_eq_getElem?]
      unfold clearTouch
      by_cases hin : x.cfg.touch + 1 ≤ bs.length
      · simp only [himage, hin, and_self, if_true]
        rw [getElem?_overlay, if_pos (by simp; omega)]
        simp
      · simp only [hin, and_false, if_false]
        rw [List.getElem?_eq_none (by omega)]
        rfl
    · exact ih hx _

/-! ### A payload in its frame -/

theorem payload_fits {address image : Nat} {f : Frame} (h : classify address f = .process image) : 5 + payloadLength f ≤ f.data.length := by
  unfold classify at h
  split at h
  · cases h
  · split at h
    · omega
    · cases h

theorem length_payloadOf {f : Frame} (h : 5 + payloadLength f ≤ f.data.length) : (payloadOf f).length = payloadLength f := by
  rw [payloadOf, List.length_take, List.length_drop]; omega

/-- A whole payload written into a frame stands between its header and the bytes behind. -/
theorem writePayload_data {f : Frame} {bs : List Byte} (h : 5 + payloadLength f ≤ f.data.length) (hbs : bs.length = payloadLength f) :
    (writePayload f 0 bs).data = f.data.take 5 ++ bs ++ f.data.drop (5 + payloadLength f) := by
  have hlen := length_payloadOf h
  rw [writePayload, overlay_eq (k := 0) (ns := bs) (by omega), overlay_eq (by simp; omega)]
  rw [Nat.zero_add, hbs, ← hlen, List.drop_length, List.take_zero, List.nil_append, List.append_nil, hbs, hlen]

theorem payloadOf_writePayload {f : Frame} {bs : List Byte} (h : 5 + payloadLength f ≤ f.data.length) (hbs : bs.length = payloadLength f) :
    payloadOf (writePayload f 0 bs) = bs := by
  have hdata := writePayload_data h hbs
  have hbyte : ∀ k, k < 5 → byteAt (writePayload f 0 bs).data k = byteAt f.data k := fun k hk => by
    rw [hdata, byteAt_eq_getElem?, byteAt_eq_getElem?, List.append_assoc, List.getElem?_append_left (by rw [List.length_take]; omega),
      List.getElem?_take_of_lt hk]
  have hlength : payloadLength (writePayload f 0 bs) = payloadLength f := by
    simp only [payloadLength, leAt, hbyte 3 (by decide), hbyte 4 (by decide)]
  have htake : (f.data.take 5).length = 5 := by rw [List.length_take]; omega
  rw [payloadOf, hlength, hdata, List.append_assoc, List.drop_append_of_le_length (by omega), List.drop_of_length_le (by omega),
    List.nil_append, List.take_append_of_le_length (by omega), List.take_of_length_le (by omega)]

/-! ### The pass -/

/-- The payload that an outbound pass leaves. -/
def State.outPayload (s : State) (image : Nat) (f : Frame) : List Byte :=
  zeroTouch image s.nodes (s.points.foldl (s.stampField image (payloadOf f).length) (payloadOf f))

@[simp] theorem State.length_outPayload (s : State) (image : Nat) (f : Frame) : (s.outPayload image f).length = (payloadOf f).length := by
  rw [State.outPayload, length_zeroTouch, length_foldl_keep (s.length_stampField image _)]

/-- The frame that an outbound pass sends. -/
def State.outFrame (s : State) (image : Nat) (f : Frame) : Frame := reform (writePayload f 0 (s.outPayload image f))

theorem State.processOutbound_of_ready {s : State} (image : Nat) (f : Frame) (h : s.loader.state ≠ .loading) :
    s.processOutbound image f =
      ({ s.count 48 with points := s.points.map (s.stampedEntry image (payloadOf f).length), sentD := some (s.outFrame image f) } :
        State).saturate (s.points.flatMap (s.clampedOf image (payloadOf f).length)) := by
  have h' : (s.count 48).loader.state ≠ .loading := h
  unfold State.processOutbound
  dsimp only
  rw [if_neg h', State.stampAll_eq]
  rfl

theorem State.processOutbound_arrived {a : State} (image : Nat) (f : Frame) (h : a.loader.state ≠ .loading) :
    a.goodArrival.processOutbound image f =
      ({ a.goodArrival.count 48 with points := a.points.map (a.stampedEntry image (payloadOf f).length), sentD := some (a.outFrame image f) } :
        State).saturate (a.points.flatMap (a.clampedOf image (payloadOf f).length)) :=
  State.processOutbound_of_ready (s := a.goodArrival) image f h

theorem payloadOf_outFrame {a : State} {image : Nat} {f : Frame} (h : 5 + payloadLength f ≤ f.data.length) :
    payloadOf (a.outFrame image f) = a.outPayload image f := by
  have hreform : payloadOf (a.outFrame image f) = payloadOf (writePayload f 0 (a.outPayload image f)) := by
    simp only [State.outFrame, payloadOf, payloadLength, reform_data]
  rw [hreform]
  exact payloadOf_writePayload h (by rw [State.length_outPayload, length_payloadOf h])

theorem State.saturate_sentD (s : State) (clamped : List Nat) : (s.saturate clamped).sentD = s.sentD := by
  rw [State.saturate_eq, State.push_sentD, State.foldl_markSaturated_only]

theorem State.saturate_points (s : State) (clamped : List Nat) : (s.saturate clamped).points = s.points := by
  rw [State.saturate_eq, State.push_points, State.foldl_markSaturated_only]

theorem State.length_ctxs_saturate (s : State) (clamped : List Nat) : (s.saturate clamped).ctxs.length = s.ctxs.length := by
  rw [State.saturate_eq, State.push_ctxs]
  generalize s.saturated clamped = cs
  induction cs generalizing s with
  | nil => rfl
  | cons c cs ih => rw [List.foldl_cons, ih]; simp [State.markSaturated]

/-- A counter that is no SATURATIONS is not touched by marks. -/
theorem State.counter_saturate {s : State} (clamped : List Nat) {n : Nat} (hn : ∀ c, c < 6 → 8 * c + 6 ≠ n) :
    (s.saturate clamped).counter n = s.counter n := by
  have hmarks : ∀ cs : List Nat, (∀ c ∈ cs, 8 * c + 6 ≠ n) → ∀ u : State, (cs.foldl State.markSaturated u).counter n = u.counter n := by
    intro cs hcs
    induction cs with
    | nil => exact fun _ => rfl
    | cons c cs ih =>
      intro u
      rw [List.foldl_cons, ih (fun d hd => hcs d (List.mem_cons_of_mem c hd))]
      exact State.counter_count_of_ne _ (hcs c List.mem_cons_self)
  rw [State.saturate_eq]
  exact hmarks _ (fun c hc => hn c (State.mem_saturated.mp hc).1) s

theorem State.sentD_settle (s : State) : s.settle.sentD = s.sentD := by
  have := s.kept_settle
  simp only [State.kept, Prod.mk.injEq] at this
  exact this.2.2.2.2.1

/-- A stamped entry keeps its stamp through the event's work. -/
theorem State.stamp_settle {s : State} {p : Nat} {cfg : PointCfg} {r : SetRec} (h : s.point p = .set cfg r) :
    ∃ r', s.settle.point p = .set cfg r' ∧ r'.lastRaw = r.lastRaw ∧ r'.saturated = r.saturated := by
  obtain ⟨q, hq, hmoves⟩ := forall₂_getElem?_left s.points_settle (State.getElem?_of_point h (by simp))
  cases hmoves with
  | set _ _ r' _ hsaturated hraw => exact ⟨r', State.point_of_getElem? hq, hraw, hsaturated⟩

theorem State.point_map {s : State} {p : Nat} {q : Point} (f : Point → Point) (h : s.point p = q) (hq : q ≠ .empty) :
    (s.points.map f).getD p .empty = f q := by
  rw [List.getD_eq_getElem?_getD, List.getElem?_map, State.getElem?_of_point h hq]; rfl

/-- Settles O16: the pass is one map of the entries, one fold of the payload, and the marks; its work then leaves the stamps and the frame. -/
theorem outboundPassStamps : Obligations.OutboundPassStamps := by
  refine ⟨fun s dt f image hgood hclass hload => ?_, fun s dt f image hgood hclass hload hagenda => ?_⟩ <;>
    have hexec : exec (.processFrameOutbound dt f) s = .next (((s.advance dt).goodArrival.processOutbound image f).settle) :=
      State.arriveU_of_process hgood hclass
  · intro a raw stamped written
    have hfits := payload_fits hclass
    have hlen := length_payloadOf hfits
    have hstamped : a.stampedEntry image (payloadOf f).length = stamped := by
      funext q; cases q <;> rfl
    have hwritten : a.stampField image (payloadOf f).length = written := by
      funext bs q; cases q <;> rfl
    have hb := State.processOutbound_arrived (a := a) image f hload
    have hout : a.outPayload image f = zeroTouch image s.nodes (s.points.foldl written (payloadOf f)) := by
      rw [← hwritten]; rfl
    have hdata := writePayload_data (bs := a.outPayload image f) hfits (by rw [State.length_outPayload, hlen])
    have hpayload := payloadOf_outFrame (a := a) (image := image) hfits
    refine ⟨_, a.outFrame image f, s.points.flatMap (a.clampedOf image (payloadOf f).length), hexec, ?_, fun c => ?_, ?_, ?_,
      goodCheck_reform _, ?_, ?_, ?_, ?_, ?_, fun n x hn himage => ?_, fun k hfields hnodes => ?_, fun hsize => ?_, fun p cfg r hp hs => ?_⟩
    · rw [hb, ← hstamped]
      rfl
    · rw [State.mem_clamped]
      constructor
      · rintro ⟨cfg, r, hmem, h⟩
        obtain ⟨p, hp⟩ := List.mem_iff_getElem?.mp hmem
        exact ⟨p, cfg, r, State.point_of_getElem? hp, h⟩
      · rintro ⟨p, cfg, r, hp, h⟩
        exact ⟨cfg, r, List.mem_of_getElem? (State.getElem?_of_point hp (by simp)), h⟩
    · rw [hpayload, hout]
    · rw [State.sentD_settle, hb, State.saturate_sentD]
    · simp [State.outFrame]
    · simp [State.outFrame]
    · simp [State.outFrame]
    · rw [State.outFrame, reform_data, hdata, List.append_assoc, List.take_append_of_le_length (by rw [List.length_take]; omega),
        List.take_take]; rfl
    · have hhead : (f.data.take 5 ++ a.outPayload image f).length = 5 + payloadLength f := by
        rw [List.length_append, List.length_take, State.length_outPayload, hlen]; omega
      rw [State.outFrame, reform_data, hdata, List.drop_append_of_le_length (by omega), List.drop_of_length_le (by omega), List.nil_append]
    · rw [hpayload, hout]
      exact byteAt_zeroTouch (List.mem_of_getElem? (State.getElem?_of_node hn)) himage _
    · have hno : ∀ x, some x ∈ a.nodes → x.cfg.image = image → x.cfg.touch ≠ k := fun x hx himage => by
        obtain ⟨n, hn⟩ := List.mem_iff_getElem?.mp hx
        exact hnodes n x (State.node_of_getElem? hn) himage
      have hout : ∀ cfg r, Point.set cfg r ∈ a.points → a.stamps image (payloadOf f).length cfg = true →
          k < cfg.offset ∨ cfg.offset + encodingWidth cfg.encoding ≤ k := fun cfg r hmem hs => by
        obtain ⟨p, hp⟩ := List.mem_iff_getElem?.mp hmem
        exact hfields p cfg r (State.point_of_getElem? hp) hs
      rw [hpayload, State.outPayload, getElem?_zeroTouch_of_ne hno, State.getElem?_foldl_stampField hout]
    · have hctxs : a.goodArrival.ctxs.length = 6 := by
        change (s.ctxs.map _).length = 6
        rw [List.length_map, State.length_ctxs_of_sizes ((State.sized_iff s).mp hsize)]; rfl
      rw [hb, State.counter_settle (by rw [State.length_ctxs_saturate]; exact hctxs) (by decide) (by decide),
        State.counter_saturate _ fun c hc => by omega]
      exact State.counter_count_self (s := a) (by change 48 < s.counters.length; rw [State.length_counters hsize]; decide)
    · have hpoint := State.point_map (a.stampedEntry image (payloadOf f).length) hp (by simp)
      simp only [State.stampedEntry, if_pos hs] at hpoint
      have hbase : (a.goodArrival.processOutbound image f).point p = .set cfg
          { r with saturated := (a.rawOf cfg r).2, lastRaw := some (a.rawOf cfg r).1 } := by
        rw [hb, State.point, State.saturate_points]; exact hpoint
      obtain ⟨r', hr', hraw, hsat⟩ := State.stamp_settle hbase
      exact ⟨r', hr', hraw, hsat⟩
  · have hload' : ((s.advance dt).goodArrival.count 48).loader.state = .loading := hload
    rw [hexec, State.processOutbound]
    dsimp only
    rw [if_pos hload']
    exact congrArg Host.Outcome.next (State.settle_of_nil _ hagenda)

end Sys2Proof.Machine
end

section
/-!
Where a rest step and a step's items bring the points (R25, R79, R96).
-/
namespace Sys2Proof.Machine

/-! ### Points under the items of a step -/

theorem State.point_retarget_of_ne {s : State} {p k t d : Nat} (h : k ≠ p) : (s.retarget k t d).point p = s.point p := by
  unfold State.retarget
  split
  · exact State.point_setPoint_of_ne _ _ h
  · rfl

theorem State.point_retarget_self {s : State} {p t d : Nat} {cfg : PointCfg} {r : SetRec} (h : s.point p = .set cfg r) :
    (s.retarget p t d).point p = .set cfg (r.retarget s.now t d) := by
  unfold State.retarget
  rw [h]
  exact State.point_setPoint_self _ _ _ (State.lt_of_point h (by simp))

/-- Items leave a point that none of them names. -/
theorem State.point_applyItems_of_unnamed {s : State} {is : List SetItem} {p : Nat} (h : ∀ k ∈ is, k.point ≠ p) :
    (s.applyItems is).point p = s.point p := by
  induction is generalizing s with
  | nil => rfl
  | cons i is ih =>
    rw [State.applyItems, ih fun k hk => h k (by simp [hk])]
    exact State.point_retarget_of_ne (h i (by simp))

@[simp] theorem State.applyItems_now (s : State) (is : List SetItem) : (s.applyItems is).now = s.now := by
  induction is generalizing s with
  | nil => rfl
  | cons i is ih => rw [State.applyItems, ih, State.retarget_now]

/-- Items retarget a point that exactly one of them names. -/
theorem State.point_applyItems_of_named {s : State} {is before after : List SetItem} {i : SetItem} {p : Nat} {cfg : PointCfg} {r : SetRec}
    (hp : s.point p = .set cfg r) (his : is = before ++ i :: after) (hi : i.point = p) (h : ∀ k ∈ before ++ after, k.point ≠ p) :
    (s.applyItems is).point p = .set cfg (r.retarget s.now i.target (i.ramp * 1000)) := by
  subst his
  induction before generalizing s with
  | nil =>
    rw [List.nil_append, State.applyItems, State.point_applyItems_of_unnamed fun k hk => h k (by simpa using hk), hi]
    exact State.point_retarget_self hp
  | cons k before ih =>
    rw [List.cons_append, State.applyItems, ih ?_ fun k hk => h k (by simp at hk ⊢; exact .inr hk), State.retarget_now]
    rw [State.point_retarget_of_ne (h k (by simp)), hp]

theorem State.point_zeroOthers_of_set {s : State} {c p : Nat} {is : List SetItem} {cfg : PointCfg} {r : SetRec} (hp : s.point p = .set cfg r) :
    (s.zeroOthers c is).point p =
      .set cfg (if cfg.flowOrPower && cfg.owner == .ctx c && !(is.any fun i => i.point == p) then r.retarget s.now 0 0 else r) := by
  rw [State.point, State.zeroOthers, List.getD_eq_getElem?_getD]
  simp only [getElem?_mapFrom, State.getElem?_of_point hp (by simp)]
  simp only [Option.map_some, Option.getD_some, Nat.zero_add]
  split <;> rfl

theorem State.point_zeroOthers_of_not_set {s : State} {c p : Nat} {is : List SetItem} (hp : ∀ cfg r, s.point p ≠ .set cfg r) :
    (s.zeroOthers c is).point p = s.point p := by
  rw [State.point, State.point, State.zeroOthers, List.getD_eq_getElem?_getD, List.getD_eq_getElem?_getD]
  simp only [getElem?_mapFrom]
  have hp' : ∀ cfg r, s.points[p]? ≠ some (.set cfg r) := fun cfg r h => hp cfg r (State.point_of_getElem? h)
  cases hq : s.points[p]? with
  | none => rfl
  | some q =>
    cases q with
    | set cfg r => exact absurd hq (hp' cfg r)
    | empty => rfl
    | sample => rfl

theorem State.point_applyItems_of_not_set {s : State} {p : Nat} {is : List SetItem} (hp : ∀ cfg r, s.point p ≠ .set cfg r) :
    (s.applyItems is).point p = s.point p := by
  induction is generalizing s with
  | nil => rfl
  | cons i is ih =>
    have hstep : (s.retarget i.point i.target (i.ramp * 1000)).point p = s.point p := by
      by_cases h : i.point = p
      · unfold State.retarget
        split
        · next cfg r hr => exact absurd (h ▸ hr) (hp cfg r)
        · rfl
      · exact State.point_retarget_of_ne h
    rw [State.applyItems, ih fun cfg r => by rw [hstep]; exact hp cfg r, hstep]

theorem PointCfg.flowOrPower_iff (cfg : PointCfg) : cfg.flowOrPower = true ↔ cfg.quantity = .flow ∨ cfg.quantity = .power := by
  unfold PointCfg.flowOrPower
  cases cfg.quantity <;> decide

/-- A rest step retargets the point that one of its items names (R79 stage 1). -/
theorem State.point_applyRest_of_named {s : State} {c h p : Nat} {before after : List SetItem} {i : SetItem} {cfg : PointCfg} {r : SetRec}
    (hp : s.point p = .set cfg r) (his : s.restItems h = before ++ i :: after) (hi : i.point = p) (hk : ∀ k ∈ before ++ after, k.point ≠ p) :
    (s.applyRest c h).point p = .set cfg (r.retarget s.now i.target (i.ramp * 1000)) := by
  rw [State.applyRest, State.point_zeroOthers_of_set (State.point_applyItems_of_named hp his hi hk)]
  have : ((s.restItems h).any fun i => i.point == p) = true := by rw [his]; simp [hi]
  simp [this]

/-- A rest step brings a FLOW or POWER point of its context that it does not name to 0, and leaves every other (R79 stage 2). -/
theorem State.point_applyRest_of_unnamed {s : State} {c h p : Nat} {cfg : PointCfg} {r : SetRec}
    (hp : s.point p = .set cfg r) (hk : ∀ k ∈ s.restItems h, k.point ≠ p) :
    (s.applyRest c h).point p =
      .set cfg (if cfg.owner = .ctx c ∧ (cfg.quantity = .flow ∨ cfg.quantity = .power) then r.retarget s.now 0 0 else r) := by
  have hnone : ((s.restItems h).any fun i => i.point == p) = false := by simpa [List.any_eq_false] using hk
  rw [State.applyRest, State.point_zeroOthers_of_set (by rw [State.point_applyItems_of_unnamed hk]; exact hp), State.applyItems_now, hnone]
  have hcond : (cfg.flowOrPower && cfg.owner == .ctx c && !false) = true ↔
      cfg.owner = .ctx c ∧ (cfg.quantity = .flow ∨ cfg.quantity = .power) := by
    simp only [Bool.not_false, Bool.and_true, Bool.and_eq_true, beq_iff_eq, PointCfg.flowOrPower_iff]
    exact and_comm
  simp only [hcond]

theorem State.point_applyRest_of_not_set {s : State} {c h p : Nat} (hp : ∀ cfg r, s.point p ≠ .set cfg r) :
    (s.applyRest c h).point p = s.point p := by
  have hitems := State.point_applyItems_of_not_set (is := s.restItems h) hp
  rw [State.applyRest, State.point_zeroOthers_of_not_set (by rw [hitems]; exact hp), hitems]

end Sys2Proof.Machine
end

section
/-!
The soft reset (R191) in closed form: what the walks read is as it stood, so each context's walks have the outcome that they had, and no
use count comes near its limit.
-/
namespace Sys2Proof.Machine

/-! ### What a walk reads -/

/-- What a walk reads of a point: its configuration, and whether it is a SAMPLE point. -/
def Point.shape : Point → Option (PointCfg × Bool)
  | .empty => none
  | .set cfg _ => some (cfg, false)
  | .sample cfg _ => some (cfg, true)

/-- Two states that a walk does not tell apart. -/
structure State.SamePaths (s u : State) : Prop where
  records : u.records = s.records
  points : ∀ p, (u.point p).shape = (s.point p).shape
  gates : u.gates.map (Option.map (·.cfg)) = s.gates.map (Option.map (·.cfg))
  groups : ∀ g, (u.group g).members = (s.group g).members

section
variable {s u : State} (h : s.SamePaths u)
include h

theorem State.SamePaths.gate (g : Nat) : (u.gate g).map (·.cfg) = (s.gate g).map (·.cfg) := by
  have hg := congrArg (·[g]?) h.gates
  simp only [List.getElem?_map] at hg
  simp only [State.gate, List.getD_eq_getElem?_getD]
  cases hu : u.gates[g]? <;> cases hs : s.gates[g]? <;> simp_all

theorem State.SamePaths.isOpenOutput (p : Nat) : u.isOpenOutput p = s.isOpenOutput p := by
  have hany : ∀ v : State, v.isOpenOutput p = (v.gates.map (Option.map (·.cfg))).any fun g => g.any fun cfg => cfg.openOut == p := fun v => by
    rw [State.isOpenOutput, List.any_map]
    refine congrArg v.gates.any (funext fun g => ?_)
    cases g <;> rfl
  rw [hany, hany, h.gates]

theorem State.SamePaths.set {p : Nat} {cfg : PointCfg} {r : SetRec} (hp : s.point p = .set cfg r) : ∃ r', u.point p = .set cfg r' := by
  have hshape := h.points p
  rw [hp] at hshape
  cases hu : u.point p with
  | set cfg' r' =>
    rw [hu] at hshape
    simp only [Point.shape, Option.some.injEq, Prod.mk.injEq, and_true] at hshape
    exact ⟨r', by rw [hshape]⟩
  | empty => rw [hu] at hshape; cases hshape
  | sample => rw [hu] at hshape; cases hshape

theorem State.SamePaths.drives (c p : Nat) : u.drives c p = s.drives c p := by
  have hp := h.points p
  unfold State.drives
  rw [h.isOpenOutput]
  cases hs : s.point p <;> cases hu : u.point p <;> simp_all [Point.shape]

theorem State.SamePaths.quantityOf (p : Nat) : u.quantityOf p = s.quantityOf p := by
  have hp := h.points p
  unfold State.quantityOf
  cases hs : s.point p <;> cases hu : u.point p <;> simp_all [Point.shape]

theorem State.SamePaths.reads (c p : Nat) : u.reads c p = s.reads c p := by
  have hp := h.points p
  unfold State.reads
  cases hs : s.point p <;> cases hu : u.point p <;> simp_all [Point.shape]

theorem State.SamePaths.hotItem (i : Item) : u.hotItem i = s.hotItem i := by
  cases i with
  | set i =>
    have hp := h.points i.point
    unfold State.hotItem
    dsimp only
    cases hs : s.point i.point <;> cases hu : u.point i.point <;> simp_all [Point.shape]
  | empty => rfl
  | band => rfl
  | cond => rfl

theorem State.SamePaths.itemReason (c : Nat) (sets : List SetItem) (i : Item) : u.itemReason c sets i = s.itemReason c sets i := by
  unfold State.itemReason
  simp only [h.drives, h.quantityOf, h.reads]

theorem State.SamePaths.pointFault (c : Nat) (sets : List SetItem) (ps : List Placed) : u.pointFault c sets ps = s.pointFault c sets ps := by
  induction ps with
  | nil => rfl
  | cons p ps ih => simp only [State.pointFault, h.itemReason, ih]

omit h in
/-- The plant's check in the gates' configurations. -/
theorem State.plantFault_eq (v : State) (c k : Nat) (hd : Head) :
    v.plantFault c k hd = firstFault
      [ headFault .gateNotOwned k (hd.kind.gate && !hd.gate.any fun g => ((v.gate g).map (·.cfg)).any (·.owner == c)),
        headFault .groupNotMember k (hd.kind == .pump && !hd.group.all fun g => (v.group g).members.contains c) ] := by
  unfold State.plantFault
  cases hd.gate with
  | none => rfl
  | some g => cases hg : v.gate g <;> simp [hg]

theorem State.SamePaths.plantFault (c k : Nat) (hd : Head) : u.plantFault c k hd = s.plantFault c k hd := by
  simp only [State.plantFault_eq, h.gate, h.groups]

theorem State.SamePaths.purposeFault (purpose : Purpose) (k : Nat) (st : Step) (ps : List Placed) :
    u.purposeFault purpose k st ps = s.purposeFault purpose k st ps := by
  have hhot : u.hotItem = s.hotItem := funext h.hotItem
  unfold State.purposeFault
  rw [hhot]

theorem State.SamePaths.stepFault (c k : Nat) : u.stepFault c k = s.stepFault c k := by
  unfold State.stepFault
  simp only [h.records, h.pointFault, h.plantFault]

theorem State.SamePaths.walkOn (c : Nat) (purpose : Purpose) (n k : Nat) (visited open' path : List Nat) :
    u.walkOn c purpose n k visited open' path = s.walkOn c purpose n k visited open' path := by
  induction n generalizing k visited open' path with
  | zero => rfl
  | succ n ih => simp only [State.walkOn, h.stepFault, h.records, h.purposeFault, ih]

theorem State.SamePaths.walkAll (c : Nat) (starts : List (Purpose × Nat)) : u.walkAll c starts = s.walkAll c starts := by
  induction starts with
  | nil => rfl
  | cons p starts ih => simp only [State.walkAll, State.walk, h.walkOn, ih]

theorem State.SamePaths.restItems (k : Nat) : u.restItems k = s.restItems k := by rw [State.restItems, h.records]; rfl

end

/-! ### Paths far from the use limit (R70) -/

theorem mem_addPath_le {us path : List Nat} {b : Nat} (h : ∀ n ∈ us, n ≤ b) : ∀ n ∈ addPath us path, n ≤ b + 1 := fun n hn => by
  obtain ⟨i, hi⟩ := List.mem_iff_getElem?.mp hn
  rw [getElem?_addPath] at hi
  obtain ⟨m, hm, rfl⟩ := Option.map_eq_some_iff.mp hi
  have := h m (List.mem_of_getElem? hm)
  split <;> omega

theorem countPath_of_below {us path : List Nat} (h : ∀ n ∈ us, n < 60) : countPath us path = .ok (addPath us path) := by
  have hlimit : useLimit us path = none := by
    rw [useLimit, List.min?_eq_none_iff, List.filter_eq_nil_iff]
    intro i _
    rw [decide_eq_true_eq, Nat.not_le, List.getD_eq_getElem?_getD]
    cases hi : us[i]? with
    | none => simp
    | some n => exact h n (List.mem_of_getElem? hi)
  unfold countPath
  rw [hlimit]

/-- Few paths on low counts are all counted, and raise each count by no more than their number. -/
theorem countAll_of_below {ps : List (Purpose × List Nat)} {us : List Nat} {b : Nat} (h : ∀ n ∈ us, n ≤ b) (hb : b + ps.length ≤ 60) :
    ∃ us', countAll us ps = .ok us' ∧ ∀ n ∈ us', n ≤ b + ps.length := by
  induction ps generalizing us b with
  | nil => exact ⟨us, rfl, h⟩
  | cons p ps ih =>
    simp only [List.length_cons] at hb ⊢
    obtain ⟨us', hall, hle⟩ := ih (us := addPath us p.2) (b := b + 1) (mem_addPath_le h) (by omega)
    refine ⟨us', ?_, fun n hn => (hle n hn).trans (by omega)⟩
    simp only [countAll, countPath_of_below (path := p.2) fun n hn => Nat.lt_of_le_of_lt (h n hn) (by omega)]
    exact hall

/-- With no path held and low counts the outcome of a validation is that of its walks. -/
theorem State.validate_of_below {s : State} {c b : Nat} {cfg : CtxCfg} {paths : List (List Nat)} (hpaths : (s.ctx c).paths = [])
    (h : ∀ n ∈ s.useCounts, n ≤ b) (hb : b + 6 ≤ 60) (hw : s.walkAll c cfg.starts = .ok paths) :
    ∃ us, s.validate c cfg = .ok (paths, us) ∧ ∀ n ∈ us, n ≤ b + 6 := by
  have hlen : ((cfg.starts.map (·.1)).zip paths).length = 6 := by
    rw [List.length_zip, List.length_map, State.length_walkAll hw]; rfl
  obtain ⟨us, hall, hle⟩ := countAll_of_below (ps := (cfg.starts.map (·.1)).zip paths) h (by omega)
  rw [hlen] at hle
  refine ⟨us, ?_, hle⟩
  unfold State.validate
  rw [hw, hpaths]
  simp only [List.foldl_nil, hall]

theorem State.validate_of_error {s : State} {c : Nat} {cfg : CtxCfg} {e : Purpose × WalkFault} (hw : s.walkAll c cfg.starts = .error e) :
    s.validate c cfg = .error e := by
  unfold State.validate
  rw [hw]

/-! ### The revalidation of one context -/

/-- A context that holds nothing of the plant has nothing to release (R133). -/
theorem State.release_of_free {s : State} {c : Nat} (h : s.holdsPlant c = false) : s.release c = s := by
  simp only [State.holdsPlant, Bool.or_eq_false_iff, List.any_eq_false, decide_eq_true_eq, beq_iff_eq] at h
  obtain ⟨hlines, hgroups⟩ := h
  have hl : s.lines.map (fun x => { x with reservations := x.reservations.set c 0 }) = s.lines := by
    refine (List.map_congr_left (g := id) fun x hx => ?_).trans (List.map_id _)
    have hzero : x.reserved c = 0 := Nat.eq_zero_of_not_pos (hlines x hx)
    have hset : x.reservations.set c 0 = x.reservations := by
      refine List.ext_getElem (by simp) fun i h1 h2 => ?_
      rw [List.getElem_set]
      split
      · next hi => subst hi; rw [Supply.reserved, List.getD_eq_getElem _ _ h2] at hzero; exact hzero.symm
      · rfl
    rw [hset]; rfl
  have hg : s.groups.map (fun g => if g.holder = some c then { g with holder := none } else g) = s.groups :=
    (List.map_congr_left (g := id) fun g hg => if_neg (hgroups g hg)).trans (List.map_id _)
  rw [State.release, hl, hg]

/-- What a soft reset leaves of a context (R73, R93). -/
def State.resetCtx (s : State) (c : Nat) : Ctx :=
  let x := (s.ctx c).softReset
  if x.state = .offline then x
  else match s.walkAll c x.cfg.starts with
    | .error _ => { x with state := .offline, cur := none }
    | .ok paths => x.revalidated s.now paths

/-- The record of point p of a context that comes to rest on its idle step after a soft reset (R38, R79). -/
def State.restRec (s : State) (c p : Nat) : SetRec :=
  match (s.restItems (s.ctx c).cfg.idleStep).find? fun i => i.point == p with
  | some i => { SetRec.fresh s.now with t := i.target, d := i.ramp * 1000 }
  | none => SetRec.fresh s.now

/-- The record of a SET point when the contexts below n have been revalidated. -/
def State.resetRec (s : State) (n p : Nat) (cfg : PointCfg) : SetRec :=
  match cfg.owner with
  | .ctx c => if c < n ∧ (s.resetCtx c).state = .idle then s.restRec c p else SetRec.fresh s.now
  | _ => SetRec.fresh s.now

/-- Half-way through a soft reset: the contexts below n have been revalidated. -/
structure State.Restored (s u : State) (n : Nat) : Prop where
  frame : ∃ ctxs points useCounts, u = { s.softResetTables with ctxs := ctxs, points := points, useCounts := useCounts }
  done : ∀ c, c < n → u.ctx c = s.resetCtx c
  todo : ∀ c, n ≤ c → u.ctx c = (s.ctx c).softReset
  sets : ∀ p cfg r, s.point p = .set cfg r → u.point p = .set cfg (s.resetRec n p cfg)
  others : ∀ p, (∀ cfg r, s.point p ≠ .set cfg r) → u.point p = (s.point p).softReset s.now
  uses : ∀ k ∈ u.useCounts, k ≤ 6 * n
  length : u.ctxs.length = 6

theorem State.ctx_softResetTables (s : State) (c : Nat) : s.softResetTables.ctx c = (s.ctx c).softReset := by
  simp only [State.ctx, State.softResetTables, State.softResetArbiter, State.softResetRing, List.getD_eq_getElem?_getD, List.getElem?_map]
  cases s.ctxs[c]? <;> rfl

theorem State.point_softResetTables (s : State) (p : Nat) : s.softResetTables.point p = (s.point p).softReset s.now := by
  simp only [State.point, State.softResetTables, State.softResetArbiter, State.softResetRing, List.getD_eq_getElem?_getD, List.getElem?_map]
  cases s.points[p]? <;> rfl

theorem State.resetRec_zero (s : State) (p : Nat) (cfg : PointCfg) : s.resetRec 0 p cfg = SetRec.fresh s.now := by
  unfold State.resetRec
  split
  · rw [if_neg (by omega)]
  · rfl

theorem State.restored_softResetTables {s : State} (h : s.sized = true) : s.Restored s.softResetTables 0 where
  frame := ⟨_, _, _, rfl⟩
  done _ hc := absurd hc (Nat.not_lt_zero _)
  todo c _ := s.ctx_softResetTables c
  sets p cfg r hp := by rw [s.point_softResetTables, hp, s.resetRec_zero]; rfl
  others p _ := s.point_softResetTables p
  uses k hk := by
    obtain ⟨-, -, rfl⟩ := List.mem_map.mp hk
    exact Nat.zero_le _
  length := by
    change (s.ctxs.map Ctx.softReset).length = 6
    rw [List.length_map, State.length_ctxs_of_sizes ((State.sized_iff s).mp h)]
    rfl

theorem State.Restored.samePaths {s u : State} {n : Nat} (h : s.Restored u n) : s.SamePaths u := by
  obtain ⟨ctxs, points, useCounts, hframe⟩ := h.frame
  refine ⟨by rw [hframe]; rfl, fun p => ?_, ?_, fun g => ?_⟩
  · cases hp : s.point p with
    | set cfg r => rw [h.sets p cfg r hp]; rfl
    | empty => rw [h.others p (by simp [hp]), hp]; rfl
    | sample cfg st => rw [h.others p (by simp [hp]), hp]; rfl
  · have hgates : u.gates = s.gates.map (Option.map Gate.softReset) := by rw [hframe]; rfl
    rw [hgates, List.map_map]
    refine List.map_congr_left fun g _ => ?_
    cases g <;> rfl
  · have hgroups : u.groups = s.groups.map fun g => { g with holder := none } := by rw [hframe]; rfl
    rw [State.group, State.group, hgroups, List.getD_eq_getElem?_getD, List.getD_eq_getElem?_getD, List.getElem?_map]
    cases s.groups[g]? <;> rfl

/-- A revalidation whose walks pass moves its context, the points of its idle step and the use counts. -/
theorem State.revalidate_of_walks {u : State} {c b : Nat} {paths : List (List Nat)} (hcl : u.Cleared c) (hs : (u.ctx c).state ≠ .offline)
    (hw : u.walkAll c (u.ctx c).cfg.starts = .ok paths) (hb : ∀ k ∈ u.useCounts, k ≤ b) (hlow : b + 6 ≤ 60) :
    ∃ us, u.revalidate c = { (u.applyRest c (u.ctx c).cfg.idleStep).setCtx c ((u.ctx c).revalidated u.now paths) with useCounts := us }
      ∧ ∀ k ∈ us, k ≤ b + 6 := by
  obtain ⟨hpaths, -, -⟩ := Ctx.queue_of_jobs hcl.jobs
  obtain ⟨us, hv, hle⟩ := State.validate_of_below hpaths hb hlow hw
  refine ⟨us, ?_, hle⟩
  have hfree : (u.applyRest c (u.ctx c).cfg.idleStep).holdsPlant c = false := by rw [State.applyRest_only]; exact hcl.plant
  rw [State.revalidate_of_ok hcl hs hv, State.release_of_free hfree]

/-- The step at which a configuration whose walks pass idles is accepted for its context. -/
theorem State.idleStep_of_walks {s : State} {c : Nat} {cfg : CtxCfg} {paths : List (List Nat)} (hw : s.walkAll c cfg.starts = .ok paths) :
    ∃ st, stepAt s.records cfg.idleStep = some st ∧ st.Accepted s c .idle := by
  rw [CtxCfg.starts, State.walkAll] at hw
  split at hw
  · cases hw
  · next path hpath =>
    obtain ⟨hmem, ⟨st, hst⟩, hok⟩ := s.walk_eq_ok hpath
    exact ⟨st, hst, hok.accepted _ hmem st hst⟩

theorem SetRec.retarget_fresh (now : Time) (t d : Nat) : (SetRec.fresh now).retarget now t d = { SetRec.fresh now with t := t, d := d } := by
  simp [SetRec.retarget, SetRec.rampValue, SetRec.fresh]

/-- Where the idle step of an accepted configuration brings a fresh record of its own context. -/
theorem State.point_applyRest_of_fresh {u : State} {c k p : Nat} {st : Step} {cfg : PointCfg} (hst : stepAt u.records k = some st)
    (hok : st.Accepted u c .idle) (hp : u.point p = .set cfg (SetRec.fresh u.now)) :
    (u.applyRest c k).point p = .set cfg (match (u.restItems k).find? fun i => i.point == p with
      | some i => { SetRec.fresh u.now with t := i.target, d := i.ramp * 1000 }
      | none => SetRec.fresh u.now) := by
  have hitems : u.restItems k = st.sets := by rw [State.restItems, hst]
  cases hfind : (u.restItems k).find? fun i => i.point == p with
  | none =>
    rw [State.point_applyRest_of_unnamed hp (by simpa [List.find?_eq_none] using hfind), SetRec.retarget_fresh]
    split <;> rfl
  | some i =>
    obtain ⟨hi, before, after, his, hbefore⟩ := List.find?_eq_some_iff_append.mp hfind
    have hip : i.point = p := by simpa using hi
    have hnodup := hok.limits.1
    rw [← hitems, his, List.map_append, List.map_cons, List.nodup_append, List.nodup_cons] at hnodup
    rw [State.point_applyRest_of_named hp his hip, SetRec.retarget_fresh]
    intro j hj
    rcases List.mem_append.mp hj with hj | hj
    · simpa using hbefore j hj
    · intro hjp
      exact hnodup.2.1.1 (List.mem_map.mpr ⟨j, hj, hjp.trans hip.symm⟩)

end Sys2Proof.Machine
end

section
/-!
The soft reset brings the part to rest (R191): the revalidations in turn.
-/
namespace Sys2Proof.Machine

/-! ### The revalidations in turn -/

theorem State.setCtx_ctx (s : State) (c : Nat) : s.setCtx c (s.ctx c) = s := by
  have hset : s.ctxs.set c (s.ctx c) = s.ctxs := by
    refine List.ext_getElem (by simp) fun i h1 h2 => ?_
    rw [List.getElem_set]
    split
    · next hi => subst hi; exact (State.getElem_ctxs h2).symm
    · rfl
  rw [State.setCtx, hset]

theorem State.resetCtx_of_offline {s : State} {c : Nat} (h : (s.ctx c).state = .offline) : s.resetCtx c = (s.ctx c).softReset := by
  unfold State.resetCtx
  dsimp only
  exact if_pos h

theorem State.resetCtx_of_error {s : State} {c : Nat} {e : Purpose × WalkFault} (h : (s.ctx c).state ≠ .offline)
    (hw : s.walkAll c (s.ctx c).cfg.starts = .error e) : s.resetCtx c = { (s.ctx c).softReset with state := .offline, cur := none } := by
  have hw' : s.walkAll c (s.ctx c).softReset.cfg.starts = .error e := hw
  unfold State.resetCtx
  dsimp only
  rw [if_neg (show ¬(s.ctx c).softReset.state = .offline from h), hw']

theorem State.resetCtx_of_ok {s : State} {c : Nat} {paths : List (List Nat)} (h : (s.ctx c).state ≠ .offline)
    (hw : s.walkAll c (s.ctx c).cfg.starts = .ok paths) : s.resetCtx c = (s.ctx c).softReset.revalidated s.now paths := by
  have hw' : s.walkAll c (s.ctx c).softReset.cfg.starts = .ok paths := hw
  unfold State.resetCtx
  dsimp only
  rw [if_neg (show ¬(s.ctx c).softReset.state = .offline from h), hw']

/-- A revalidation changes no record of a point that is not its context's, or of a context that it leaves OFFLINE. -/
theorem State.resetRec_succ {s : State} {n p : Nat} {cfg : PointCfg} (h : cfg.owner = .ctx n → (s.resetCtx n).state ≠ .idle) :
    s.resetRec (n + 1) p cfg = s.resetRec n p cfg := by
  unfold State.resetRec
  split
  · next c hc =>
    by_cases hcn : c = n
    · subst hcn
      rw [if_neg fun hh => h hc hh.2, if_neg fun hh => h hc hh.2]
    · have : c < n + 1 ↔ c < n := by omega
      simp only [this]
  · rfl

theorem State.resetRec_of_todo {s : State} {n p : Nat} {cfg : PointCfg} (h : cfg.owner = .ctx n) :
    s.resetRec n p cfg = SetRec.fresh s.now := by
  unfold State.resetRec
  rw [h]
  exact if_neg fun hh => Nat.lt_irrefl _ hh.1

theorem State.resetRec_of_done {s : State} {n c p : Nat} {cfg : PointCfg} (h : cfg.owner = .ctx c) (hc : c < n)
    (hidle : (s.resetCtx c).state = .idle) : s.resetRec n p cfg = s.restRec c p := by
  unfold State.resetRec
  rw [h]
  exact if_pos ⟨hc, hidle⟩

section
variable {s u : State} {n : Nat} (h : s.Restored u n)
include h

/-- A revalidation that leaves the context OFFLINE moves no point. -/
theorem State.Restored.skip {x : Ctx} (hn : n < 6) (hx : s.resetCtx n = x) (hstate : x.state = .offline) :
    s.Restored (u.setCtx n x) (n + 1) := by
  have hrec : ∀ p cfg, s.resetRec (n + 1) p cfg = s.resetRec n p cfg := fun p cfg =>
    State.resetRec_succ fun _ => by rw [hx, hstate]; decide
  refine ⟨?_, fun c hc => ?_, fun c hc => ?_, fun p cfg r hp => ?_, h.others, fun k hk => (h.uses k hk).trans (by omega), ?_⟩
  · obtain ⟨ctxs, points, useCounts, hframe⟩ := h.frame
    exact ⟨ctxs.set n x, points, useCounts, by rw [hframe]; rfl⟩
  · by_cases hcn : c = n
    · subst hcn
      rw [State.ctx_setCtx_self _ _ _ (by rw [h.length]; exact hn), hx]
    · rw [State.ctx_setCtx_of_ne _ _ (Ne.symm hcn), h.done c (by omega)]
  · rw [State.ctx_setCtx_of_ne _ _ (by omega), h.todo c (by omega)]
  · rw [hrec]; exact h.sets p cfg r hp
  · rw [State.setCtx_ctxs, List.length_set, h.length]

theorem State.Restored.now : u.now = s.now := by
  obtain ⟨ctxs, points, useCounts, hframe⟩ := h.frame
  rw [hframe]; rfl

/-- A revalidation whose walks pass moves the points that the idle step names. -/
theorem State.Restored.pass {paths : List (List Nat)} (hn : n < 6) (hcl : u.Cleared n) (hs : (s.ctx n).state ≠ .offline)
    (hw : s.walkAll n (s.ctx n).cfg.starts = .ok paths) : s.Restored (u.revalidate n) (n + 1) := by
  have hctx : u.ctx n = (s.ctx n).softReset := h.todo n (Nat.le_refl n)
  have hreset := State.resetCtx_of_ok hs hw
  have hw' : u.walkAll n (u.ctx n).cfg.starts = .ok paths := by rw [hctx, h.samePaths.walkAll]; exact hw
  have hlow : 6 * n + 6 ≤ 60 := by omega
  obtain ⟨us, hrev, hle⟩ := State.revalidate_of_walks hcl (by rw [hctx]; exact hs) hw' h.uses hlow
  obtain ⟨st, hst, hok⟩ := State.idleStep_of_walks hw'
  have hpoint : ∀ p, (u.revalidate n).point p = (u.applyRest n (u.ctx n).cfg.idleStep).point p := fun p => by rw [hrev]; rfl
  have hread : ∀ c, (u.revalidate n).ctx c = ((u.applyRest n (u.ctx n).cfg.idleStep).setCtx n ((u.ctx n).revalidated u.now paths)).ctx c :=
    fun c => by rw [hrev]; rfl
  have hidle : (u.ctx n).cfg.idleStep = (s.ctx n).cfg.idleStep := by rw [hctx]; rfl
  refine ⟨?_, fun c hc => ?_, fun c hc => ?_, fun p cfg r hp => ?_, fun p hp => ?_, fun k hk => ?_, ?_⟩
  · obtain ⟨ctxs, points, useCounts, hframe⟩ := h.frame
    rw [hrev, State.applyRest_only]
    exact ⟨_, _, _, by rw [hframe]; rfl⟩
  · rw [hread]
    by_cases hcn : c = n
    · subst hcn
      rw [State.ctx_setCtx_self _ _ _ (by simpa [h.length] using hn), hreset, hctx, h.now]
    · rw [State.ctx_setCtx_of_ne _ _ (Ne.symm hcn), State.ctx_applyRest, h.done c (by omega)]
  · rw [hread, State.ctx_setCtx_of_ne _ _ (by omega), State.ctx_applyRest, h.todo c (by omega)]
  · rw [hpoint]
    have hu := h.sets p cfg r hp
    by_cases howner : cfg.owner = .ctx n
    · rw [State.resetRec_of_todo howner, ← h.now] at hu
      rw [State.point_applyRest_of_fresh hst hok hu, State.resetRec_of_done howner (by omega) (by rw [hreset]; rfl), State.restRec,
        ← h.samePaths.restItems, hidle, h.now]
    · have hunnamed : ∀ k ∈ u.restItems (u.ctx n).cfg.idleStep, k.point ≠ p := fun k hk hkp => by
        rw [State.restItems, hst] at hk
        obtain ⟨⟨cfg', r', hk', hown', -⟩, -⟩ := State.drives_of_itemReason (hok.items _ (Step.mem_sets.mp hk))
        rw [hkp, hu] at hk'
        cases hk'
        exact howner hown'
      rw [State.point_applyRest_of_unnamed hu hunnamed, if_neg fun hh => howner hh.1, State.resetRec_succ fun hh => absurd hh howner]
  · have hu := h.others p hp
    have hset : ∀ cfg r, u.point p ≠ .set cfg r := fun cfg r hh => by
      rw [hu] at hh
      cases hq : s.point p with
      | set cfg' r' => exact hp _ _ hq
      | empty => rw [hq] at hh; cases hh
      | sample => rw [hq] at hh; cases hh
    rw [hpoint, State.point_applyRest_of_not_set hset, hu]
  · rw [hrev] at hk
    have := hle k hk
    omega
  · have hlen : (u.revalidate n).ctxs.length = (u.applyRest n (u.ctx n).cfg.idleStep).ctxs.length := by
      rw [hrev]; exact List.length_set ..
    rw [hlen, State.applyRest_only]
    exact h.length

theorem State.Restored.succ (hn : n < 6) (hcl : u.Cleared n) : s.Restored (u.revalidate n) (n + 1) := by
  have hctx : u.ctx n = (s.ctx n).softReset := h.todo n (Nat.le_refl n)
  by_cases hs : (s.ctx n).state = .offline
  · have hsame : u.revalidate n = u.setCtx n (s.ctx n).softReset := by
      rw [State.revalidate_of_offline (by rw [hctx]; exact hs), ← hctx, State.setCtx_ctx]
    rw [hsame]
    exact h.skip hn (State.resetCtx_of_offline hs) hs
  · cases hw : s.walkAll n (s.ctx n).cfg.starts with
    | error e =>
      have hv : u.validate n (u.ctx n).cfg = .error e := State.validate_of_error (by rw [hctx, h.samePaths.walkAll]; exact hw)
      rw [State.revalidate_of_error (by rw [hctx]; exact hs) hv, hctx]
      exact h.skip hn (State.resetCtx_of_error hs hw) rfl
    | ok paths => exact h.pass hn hcl hs hw

end

/-- The soft reset restores every context (R191). -/
theorem State.restored_softReset {s : State} (h : s.sized = true) : s.Restored s.softReset 6 := by
  have hall : ∀ n, n ≤ 6 → s.Restored ((List.range n).foldl State.revalidate s.softResetTables) n
      ∧ ∀ c, n ≤ c → ((List.range n).foldl State.revalidate s.softResetTables).Cleared c := by
    intro n
    induction n with
    | zero => exact fun _ => ⟨s.restored_softResetTables h, fun c _ => s.cleared_softResetTables c⟩
    | succ n ih =>
      intro hn
      obtain ⟨hrest, hcl⟩ := ih (by omega)
      rw [List.range_succ, List.foldl_concat]
      exact ⟨hrest.succ (by omega) (hcl n (Nat.le_refl n)),
        fun c hc => State.Cleared.revalidate (hcl n (Nat.le_refl n)) (hcl c (by omega)) (by omega)⟩
  exact (hall 6 (Nat.le_refl 6)).1

/-- The use counts of a soft reset are the numbers of held paths (R69 to R71). -/
theorem State.jobsLaw_softReset {s : State} (h : s.sized = true) : s.softReset.JobsLaw := by
  have hctx : ∀ {β : Type} (f : Ctx → List β), (∀ x : Ctx, f x.softReset = []) → s.softResetTables.ctxs.flatMap f = [] := fun f hf =>
    List.flatMap_eq_nil_iff.mpr fun x hx => by obtain ⟨y, -, rfl⟩ := List.mem_map.mp hx; exact hf y
  have htables : s.softResetTables.JobsLaw := by
    refine ⟨Acts.refl.tables.sizes ((State.sized_iff s).mp h), ?_, fun x hx => ?_, fun x hx _ => ?_, fun i hi => ?_⟩
    · rw [hctx Ctx.tags fun _ => rfl]; exact List.nodup_nil
    · obtain ⟨y, -, rfl⟩ := List.mem_map.mp hx
      intro hjob
      cases hjob
    · obtain ⟨y, -, rfl⟩ := List.mem_map.mp hx
      rfl
    · rw [hctx Ctx.heldPaths fun _ => rfl, State.useCount,
        show s.softResetTables.useCounts = s.useCounts.map fun _ => 0 from rfl, List.getD_eq_getElem?_getD, List.getElem?_map]
      cases s.useCounts[i]? <;> rfl
  exact Works.jobsLaw (Works.refl.revalidateAll List.nodup_range fun c _ => s.cleared_softResetTables c) htables

/-- A context of a restored part, by the outcome of its walks. -/
structure Ctx.Restored (s : State) (c : Nat) (x : Ctx) : Prop where
  state : x.state = .idle ∨ x.state = .offline
  kept : x.flags = 0 ∧ x.isl = .none ∧ x.stack = [] ∧ x.job = none ∧ x.queue = [] ∧ x.step = none ∧ x.loops = []
    ∧ x.masks = (s.ctx c).masks ∧ x.highs = (s.ctx c).highs ∧ x.cfg = (s.ctx c).cfg ∧ x.marker = false ∧ x.wakeDelay = none
  offline : x.state = .offline → x.paths = [] ∧ x.autoPark = none
  idle : x.state = .idle → s.walkAll c (s.ctx c).cfg.starts = .ok x.paths ∧ x.cur = some (s.ctx c).cfg.idleStep
    ∧ x.lastRest = some (s.ctx c).cfg.idleStep ∧ x.autoPark = autoParkTimer s.now (s.ctx c).cfg
  stays : (s.ctx c).state = .offline → x.state = .offline
  fails : ∀ e, s.walkAll c (s.ctx c).cfg.starts = .error e → x.state = .offline
  passes : ∀ paths, (s.ctx c).state ≠ .offline → s.walkAll c (s.ctx c).cfg.starts = .ok paths → x.state = .idle

theorem State.restored_resetCtx (s : State) (c : Nat) : (s.resetCtx c).Restored s c := by
  by_cases hs : (s.ctx c).state = .offline
  · rw [State.resetCtx_of_offline hs]
    have hstate : (s.ctx c).softReset.state = .offline := hs
    exact ⟨.inr hs, ⟨rfl, rfl, rfl, rfl, rfl, rfl, rfl, rfl, rfl, rfl, rfl, rfl⟩, fun _ => ⟨rfl, rfl⟩,
      fun h => (by rw [hstate] at h; cases h), fun _ => hs, fun _ _ => hs, fun _ h _ => absurd hs h⟩
  · cases hw : s.walkAll c (s.ctx c).cfg.starts with
    | error e =>
      rw [State.resetCtx_of_error hs hw]
      exact ⟨.inr rfl, ⟨rfl, rfl, rfl, rfl, rfl, rfl, rfl, rfl, rfl, rfl, rfl, rfl⟩, fun _ => ⟨rfl, rfl⟩, fun h => (by cases h),
        fun h => absurd h hs, fun _ _ => rfl, fun _ _ h => (by rw [hw] at h; cases h)⟩
    | ok paths =>
      rw [State.resetCtx_of_ok hs hw]
      exact ⟨.inl rfl, ⟨rfl, rfl, rfl, rfl, rfl, rfl, rfl, rfl, rfl, rfl, rfl, rfl⟩, fun h => (by cases h),
        fun _ => ⟨hw, rfl, rfl, rfl⟩, fun h => absurd h hs, fun _ h => (by rw [hw] at h; cases h), fun _ _ _ => rfl⟩

/-- Settles O21: the revalidations are made in turn on the cleared tables (`State.restored_softReset`), each of which finds the walks as
they were before (`State.SamePaths.walkAll`). -/
theorem softResetBringsThePartToRest : Obligations.SoftResetBringsThePartToRest := by
  intro s hsize
  dsimp only
  have h := State.restored_softReset hsize
  obtain ⟨ctxs, points, useCounts, hframe⟩ := h.frame
  refine ⟨by rw [hframe]; rfl, by rw [hframe]; rfl, by rw [hframe]; rfl, by rw [hframe]; rfl, fun k hk => ?_, by rw [hframe]; rfl,
    by rw [hframe]; rfl, by rw [hframe]; rfl, fun c hc => ?_, (State.jobsLaw_softReset hsize).counted, fun p cfg r hp => ⟨fun c hc howner hidle => ?_, fun hno => ?_⟩,
    fun g x hg => ?_, fun n x hn => ?_, fun p cfg st hp => ?_, by rw [hframe]; rfl, by rw [hframe]; rfl, by rw [hframe]; rfl, by rw [hframe]; rfl,
    by rw [hframe]; rfl, by rw [hframe]; rfl⟩
  · rw [hframe] at hk
    obtain ⟨-, -, rfl⟩ := List.mem_map.mp hk
    exact ⟨rfl, rfl⟩
  · rw [h.done c hc]
    obtain ⟨hstate, ⟨h1, h2, h3, h4, h5, h6, h7, h8, h9, h10, h11, h12⟩, hoff, hidle, hstays, hfails, hpasses⟩ := s.restored_resetCtx c
    exact ⟨hstate, hstays, h1, h2, h3, h4, h5, h6, h7, h8, h9, h10, h11, h12, hoff, hidle, hfails, hpasses⟩
  · rw [h.done c hc] at hidle
    rw [h.sets p cfg r hp, State.resetRec_of_done howner hc hidle]
    rfl
  · rw [h.sets p cfg r hp, State.resetRec]
    split
    · next c hc =>
      rw [if_neg fun hh => hno c hh.1 hc (by rw [h.done c hh.1]; exact hh.2)]
    · rfl
  · rw [hframe]
    simp only [State.gate, State.softResetTables, State.softResetArbiter, State.softResetRing, List.getD_eq_getElem?_getD, List.getElem?_map] at hg ⊢
    cases hgg : s.gates[g]? with
    | none => simp [hgg] at hg
    | some y => simp only [hgg, Option.getD_some] at hg; subst hg; rfl
  · rw [hframe]
    simp only [State.node, State.softResetTables, State.softResetArbiter, State.softResetRing, List.getD_eq_getElem?_getD, List.getElem?_map] at hn ⊢
    cases hnn : s.nodes[n]? with
    | none => simp [hnn] at hn
    | some y => simp only [hnn, Option.getD_some] at hn; subst hn; rfl
  · rw [h.others p (by simp [hp]), hp]
    rfl

end Sys2Proof.Machine
end

section
/-!
Writes of points and nodes (R21 to R23, R34, R40, R41, R153): their checks in order, and their effects.
-/
namespace Sys2Proof.Machine

/-! ### Tables searched -/

theorem State.any_gates {s : State} {f : Option Gate → Bool} (hf : f none = false) :
    s.gates.any f = true ↔ ∃ g x, s.gate g = some x ∧ f (some x) = true := by
  rw [List.any_eq_true]
  constructor
  · rintro ⟨x, hx, hfx⟩
    cases x with
    | none => rw [hf] at hfx; cases hfx
    | some x =>
      obtain ⟨g, hg⟩ := List.mem_iff_getElem?.mp hx
      exact ⟨g, x, by rw [State.gate, List.getD_eq_getElem?_getD, hg]; rfl, hfx⟩
  · rintro ⟨g, x, hg, hfx⟩
    exact ⟨some x, State.mem_gates_of_gate hg, hfx⟩

theorem State.any_points {s : State} {f : Point → Bool} (hf : f .empty = false) :
    s.points.any f = true ↔ ∃ p, f (s.point p) = true := by
  rw [List.any_eq_true]
  constructor
  · rintro ⟨q, hq, hfq⟩
    obtain ⟨p, hp⟩ := List.mem_iff_getElem?.mp hq
    exact ⟨p, by rw [State.point_of_getElem? hp]; exact hfq⟩
  · rintro ⟨p, hfp⟩
    have hne : s.point p ≠ .empty := fun h => by rw [h, hf] at hfp; cases hfp
    exact ⟨_, List.mem_of_getElem? (State.getElem?_of_point rfl hne), hfp⟩

/-- A used record passes a test that no EMPTY record passes. -/
theorem State.usedRecord_iff {s : State} {test : Record → Bool} (htest : test .empty = false) :
    s.usedRecord test = true ↔ ∃ i, 0 < s.useCount i ∧ test (s.record i) = true := by
  simp only [State.usedRecord, List.any_eq_true, Bool.and_eq_true, decide_eq_true_eq, Prod.exists]
  constructor
  · rintro ⟨r, n, hmem, hn, hr⟩
    obtain ⟨i, hi⟩ := List.mem_iff_getElem?.mp hmem
    rw [List.getElem?_zip_eq_some] at hi
    refine ⟨i, ?_, ?_⟩
    · rw [State.useCount, List.getD_eq_getElem?_getD, hi.2]; exact hn
    · rw [State.record, List.getD_eq_getElem?_getD, hi.1]; exact hr
  · rintro ⟨i, hn, hr⟩
    cases hrec : s.records[i]? with
    | none => rw [State.record, List.getD_eq_getElem?_getD, hrec] at hr; exact absurd hr (by simp [htest])
    | some r =>
      cases huse : s.useCounts[i]? with
      | none => rw [State.useCount, List.getD_eq_getElem?_getD, huse] at hn; exact absurd hn (Nat.lt_irrefl _)
      | some n =>
        rw [State.record, List.getD_eq_getElem?_getD, hrec] at hr
        rw [State.useCount, List.getD_eq_getElem?_getD, huse] at hn
        exact ⟨r, n, List.mem_of_getElem? (List.getElem?_zip_eq_some.mpr ⟨hrec, huse⟩), hn, hr⟩

theorem gateNames_iff {g : GateFields} {p : Nat} : gateNames g p = true ↔ g.openOut = p ∨ g.openSw = p ∨ g.closedSw = p := by
  simp [gateNames, or_assoc]

theorem Ctx.busy_iff {x : Ctx} : x.busy = true ↔ x.state = .running ∨ x.state = .diverted ∨ x.state = .waking := by
  unfold Ctx.busy Ctx.active
  cases x.state <;> simp

/-! ### The checks of entries -/

/-- Entries of their own indices that each pass leave the check to those behind them. -/
theorem checkEntries_append {α : Type} {index : α → Nat} {check : α → Option Response} {before : List α} (rest : List α)
    (hn : (before.map index).Nodup) (hc : ∀ x ∈ before, check x = none) (seen : List Nat) (hseen : ∀ x ∈ before, index x ∉ seen) :
    checkEntries index check seen (before ++ rest) = checkEntries index check ((before.map index).reverse ++ seen) rest := by
  induction before generalizing seen with
  | nil => rfl
  | cons e es ih =>
    obtain ⟨hfresh, hn⟩ := List.nodup_cons.mp hn
    have hnone : firstRefusal [refuseIf (seen.contains (index e)) (refusal .badRequest (some (index e)) none), check e] = none := by
      rw [firstRefusal_eq_none]
      simp [hseen e (by simp), hc e (by simp)]
    rw [List.cons_append, checkEntries, hnone]
    dsimp only
    rw [ih hn (fun x hx => hc x (by simp [hx])) (index e :: seen) fun x hx hmem => ?_]
    · simp
    · rcases List.mem_cons.mp hmem with h | h
      · exact hfresh (h ▸ List.mem_map_of_mem hx)
      · exact hseen x (by simp [hx]) h

theorem firstRefusal_single (r : Option Response) : firstRefusal [r] = r := by cases r <;> rfl

theorem State.checkPoint_of_checked {s : State} {e : PointWrite} (hi : e.index < 512)
    (hf : ∀ f, e.content = some f → firstFailing (pointChecks f) = none) :
    s.checkPoint e = if s.pointInUse e.index (entryOf e) = true then some (refusal .inUse (some e.index) none) else none := by
  have hfields : (e.content.bind fun f => fieldFault (some e.index) (pointChecks f)) = none := by
    cases hc : e.content with
    | none => rfl
    | some f => simp [fieldFault, hf f hc]
  rw [State.checkPoint, indexFault_of_lt (size := Config.points) hi, hfields, firstRefusal_none, firstRefusal_none]
  cases s.pointInUse e.index (entryOf e) <;> rfl

/-! ### The effect of a write -/

theorem State.writePoint_of_empty {s : State} {e : PointWrite} (h : e.content = none) : s.writePoint e = s.setPoint e.index .empty := by
  unfold State.writePoint
  simp only [entryOf, h, Option.map_none]

theorem State.writePoint_of_sample {s : State} {e : PointWrite} {f : PointFields} (h : e.content = some f) (hd : f.direction = some .sample) :
    s.writePoint e = { s.setPoint e.index (.sample (pointCfgOf f) (Sample.fresh (Config.noFreshTime s.free))) with free := s.free + 1 } := by
  unfold State.writePoint
  simp only [entryOf, h, hd, Option.map_some, Option.getD_some]

/-- The write of a SET point keeps the record of a SET point of its owner and quantity, and makes any other anew (R23). -/
theorem State.writePoint_of_set {s : State} {e : PointWrite} {f : PointFields} (h : e.content = some f) (hd : f.direction = some .set) :
    s.writePoint e =
      match s.point e.index with
      | .set old r =>
        if old.owner = (pointCfgOf f).owner ∧ old.quantity = (pointCfgOf f).quantity then
          s.setPoint e.index (.set (pointCfgOf f) { r with forced := none, saturated := false, lastRaw := none })
        else s.setPoint e.index (.set (pointCfgOf f) (SetRec.fresh s.now))
      | _ => s.setPoint e.index (.set (pointCfgOf f) (SetRec.fresh s.now)) := by
  unfold State.writePoint
  simp only [entryOf, h, hd, Option.map_some, Option.getD_some] <;> rfl

/-- The owners that bar a rewrite (R22, R40). -/
theorem State.ownerBusy_ctx {s : State} {c : Nat} : s.ownerBusy (.ctx c) = true ↔
    (s.ctx c).state = .running ∨ (s.ctx c).state = .diverted ∨ (s.ctx c).state = .waking := Ctx.busy_iff

theorem State.ownerBusy_shared {s : State} : s.ownerBusy .shared = true ↔
    ∃ x ∈ s.ctxs, x.state = .running ∨ x.state = .diverted ∨ x.state = .waking := by
  rw [State.ownerBusy, List.any_eq_true]
  exact exists_congr fun x => and_congr_right fun _ => Ctx.busy_iff

theorem State.gateNeeds_iff {s : State} {p : Nat} {new : Option (Direction × PointCfg)} : s.gateNeeds p new = true ↔
    ∃ g x, s.gate g = some x ∧ (x.cfg.openOut = p ∨ x.cfg.openSw = p ∨ x.cfg.closedSw = p)
      ∧ (x.state ≠ .closed ∨ (x.cfg.openOut = p ∧ outputFits x.cfg.owner new = false)
        ∨ ((x.cfg.openSw = p ∨ x.cfg.closedSw = p) ∧ switchFits x.cfg.owner new = false)) := by
  rw [State.gateNeeds, State.any_gates rfl]
  refine exists_congr fun g => exists_congr fun x => and_congr_right fun _ => ?_
  simp only [Bool.and_eq_true, Bool.or_eq_true, gateNames_iff, bne_iff_ne, beq_iff_eq, Bool.not_eq_true', or_assoc]

theorem State.gateForbids_iff {s : State} {p : Nat} {new : Option (Direction × PointCfg)} : s.gateForbids p new = true ↔
    ∃ was r cfg, s.point p = .set was r ∧ new = some (.set, cfg) ∧ was.owner = cfg.owner ∧ was.quantity = cfg.quantity
      ∧ cfg.quantity = .flow ∧ cfg.line ≠ none ∧ (0 < r.t ∨ 0 < r.currentValue s.now)
      ∧ ∃ g x, s.gate g = some x ∧ (cfg.owner = .ctx x.cfg.owner ∨ cfg.owner = .ctx x.cfg.partner) ∧ x.state ≠ .closed := by
  unfold State.gateForbids
  split
  · next old r cfg hp =>
    simp only [hp, Bool.and_eq_true, beq_iff_eq, Bool.or_eq_true, decide_eq_true_eq, State.any_gates, bne_iff_ne, Option.isSome_iff_ne_none,
      Point.set.injEq, Option.some.injEq, Prod.mk.injEq, true_and]
    constructor
    · rintro ⟨⟨⟨⟨⟨h1, h2⟩, h3⟩, h4⟩, h5⟩, h6⟩
      exact ⟨old, r, cfg, ⟨rfl, rfl⟩, rfl, h1, h2, h3, h4, h5, h6⟩
    · rintro ⟨_, _, _, ⟨rfl, rfl⟩, rfl, h1, h2, h3, h4, h5, h6⟩
      exact ⟨⟨⟨⟨⟨h1, h2⟩, h3⟩, h4⟩, h5⟩, h6⟩
  · next hno =>
    refine ⟨fun h => (by cases h), ?_⟩
    rintro ⟨was, r, cfg, hp, rfl, -⟩
    exact absurd rfl (hno was r cfg hp)

/-- A write of point p is refused IN_USE for its owners, its gates, its contexts' configurations and the items of held records, or for a gate
that it would leave without its condition (R22, R153). -/
theorem State.pointInUse_iff {s : State} {p : Nat} {new : Option (Direction × PointCfg)} :
    let old := s.pointEntry p
    let kindChanged := new = none ∨ entryKind new ≠ entryKind old
    let useChanged := kindChanged ∨ new.map (·.2.owner) ≠ old.map (·.2.owner)
      ∨ new.map (·.2.line.isSome) ≠ old.map (·.2.line.isSome)
    s.pointInUse p new = true ↔
      (∃ x, (old = some x ∨ new = some x) ∧ s.ownerBusy x.2.owner = true)
        ∨ (kindChanged ∧ ((∃ g x, s.gate g = some x ∧ (x.cfg.openOut = p ∨ x.cfg.openSw = p ∨ x.cfg.closedSw = p))
            ∨ ∃ x ∈ s.ctxs, x.cfg.pressure = some p ∨ x.cfg.plasma = some p))
        ∨ (useChanged ∧ ∃ i, 0 < s.useCount i ∧ ∃ item ∈ (s.record i).items, item.names p = true)
        ∨ s.gateNeeds p new = true ∨ s.gateForbids p new = true := by
  intro old kindChanged useChanged
  have hkind : (new.isNone || entryKind new != entryKind old) = true ↔ kindChanged := by
    simp only [Bool.or_eq_true, Option.isNone_iff_eq_none, bne_iff_ne, kindChanged]
  have huse : ((new.isNone || entryKind new != entryKind old) || new.map (·.2.owner) != old.map (·.2.owner)
      || new.map (·.2.line.isSome) != old.map (·.2.line.isSome)) = true ↔ useChanged := by
    rw [Bool.or_eq_true, Bool.or_eq_true, hkind, bne_iff_ne, bne_iff_ne, or_assoc]
  have hgates : (s.gates.any fun g => g.any fun g => gateNames g.cfg p) = true ↔
      ∃ g x, s.gate g = some x ∧ (x.cfg.openOut = p ∨ x.cfg.openSw = p ∨ x.cfg.closedSw = p) := by
    rw [State.any_gates rfl]
    simp only [Option.any_some, gateNames_iff]
  have hctxs : (s.ctxs.any fun x => x.cfg.pressure == some p || x.cfg.plasma == some p) = true ↔
      ∃ x ∈ s.ctxs, x.cfg.pressure = some p ∨ x.cfg.plasma = some p := by
    simp only [List.any_eq_true, Bool.or_eq_true, beq_iff_eq]
  have hrecords : (s.usedRecord fun r => r.items.any (Item.names p)) = true ↔
      ∃ i, 0 < s.useCount i ∧ ∃ item ∈ (s.record i).items, item.names p = true := by
    rw [State.usedRecord_iff rfl]
    simp only [List.any_eq_true]
  have howners : ((old.any fun x => s.ownerBusy x.2.owner) || (new.any fun x => s.ownerBusy x.2.owner)) = true ↔
      ∃ x, (old = some x ∨ new = some x) ∧ s.ownerBusy x.2.owner = true := by
    rw [Bool.or_eq_true, Option.any_eq_true, Option.any_eq_true, ← exists_or]
    exact exists_congr fun x => or_and_right.symm
  have hdef : s.pointInUse p new =
      ((old.any fun x => s.ownerBusy x.2.owner) || (new.any fun x => s.ownerBusy x.2.owner)
        || ((new.isNone || entryKind new != entryKind old) &&
            ((s.gates.any fun g => g.any fun g => gateNames g.cfg p) || s.ctxs.any fun x => x.cfg.pressure == some p || x.cfg.plasma == some p))
        || (((new.isNone || entryKind new != entryKind old) || new.map (·.2.owner) != old.map (·.2.owner)
            || new.map (·.2.line.isSome) != old.map (·.2.line.isSome)) && s.usedRecord fun r => r.items.any (Item.names p))
        || s.gateNeeds p new || s.gateForbids p new) := rfl
  rw [hdef, Bool.or_eq_true, Bool.or_eq_true, Bool.or_eq_true, Bool.or_eq_true, howners, Bool.and_eq_true, hkind, Bool.or_eq_true, hgates, hctxs,
    Bool.and_eq_true, huse, hrecords, or_assoc, or_assoc, or_assoc]

theorem releasePointRequest_fielded (p : Nat) : (releasePointRequest p).Fielded := ⟨rfl, Nat.le_refl 1⟩

/-- Settles O26: the effect is R23's table by cases of the entry's content, and each check's condition is what the model's test says. -/
theorem pointWritesFollowTheTable : Obligations.PointWritesFollowTheTable := by
  refine ⟨fun s e hi => ⟨fun hc => ?_, fun f old r hc hd hp howner hq => ?_, fun f hc hd hno => ?_, fun f hc hd => ⟨Config.noFreshTime s.free, ?_⟩,
      fun q hq => State.point_writePoint_ne s e (Ne.symm hq)⟩,
    fun index check before after e hn hall => ⟨fun hmem => ?_, fun r hfresh hr => ?_, ?_⟩,
    fun s e => ⟨fun hi => ?_, fun f k hi hc hk => ?_, fun hi hf => State.checkPoint_of_checked hi hf⟩,
    fun s p new => ⟨?_, fun c => State.ownerBusy_ctx, State.ownerBusy_shared⟩, fun s dt m p hex => ⟨fun hp => ?_, fun hp hempty => ?_⟩⟩
  · rw [State.writePoint_of_empty hc]; exact State.point_setPoint_self _ _ _ hi
  · have hkeep : old.owner = (pointCfgOf f).owner ∧ old.quantity = (pointCfgOf f).quantity := ⟨howner, by simp [pointCfgOf, hq]⟩
    rw [State.writePoint_of_set hc hd, hp]
    dsimp only
    rw [if_pos hkeep]
    exact State.point_setPoint_self _ _ _ hi
  · rw [State.writePoint_of_set hc hd]
    split
    · next old r hp =>
      have hnew : ¬(old.owner = (pointCfgOf f).owner ∧ old.quantity = (pointCfgOf f).quantity) := fun hh =>
        (hno old r hp).elim (fun h => h hh.1) fun h => h hh.2.symm
      rw [if_neg hnew]
      exact State.point_setPoint_self _ _ _ hi
    · exact State.point_setPoint_self _ _ _ hi
  · rw [State.writePoint_of_sample hc hd]
    exact State.point_setPoint_self _ _ _ hi
  · rw [checkEntries_append _ hn hall [] (by simp), checkEntries]
    have hseen : ((before.map index).reverse ++ []).contains (index e) = true := by simpa using hmem
    rw [hseen, refuseIf_true, firstRefusal_some]
  · rw [checkEntries_append _ hn hall [] (by simp), checkEntries]
    have hseen : ((before.map index).reverse ++ []).contains (index e) = false := by simpa using hfresh
    rw [hseen, refuseIf_false, firstRefusal_none, hr, firstRefusal_some]
  · have := checkEntries_append (index := index) (check := check) [] hn hall [] (by simp)
    rw [List.append_nil] at this
    rw [this, checkEntries]
  · rw [State.checkPoint, indexFault_of_le (size := Config.points) hi, firstRefusal_some]
  · have hfields : (e.content.bind fun f => fieldFault (some e.index) (pointChecks f)) =
        some (refusal .outOfRange (some e.index) (some k)) := by simp [hc, fieldFault, hk]
    rw [State.checkPoint, indexFault_of_lt (size := Config.points) hi, hfields, firstRefusal_none, firstRefusal_some]
  · have h := State.pointInUse_iff (s := s) (p := p) (new := new)
    dsimp only at h
    rw [State.gateNeeds_iff, State.gateForbids_iff] at h
    exact h
  · refine (releasePointRequest_fielded p).refused hex rfl ?_
    simp only [releasePointRequest, indexFault_of_le (size := Config.points) hp, firstRefusal_some]
  · have hpoint : (s.arrived dt).pointEmpty p = true := by
      have : (s.arrived dt).point p = .empty := hempty
      simp [State.pointEmpty, State.pointEntry, this]
    refine (releasePointRequest_fielded p).refused hex rfl ?_
    simp only [releasePointRequest, indexFault_of_lt (size := Config.points) hp, hpoint, refuseIf_true, firstRefusal_none, firstRefusal_some]

/-! ### Nodes -/

theorem State.nodeServesBusy_iff {s : State} {n : Nat} : s.nodeServesBusy n = true ↔
    ∃ p d cfg, s.pointEntry p = some (d, cfg) ∧ cfg.node = n ∧ s.ownerBusy cfg.owner = true := by
  rw [State.nodeServesBusy, State.any_points rfl]
  refine exists_congr fun p => ?_
  unfold State.pointEntry
  cases s.point p <;> simp

/-- Settles O27: the write sets the one node and makes its samples stale (`point_staleNode`), and the checks stand in R40's order. -/
theorem nodeWritesMakeSamplesStale : Obligations.NodeWritesMakeSamplesStale := by
  refine ⟨fun s e hi => ⟨?_, fun n hn => ?_, fun p => ?_⟩, fun s e => ?_⟩
  · exact State.node_setNode_self s e.index _ hi
  · exact State.node_setNode_of_ne s _ (Ne.symm hn)
  · exact State.point_staleNode (s.setNode e.index (e.content.map Node.fresh)) e.index p
  · intro used listed
    have hbusy : (((s.node e.index).any fun x => s.ownerBusy x.cfg.owner) || (e.content.any fun f => s.ownerBusy f.owner)
        || s.nodeServesBusy e.index) = true ↔ used := by
      rw [Bool.or_eq_true, Bool.or_eq_true, Option.any_eq_true, Option.any_eq_true, State.nodeServesBusy_iff, or_assoc]
    have hlisted : listed → s.checkNode e = refuseIf (((s.node e.index).any fun x => s.ownerBusy x.cfg.owner)
        || (e.content.any fun f => s.ownerBusy f.owner) || s.nodeServesBusy e.index) (refusal .inUse (some e.index) none) := fun ⟨hi, hf⟩ => by
      have hfields : (e.content.bind fun f => fieldFault (some e.index) (nodeChecks f)) = none := by
        cases hc : e.content with
        | none => rfl
        | some f => simp [fieldFault, hf f hc]
      rw [State.checkNode, indexFault_of_lt (size := Config.nodes) hi, hfields, firstRefusal_none, firstRefusal_none, firstRefusal_single]
    refine ⟨fun hi => ?_, fun f k hi hc hk => ?_, fun hl hu => ?_, fun hl hu => ?_⟩
    · rw [State.checkNode, indexFault_of_le (size := Config.nodes) hi, firstRefusal_some]
    · have hfields : (e.content.bind fun f => fieldFault (some e.index) (nodeChecks f)) =
          some (refusal .outOfRange (some e.index) (some k)) := by simp [hc, fieldFault, hk]
      rw [State.checkNode, indexFault_of_lt (size := Config.nodes) hi, hfields, firstRefusal_none, firstRefusal_some]
    · rw [hlisted hl, hbusy.mpr hu, refuseIf_true]
    · rw [hlisted hl, Bool.eq_false_iff.mpr fun h => hu (hbusy.mp h), refuseIf_false]

end Sys2Proof.Machine
end

section
/-!
Raises and attempts (R157, R160, R162).
-/
namespace Sys2Proof.Machine

/-! ### Raises (R157) -/

theorem State.raiseFlag_of_offline {s : State} {c : Nat} {src : Source} (h : (s.ctx c).state = .offline) : s.raiseFlag c src = s := by
  unfold State.raiseFlag
  dsimp only
  exact if_pos h

theorem State.raiseFlag_of_not_offline {s : State} {c : Nat} {src : Source} (h : (s.ctx c).state ≠ .offline) :
    s.raiseFlag c src =
      (s.setCtx c { s.ctx c with flags := (s.ctx c).flags ||| src.bit }).report (some c) (s.ctx c).cur (s.ctx c).jobTag
        (.request src (src.level (s.ctx c).highs) (src.masked (s.ctx c).masks) ((s.ctx c).flag src)) := by
  unfold State.raiseFlag
  dsimp only
  exact if_neg h

theorem Source.num_lt (src : Source) : src.num < 16 := by cases src <;> decide

theorem Source.flag_bit (src : Source) : src.bit.getLsbD src.num = true := by cases src <;> decide

/-- Settles O37, by the two cases of the model's raise. -/
theorem raisesSetOneFlag : Obligations.RaisesSetOneFlag := by
  refine fun s c src hc => ⟨State.raiseFlag_of_offline, fun h => ?_, fun d hd => ?_⟩
  · rw [State.raiseFlag_of_not_offline h]
    have hctx : ((s.setCtx c { s.ctx c with flags := (s.ctx c).flags ||| src.bit }).report (some c) (s.ctx c).cur (s.ctx c).jobTag
        (.request src (src.level (s.ctx c).highs) (src.masked (s.ctx c).masks) ((s.ctx c).flag src))).ctx c =
          { s.ctx c with flags := (s.ctx c).flags ||| src.bit } := by
      rw [State.ctx_report]; exact State.ctx_setCtx_self _ _ _ hc
    refine ⟨hctx, ?_, fun hroom => State.reports_report (s := s.setCtx c _) hroom ..⟩
    rw [hctx, Ctx.flag, BitVec.getLsbD_or, Source.flag_bit, Bool.or_true]
  · by_cases h : (s.ctx c).state = .offline
    · rw [State.raiseFlag_of_offline h]
    · rw [State.raiseFlag_of_not_offline h, State.ctx_report]
      exact State.ctx_setCtx_of_ne _ _ hd.symm

/-! ### Attempts (R160) -/

theorem Source.mem_all (src : Source) : src ∈ Source.all := by cases src <;> decide

theorem Source.all_pairwise : Source.all.Pairwise fun a b => a.num < b.num := by decide

theorem Source.level_ne_none (highs : BitVec 16) (src : Source) : src.level highs ≠ .none := by
  unfold Source.level
  cases highs.getLsbD src.num <;> cases src <;> decide

/-- The candidate of a level that an attempt would take. -/
def State.firstOf (s : State) (c : Nat) (l : Level) : Option Source :=
  Source.all.find? fun src => src.level (s.ctx c).highs == l && s.candidate c src

theorem State.toTake_eq (s : State) (c : Nat) :
    s.toTake c = (s.firstOf c .emergency).or ((s.firstOf c .high).or (s.firstOf c .low)) := by
  simp only [State.toTake, Option.orElse_eq_or]
  rfl

theorem State.firstOf_eq_none {s : State} {c : Nat} {l : Level} :
    s.firstOf c l = none ↔ ∀ src, s.candidate c src = true → src.level (s.ctx c).highs ≠ l := by
  simp only [State.firstOf, List.find?_eq_none, Bool.and_eq_true, beq_iff_eq, not_and]
  exact ⟨fun h src hc hl => h src src.mem_all hl hc, fun h src _ hl hc => h src hc hl⟩

/-- The candidate of a level that is taken is the one of lowest number. -/
theorem State.firstOf_eq_some {s : State} {c : Nat} {l : Level} {src : Source} (h : s.firstOf c l = some src) :
    src.level (s.ctx c).highs = l ∧ s.candidate c src = true
      ∧ ∀ other, s.candidate c other = true → other.level (s.ctx c).highs = l → src.num ≤ other.num := by
  obtain ⟨hsrc, before, after, hall, hbefore⟩ := List.find?_eq_some_iff_append.mp h
  simp only [Bool.and_eq_true, beq_iff_eq] at hsrc
  refine ⟨hsrc.1, hsrc.2, fun other hc hl => ?_⟩
  have hmem := other.mem_all
  have hpair := Source.all_pairwise
  rw [hall] at hmem hpair
  rcases List.mem_append.mp hmem with hm | hm
  · have := hbefore other hm
    simp [hl, hc] at this
  · rcases List.mem_cons.mp hm with rfl | hm
    · exact Nat.le_refl _
    · exact Nat.le_of_lt ((List.pairwise_cons.mp (List.pairwise_append.mp hpair).2.1).1 other hm)

/-- What an attempt takes: the candidate of lowest number at the highest level that has one. -/
theorem State.toTake_eq_some {s : State} {c : Nat} {src : Source} (h : s.toTake c = some src) :
    s.firstOf c (src.level (s.ctx c).highs) = some src
      ∧ ∀ l, levelRank (src.level (s.ctx c).highs) < levelRank l → s.firstOf c l = none := by
  rw [State.toTake_eq] at h
  cases he : s.firstOf c .emergency with
  | some k =>
    rw [he, Option.some_or] at h
    obtain rfl := Option.some.inj h
    obtain ⟨hl, -, -⟩ := State.firstOf_eq_some he
    rw [hl]
    exact ⟨he, fun l hlt => by cases l <;> simp [levelRank] at hlt⟩
  | none =>
    rw [he, Option.none_or] at h
    cases hh : s.firstOf c .high with
    | some k =>
      rw [hh, Option.some_or] at h
      obtain rfl := Option.some.inj h
      obtain ⟨hl, -, -⟩ := State.firstOf_eq_some hh
      rw [hl]
      exact ⟨hh, fun l hlt => by cases l <;> simp [levelRank] at hlt; exact he⟩
    | none =>
      rw [hh, Option.none_or] at h
      obtain ⟨hl, -, -⟩ := State.firstOf_eq_some h
      rw [hl]
      exact ⟨h, fun l hlt => by cases l <;> simp [levelRank] at hlt; exacts [hh, he]⟩

theorem State.toTake_eq_none {s : State} {c : Nat} : s.toTake c = none ↔ ∀ src, s.candidate c src = false := by
  rw [State.toTake_eq, Option.or_eq_none_iff, Option.or_eq_none_iff, State.firstOf_eq_none, State.firstOf_eq_none, State.firstOf_eq_none]
  constructor
  · rintro ⟨he, hh, hl⟩ src
    rw [Bool.eq_false_iff]
    intro hc
    have hne := src.level_ne_none (s.ctx c).highs
    cases hlev : src.level (s.ctx c).highs with
    | none => exact hne hlev
    | low => exact hl src hc hlev
    | high => exact hh src hc hlev
    | emergency => exact he src hc hlev
  · intro h
    exact ⟨fun src hc => absurd hc (by simp [h src]), fun src hc => absurd hc (by simp [h src]), fun src hc => absurd hc (by simp [h src])⟩

theorem State.hold_eq_false {s : State} {c : Nat} : s.hold c = false ↔
    ∀ g y, s.gate g = some y → y.cfg.owner = c → y.state ≠ .opening ∧ y.state ≠ .closing := by
  rw [Bool.eq_false_iff, State.hold, Ne, State.any_gates rfl]
  simp only [Bool.and_eq_true, Bool.or_eq_true, beq_iff_eq, not_exists, not_and, not_or]

theorem Source.masked_iff {masks : BitVec 16} {src : Source} :
    src.masked masks = true ↔ 4 ≤ src.num ∧ masks.getLsbD src.num = true := by
  have hprog : programmable.getLsbD src.num = decide (4 ≤ src.num) := by cases src <;> decide
  rw [Source.masked, BitVec.getLsbD_and, hprog, Bool.and_eq_true, decide_eq_true_eq, and_comm]

/-- What a candidate is (R160, R162). -/
theorem State.candidate_iff {s : State} {c : Nat} {src : Source} :
    s.candidate c src = true ↔
      (s.ctx c).flags.getLsbD src.num = true ∧ ¬(4 ≤ src.num ∧ (s.ctx c).masks.getLsbD src.num = true)
        ∧ levelRank (s.ctx c).isl < levelRank (src.level (s.ctx c).highs)
        ∧ (src.level (s.ctx c).highs = .emergency
          ∨ ∀ g y, s.gate g = some y → y.cfg.owner = c → y.state ≠ .opening ∧ y.state ≠ .closing)
        ∧ ((s.ctx c).state = .running ∨ (s.ctx c).state = .diverted ∨ (src.level (s.ctx c).highs = .emergency
            ∧ ((s.ctx c).state = .idle ∨ (s.ctx c).state = .waking ∨ ∃ park, (s.ctx c).state = .parked park))) := by
  rw [← Source.masked_iff, ← State.hold_eq_false]
  simp only [State.candidate, Ctx.flag, Bool.and_eq_true, Bool.or_eq_true, Bool.not_eq_true', decide_eq_true_eq, beq_iff_eq, Bool.not_eq_true,
    and_assoc]
  refine and_congr_right fun _ => and_congr_right fun _ => and_congr_right fun _ => and_congr_right fun _ => ?_
  cases (s.ctx c).state <;> simp

/-- Settles O38: the attempt asks the levels from the highest down, and in each the sources in ascending number. -/
theorem attemptsTakeTheHighest : Obligations.AttemptsTakeTheHighest := by
  refine fun s c => ⟨fun src h => ?_, State.toTake_eq_none, fun src => State.candidate_iff⟩
  obtain ⟨hfirst, habove⟩ := State.toTake_eq_some h
  obtain ⟨-, hcand, hlowest⟩ := State.firstOf_eq_some hfirst
  refine ⟨hcand, fun other hother => ⟨?_, hlowest other hother⟩⟩
  by_contra hlt
  exact State.firstOf_eq_none.mp (habove _ (Nat.lt_of_not_le hlt)) other hother rfl

end Sys2Proof.Machine
end

section
/-!
Requests that are refused (R178 to R180), and the requests that wait, read and answer (R33, R183, R190).
-/
namespace Sys2Proof.Machine

/-! ### Arrival of a frame for the part -/

/-- A good frame for the part that meets an EMPTY holder is executed (R14). -/
theorem State.arriveU_of_mailbox {s : State} {dt : Nat} {m : Mailbox} (q : Option Request) (hg : goodCheck m.frame = true)
    (hm : classify s.inUse.address m.frame = .mailbox) (hh : s.holder = none) (hl : s.loader.state ≠ .loading) :
    (s.advance dt).arriveU m q = .next ((s.arrived dt).execute m q) := by
  have hm' : classify ((s.advance dt).goodArrival).inUse.address m.frame = .mailbox := by simpa using hm
  have hheld : ¬((s.arrived dt).holder.isSome = true ∨ (s.arrived dt).loader.state = .loading) := by
    simp [State.arrived, hh, hl]
  simp only [State.arriveU, hg, hm', if_true]
  exact congrArg Host.Outcome.next (if_neg hheld)

theorem State.execute_of_unfit {s : State} {m : Mailbox} (q : Option Request) (h : unfit m.frame = true) :
    s.execute m q = s.answered m badRequest := by
  unfold State.execute
  exact if_pos h

theorem State.perform_of_unmet {s : State} {m : Mailbox} {q : Request} (h : q.bodyHeld m = false ∨ q.counted = false) :
    s.perform m q = s.answered m badRequest := by
  unfold State.perform
  rw [if_neg]
  · rfl
  · simp only [Bool.and_eq_true, not_and]
    intro hb hc
    rcases h with h | h
    · rw [hb] at h; cases h
    · rw [hc] at h; cases h

theorem State.execute_of_unmet {s : State} {m : Mailbox} {q : Request} (hcode : requestCode m.frame = q.code)
    (h : q.bodyHeld m = false ∨ q.counted = false) : s.execute m (some q) = s.answered m badRequest := by
  by_cases hfit : unfit m.frame = true
  · exact State.execute_of_unfit _ hfit
  · unfold State.execute
    rw [if_neg hfit]
    dsimp only
    rw [if_pos hcode, State.perform_of_unmet h]

theorem Request.not_bodyHeld {q : Request} {m : Mailbox} (hq : 0 < q.least) (h : m.complete = false ∨ bodyLength m.frame < q.least) :
    q.bodyHeld m = false := by
  have hleast : (q.least == 0) = false := by simp; omega
  rw [Request.bodyHeld, hleast, Bool.false_or, Bool.and_eq_false_iff, decide_eq_false_iff_not, Nat.not_le]
  exact h

/-- Settles O44: a refused check leaves the arrival state, and each stage of R178 before it answers BAD_REQUEST. -/
theorem refusedRequestsHaveNoEffect : Obligations.RefusedRequestsHaveNoEffect := by
  refine ⟨fun s dt m q r h hb hc hr hok => ?_, fun s dt m hg hm hh hl => ⟨fun q hshort => ?_, fun q most hmost hshort => ?_, fun q hcode h => ?_⟩⟩
  · have hsoft : (q.code == softResetCode && r.code == .ok) = false := by
      rw [Bool.and_eq_false_iff]
      exact .inr (by simpa using hok)
    rw [State.arriveU_performs h, State.perform, hb, hc, Bool.and_self, if_pos rfl]
    simp only [Request.run, hr, hsoft]
    rfl
  · rw [State.arriveU_of_mailbox q hg hm hh hl, State.execute_of_unfit q (by simp [unfit, hshort])]
  · rw [State.arriveU_of_mailbox q hg hm hh hl, State.execute_of_unfit q (by simp [unfit, hmost, hshort])]
  · rw [State.arriveU_of_mailbox _ hg hm hh hl, State.execute_of_unmet hcode]
    exact h.imp (fun h => Request.not_bodyHeld h.1 h.2) id

/-! ### Requests without fields -/

/-- A request without fields is executed whatever its body is. -/
theorem State.arriveU_of_fieldless {s : State} {dt : Nat} {m : Mailbox} {q : Request} (h : s.executes m q.code = true) (hq : q.least = 0)
    (hc : q.counted = true) (hcheck : q.check (s.arrived dt) = none) (hn : (q.effect (s.arrived dt)).agenda = []) :
    (s.advance dt).arriveU m (some q) = .next ((q.effect (s.arrived dt)).holdResponse m.frame
      (q.respond (s.arrived dt) (q.effect (s.arrived dt))) (q.code == softResetCode &&
        (q.respond (s.arrived dt) (q.effect (s.arrived dt))).code == .ok)) := by
  rw [State.arriveU_performs h, State.perform, Request.bodyHeld_of_fieldless q m hq, hc, Bool.and_self, if_pos rfl]
  simp only [Request.run, hcheck, State.settle_of_nil _ hn]

/-- Settles O60: SOFT_RESET's effect is none and its OK is marked; a frame is executed as its own code's request, which
`requestOf` lists exactly where Table 10-2 does. -/
theorem softResetWaitsAndUnknownCodesAreRefused : Obligations.SoftResetWaitsAndUnknownCodesAreRefused := by
  refine ⟨fun s dt m => ⟨fun h hn => State.arriveU_of_fieldless (q := softResetRequest) h rfl rfl rfl hn, fun hg hm hh hl hcode => ?_⟩,
    fun s dt m h => ?_⟩
  · exact (State.arriveU_of_mailbox none hg hm hh hl).trans
      (congrArg Host.Outcome.next (State.execute_of_unfit none (by simp [unfit, hcode])))
  · have hspelled : ∀ m' : Mailbox, m'.frame = m.frame → ∀ q, (∀ q', q = some q' → q'.code ≠ requestCode m'.frame) →
        (s.advance dt).arriveU m' q = .next ((s.arrived dt).executeSpelled m.frame) := fun m' hm' q hq =>
      hm' ▸ State.arriveU_spelled s dt m' q (hm' ▸ h) hq
    refine ⟨hspelled (bareOf m.frame) rfl none (by simp), hspelled m rfl none (by simp), fun hcode => hspelled m rfl (some softResetRequest) ?_, ?_⟩
    · rintro q' hq'
      obtain rfl := Option.some.inj hq'
      exact fun hh => hcode hh.symm
    · have hlisted : (largestBody (requestCode m.frame)).isSome = true := by
        simp only [State.executesFrame, unfit, Bool.and_eq_true, Bool.not_eq_true', Bool.or_eq_false_iff, Option.isNone_eq_false_iff] at h
        exact h.2.2
      rw [← requestOf_isSome (Config.fields m.frame), Option.isSome_iff_exists] at hlisted
      obtain ⟨q, hq⟩ := hlisted
      refine ⟨q, hq, requestOf_code _ _ _ hq, ?_⟩
      unfold State.executeSpelled
      simp only [hq]

/-! ### READ_STATUS (R183) -/

theorem Ctx.status_iteration (loops : List LoopLevel) : (loops.getLast?.map (·.iteration)).getD 0 =
    match loops.getLast? with
    | some l => l.iteration
    | none => 0 := by
  cases loops.getLast? <;> rfl

/-- Settles O46: READ_STATUS leaves no work behind, and a waiting step's view is that of its needs. -/
theorem readStatusClears : Obligations.ReadStatusClears := by
  refine ⟨fun s dt m h hn => ?_, fun s => ⟨rfl, rfl, rfl, rfl, rfl, rfl, rfl, ?_⟩, fun s e st hst => ?_⟩
  · exact State.arriveU_of_fieldless (q := readStatusRequest) h rfl rfl rfl hn
  · refine List.map_congr_left fun x _ => ?_
    simp only [Ctx.status, Ctx.status_iteration]
    rfl
  · have hview : s.waitView e =
        { ctx := e.ctx, head := (s.ctx e.ctx).cur, cls := e.cls, priority := e.priority, entryTime := e.entryTime, waited := e.waited,
          raised := e.raised, unmetLines := (List.range Config.lines).filter fun l => s.lineUnmet e.ctx st l,
          unmetGroup := st.claim.filter fun g => s.groupUnmet e.ctx g, unmetGate := s.closedUnmet e.ctx st || s.openUnmet st } := by
      unfold State.waitView
      simp only [hst]
    rw [hview]
    refine ⟨rfl, rfl, rfl, rfl, rfl, rfl, rfl, fun l => ?_, fun g => ?_, ?_⟩
    · rw [List.mem_filter, List.mem_range]; rfl
    · rw [Option.filter_eq_some_iff]
    · rw [Bool.or_eq_true]

/-! ### FORCE_POINT (R33) -/

theorem CtxState.forceable_iff {x : Ctx} : x.state.forceable = !x.busy := by
  unfold Ctx.busy Ctx.active CtxState.forceable
  cases x.state <;> rfl

/-- Settles O50, by the cases of the entry and then of each test of `State.checkForce`. -/
theorem forcePointChecksInOrder : Obligations.ForcePointChecksInOrder := by
  intro s p v
  refine ⟨fun hp => ?_, fun hp hq => ?_, fun cfg st hp hq => ?_, fun cfg r hp hq hhot => ?_, fun cfg r c hp hq hflow hpower howner => ?_⟩
  · unfold State.checkForce
    dsimp only
    rw [if_pos (show Config.points ≤ p from hp)]
  · unfold State.checkForce
    dsimp only
    rw [if_neg (show ¬Config.points ≤ p from Nat.not_le.mpr hp), hq]
  · unfold State.checkForce
    dsimp only
    rw [if_neg (show ¬Config.points ≤ p from Nat.not_le.mpr hp), hq]
  · unfold State.checkForce
    dsimp only
    rw [if_neg (show ¬Config.points ≤ p from Nat.not_le.mpr hp), hq]
    dsimp only
    rw [if_pos (cfg.flowOrPower_iff.mpr hhot)]
  · have hcold : ¬cfg.flowOrPower = true := fun h => (cfg.flowOrPower_iff.mp h).elim hflow hpower
    have hcheck : s.checkForce p v =
        if s.isOpenOutput p then some (refusal .inUse (some p) none)
        else if !(s.ctx c).state.forceable then some (notAllowed p (s.ctx c).state)
        else if quantityMax cfg.quantity < v then some (refusal .outOfRange (some p) none) else none := by
      unfold State.checkForce
      dsimp only
      rw [if_neg (show ¬Config.points ≤ p from Nat.not_le.mpr hp), hq]
      dsimp only
      rw [if_neg hcold, howner]
    rw [hcheck, CtxState.forceable_iff, Bool.not_not]
    refine ⟨fun ho => if_pos ho, fun ho hb => ?_, fun ho hb hv => ?_, fun ho hb hv => ?_⟩ <;> rw [ho, hb]
    · rfl
    · exact if_pos hv
    · exact if_neg (Nat.not_lt.mpr hv)

end Sys2Proof.Machine
end

section
/-!
The requests that read (R35, R36, R42, R60, R91, R121, R123, R153, R182).
-/
namespace Sys2Proof.Machine

section
variable {s : State} {dt : Nat} {m : Mailbox} {start count code most size : Nat} {body : State → Body}

/-- A request that reads a span answers what stands, or is refused for its count or for its span. -/
theorem State.arriveU_reads (hcode : fieldless code = false) (h : s.executes m code = true) :
    let run := (s.advance dt).arriveU m (some (readRequest code start count most size body))
    (s.agenda = [] → 1 ≤ count → count ≤ most → start + count ≤ size →
        run = .next ((s.arrived dt).answered m (okay (body (s.arrived dt)))))
      ∧ (1 ≤ count → count ≤ most → size < start + count → run = .next ((s.arrived dt).answered m (refusal .outOfRange none none)))
      ∧ (count = 0 ∨ most < count → run = .next ((s.arrived dt).answered m badRequest)) := by
  have hq : (readRequest code start count most size body).Fielded := ⟨hcode, Nat.le_refl 1⟩
  exact ⟨fun hn h1 hm hspan => hq.passes_of_nil h (within_eq_true_of_le h1 hm) (spanFault_of_le hspan) hn,
    fun h1 hm hspan => hq.refused h (within_eq_true_of_le h1 hm) (spanFault_of_lt hspan),
    fun hc => State.arriveU_of_not_counted h (within_one_eq_false hc)⟩

end

theorem readContextRequest_fielded (c : Nat) : (readContextRequest c).Fielded := ⟨rfl, Nat.le_refl 1⟩

/-- A gate's view of a sample shows its f and its stale flag. -/
theorem State.sampleAt_some {s : State} {p : Nat} {cfg : PointCfg} {st : Sample} (h : s.point p = .sample cfg st) :
    s.sampleAt (some p) = some (st.f, st.stale) := by
  simp [State.sampleAt, h]

/-- Settles O45: a request that reads has no effect (`State.arriveU_reads`), and each view is spelled out by the cases of its entry. -/
theorem readsAnswerAndChangeNothing : Obligations.ReadsAnswerAndChangeNothing := by
  refine ⟨fun s dt m start count c => ?_, fun s p => ⟨fun hp => ?_, fun cfg r hp => ?_, fun cfg st hp => ?_⟩, fun s l => rfl,
    fun s g => ⟨fun hg => ?_, fun x hg => ?_⟩,
    fun x now => ⟨rfl, ?_, rfl, rfl, rfl, rfl, rfl, rfl, rfl, rfl, rfl, rfl, rfl, rfl, rfl⟩,
    fun s => ⟨rfl, rfl, rfl, rfl, rfl, rfl, rfl, rfl, rfl, rfl⟩⟩
  · refine ⟨fun h hn => State.arriveU_of_fieldless (q := identifyRequest) h rfl rfl rfl hn, State.arriveU_reads rfl, State.arriveU_reads rfl,
      State.arriveU_reads rfl, State.arriveU_reads rfl, State.arriveU_reads rfl, State.arriveU_reads rfl, State.arriveU_reads rfl,
      fun h hn hc => ?_, fun h hc => ?_⟩
    · exact (readContextRequest_fielded c).passes_of_nil h rfl (indexFault_of_lt hc) hn
    · exact (readContextRequest_fielded c).refused h rfl (indexFault_of_le hc)
  · simp only [State.pointEntry, State.sampleView, hp, and_self]
  · refine ⟨by simp only [State.pointEntry, hp], ?_⟩
    have hleft : r.d - (s.now - r.r).toNat = if r.d ≤ (s.now - r.r).toNat then 0 else r.d - (s.now - r.r).toNat := by
      split <;> omega
    have hnode : (s.node cfg.node).map (·.state) = match s.node cfg.node with | some n => some n.state | none => none := by
      cases s.node cfg.node <;> rfl
    simp only [State.sampleView, hp]
    rw [← hleft, hnode] <;> rfl
  · simp only [State.pointEntry, State.sampleView, hp, and_self]
  · rw [State.gateView, hg]; rfl
  · refine ⟨_, by rw [State.gateView, hg]; rfl, rfl, rfl, rfl, rfl, fun ht => by dsimp only; rw [ht]; rfl, fun t ht => by dsimp only; rw [ht]; rfl,
      fun cfg r hp => by dsimp only; rw [hp], ?_⟩
    rintro c seen (⟨rfl, rfl⟩ | ⟨rfl, rfl⟩)
    · exact ⟨fun hn => by dsimp only; rw [hn]; rfl, fun p cfg st hp hq => by dsimp only; rw [hp]; exact State.sampleAt_some hq⟩
    · exact ⟨fun hn => by dsimp only; rw [hn]; rfl, fun p cfg st hp hq => by dsimp only; rw [hp]; exact State.sampleAt_some hq⟩
  · rw [Ctx.view, bne_iff_ne]

end Sys2Proof.Machine
end

section
/-!
Writes of points, nodes, groups and records, and forces, are made at once where every check passes (R21, R33, R34, R40, R58, R59, R123).
-/
namespace Sys2Proof.Machine

/-! ### Writes leave no work -/

@[simp] theorem State.writePoint_agenda (s : State) (e : PointWrite) : (s.writePoint e).agenda = s.agenda := by
  unfold State.writePoint
  split
  · rfl
  · rfl
  · split
    · split <;> rfl
    · rfl

theorem foldl_agenda {α : Type} {f : State → α → State} (h : ∀ s e, (f s e).agenda = s.agenda) (es : List α) (s : State) :
    (es.foldl f s).agenda = s.agenda := by
  induction es generalizing s with
  | nil => rfl
  | cons e es ih => rw [List.foldl_cons, ih, h]

/-! ### Records (R58, R59) -/

theorem State.writeRecords_only (s : State) (i : Nat) (rs : List (List Byte)) :
    s.writeRecords i rs = { s with records := (s.writeRecords i rs).records } := by
  induction rs generalizing s i with
  | nil => rfl
  | cons bs rs ih =>
    rw [State.writeRecords, ih]
    cases decodeRecord bs <;> rfl

theorem State.length_writeRecords (s : State) (i : Nat) (rs : List (List Byte)) : (s.writeRecords i rs).records.length = s.records.length := by
  induction rs generalizing s i with
  | nil => rfl
  | cons bs rs ih =>
    rw [State.writeRecords, ih]
    cases decodeRecord bs <;> simp

/-- Records are written from their start on, and so many. -/
theorem State.record_writeRecords_of_outside {s : State} {start i : Nat} {rs : List (List Byte)} (h : i < start ∨ start + rs.length ≤ i) :
    (s.writeRecords start rs).record i = s.record i := by
  induction rs generalizing s start with
  | nil => rfl
  | cons bs rs ih =>
    rw [List.length_cons] at h
    rw [State.writeRecords, ih (by omega)]
    cases decodeRecord bs with
    | error e => rfl
    | ok r => simp [State.record, List.getD_eq_getElem?_getD, List.getElem?_set_ne (show start ≠ i by omega)]

/-- Each record stands at its own index. -/
theorem State.record_writeRecords {s : State} {start k : Nat} {rs : List (List Byte)} {bs : List Byte} {r : Record}
    (hk : rs[k]? = some bs) (hr : decodeRecord bs = .ok r) (hlt : start + k < s.records.length) :
    (s.writeRecords start rs).record (start + k) = r := by
  induction rs generalizing s start k with
  | nil => cases hk
  | cons b rs ih =>
    rw [State.writeRecords]
    cases k with
    | zero =>
      obtain rfl : b = bs := Option.some.inj hk
      rw [State.record_writeRecords_of_outside (.inl (by omega)), hr]
      have hlt' : start < s.records.length := hlt
      simp [State.record, List.getD_eq_getElem?_getD, hlt']
    | succ k =>
      have hlen : ∀ v : State, v.records.length = s.records.length → (v.writeRecords (start + 1) rs).record (start + (k + 1)) = r := fun v hv => by
        have := ih (s := v) (start := start + 1) (k := k) hk (by omega)
        rwa [show start + 1 + k = start + (k + 1) by omega] at this
      refine hlen _ ?_
      cases decodeRecord b <;> simp

/-- Records that decode and that no path holds leave the check to those behind them. -/
theorem State.checkRecords_append {s : State} {start : Nat} {before : List (List Byte)} (rest : List (List Byte))
    (h : ∀ k b, before[k]? = some b → (∃ r, decodeRecord b = .ok r) ∧ s.useCount (start + k) = 0) :
    s.checkRecords start (before ++ rest) = s.checkRecords (start + before.length) rest := by
  induction before generalizing start with
  | nil => rfl
  | cons b before ih =>
    obtain ⟨⟨r, hr⟩, huse⟩ := h 0 b rfl
    have huse' : ¬0 < s.useCount start := by rw [Nat.add_zero] at huse; omega
    rw [List.cons_append, State.checkRecords, hr]
    dsimp only
    rw [if_neg huse', ih fun k b' hb => by rw [Nat.add_assoc, Nat.add_comm 1 k]; exact h (k + 1) b' hb]
    rw [List.length_cons, Nat.add_assoc, Nat.add_comm 1]

/-- The first slot that does not decode is the fault (R58). -/
theorem decodeSlots_eq_error {bs : List Byte} {k slot n j e : Nat} (hj : j < n)
    (hok : ∀ i, i < j → ∃ x, decodeItem ((bs.drop (k + 20 * i)).take 20) = .ok x)
    (he : decodeItem ((bs.drop (k + 20 * j)).take 20) = .error e) :
    decodeSlots bs k slot n = .error { slot := some (slot + j), check := some e } := by
  induction n generalizing k slot j with
  | zero => exact absurd hj (Nat.not_lt_zero _)
  | succ n ih =>
    rw [decodeSlots]
    cases j with
    | zero =>
      rw [show k + 20 * 0 = k by omega] at he
      rw [he]; rfl
    | succ j =>
      obtain ⟨x, hx⟩ := hok 0 (by omega)
      rw [show k + 20 * 0 = k by omega] at hx
      rw [hx]
      dsimp only
      rw [ih (j := j) (by omega) (fun i hi => by rw [show k + 20 + 20 * i = k + 20 * (i + 1) by omega]; exact hok (i + 1) (by omega))
        (by rw [show k + 20 + 20 * j = k + 20 * (j + 1) by omega]; exact he)]
      rw [Nat.add_assoc, Nat.add_comm 1]

theorem decodeRecord_of_head {bs : List Byte} (h : byteAt bs 0 % 4 = 1) : decodeRecord bs =
    match decodeHead bs with
    | .error e => .error { slot := none, check := some e }
    | .ok hd =>
      match decodeSlots bs 32 0 6 with
      | .error e => .error e
      | .ok is => .ok (.head hd is (byteAt bs 0 / 128 == 1)) := by
  unfold decodeRecord
  rw [h] <;> rfl

theorem decodeRecord_of_cont {bs : List Byte} (h : byteAt bs 0 % 4 = 2) : decodeRecord bs =
    match decodeSlots bs 8 0 10 with
    | .error e => .error e
    | .ok is => .ok (.cont is (byteAt bs 0 / 128 == 1)) := by
  unfold decodeRecord
  rw [h] <;> rfl

theorem decodeRecord_of_three {bs : List Byte} (h : byteAt bs 0 % 4 = 3) : decodeRecord bs = .error { slot := none, check := none } := by
  unfold decodeRecord
  rw [h] <;> rfl

/-- A kind code that names no kind is the first check of a HEAD (R58). -/
theorem decodeHead_of_kind {bs : List Byte} (h : 10 < byteAt bs 1) : decodeHead bs = .error 0 := by
  have hkind : stepKindOf (byteAt bs 1) = none := by
    rw [stepKindOf, List.getElem?_eq_none_iff]
    exact h
  unfold decodeHead
  dsimp only
  rw [hkind, checked]
  rfl

/-! ### Roughing groups (R123) -/

theorem State.checkRoughing_of_range {s : State} {e : RoughingWrite} (h : 3 ≤ e.group ∨ ∃ c ∈ e.members, 6 ≤ c) :
    s.checkRoughing e = some (refusal .outOfRange (some e.group) none) := by
  unfold State.checkRoughing
  dsimp only
  by_cases hg : 3 ≤ e.group
  · rw [indexFault_of_le (size := Config.groups) hg, firstRefusal_some]
  · obtain ⟨c, hc, h6⟩ := h.resolve_left hg
    have hall : e.members.all (· < Config.contexts) = false := by
      rw [List.all_eq_false]
      exact ⟨c, hc, fun h => absurd (of_decide_eq_true h) (Nat.not_lt.mpr h6)⟩
    rw [indexFault_of_lt (size := Config.groups) (Nat.not_le.mp hg), firstRefusal_none, hall, Bool.not_false, refuseIf_true, firstRefusal_some]

/-- Within its ranges a group's write is refused only for a member left out that is not OFFLINE. -/
theorem State.checkRoughing_of_listed {s : State} {e : RoughingWrite} (hg : e.group < 3) (hm : ∀ c ∈ e.members, c < 6) :
    s.checkRoughing e = refuseIf ((s.group e.group).members.any fun c => !e.members.contains c && (s.ctx c).state != .offline)
      (refusal .inUse (some e.group) none) := by
  have hall : e.members.all (· < Config.contexts) = true := by
    rw [List.all_eq_true]
    exact fun c hc => decide_eq_true (hm c hc)
  unfold State.checkRoughing
  dsimp only
  rw [indexFault_of_lt (size := Config.groups) hg, firstRefusal_none, hall, Bool.not_true, refuseIf_false, firstRefusal_none, firstRefusal_single]

theorem leavesOut_iff {s : State} {e : RoughingWrite} :
    ((s.group e.group).members.any fun c => !e.members.contains c && (s.ctx c).state != .offline) = true ↔
      ∃ c ∈ (s.group e.group).members, c ∉ e.members ∧ (s.ctx c).state ≠ .offline := by
  simp only [List.any_eq_true, Bool.and_eq_true, Bool.not_eq_true', bne_iff_ne, List.contains_eq_mem, decide_eq_false_iff_not]

theorem State.length_groups {s : State} (h : s.sized = true) : s.groups.length = Config.groups := by
  have hs := (State.sized_iff s).mp h
  simp only [State.sizes, partSizes, List.cons.injEq] at hs
  exact hs.2.2.2.2.2.2.1

theorem State.length_records {s : State} (h : s.sized = true) : s.records.length = Config.records := by
  have hs := (State.sized_iff s).mp h
  simp only [State.sizes, partSizes, List.cons.injEq] at hs
  exact hs.2.2.1

/-- A roughing write sets the members of one group. -/
theorem State.group_writeRoughing {s : State} {e : RoughingWrite} (hg : e.group < s.groups.length) :
    (s.writeRoughing e).group e.group = { s.group e.group with members := contexts.filter e.members.contains } := by
  simp [State.group, State.writeRoughing, List.getD_eq_getElem?_getD, hg]

theorem State.group_writeRoughing_of_ne {s : State} {e : RoughingWrite} {g : Nat} (hg : g ≠ e.group) :
    (s.writeRoughing e).group g = s.group g := by
  simp [State.group, State.writeRoughing, List.getD_eq_getElem?_getD, List.getElem?_set_ne hg.symm]

/-! ### The requests -/

theorem writePointsRequest_fielded (es : List PointWrite) : (writePointsRequest es).Fielded := ⟨rfl, Nat.le_refl 1⟩
theorem writeNodesRequest_fielded (es : List NodeWrite) : (writeNodesRequest es).Fielded := ⟨rfl, Nat.le_refl 1⟩
theorem writeRoughingRequest_fielded (es : List RoughingWrite) : (writeRoughingRequest es).Fielded := ⟨rfl, Nat.le_refl 1⟩
theorem forcePointRequest_fielded (p v : Nat) : (forcePointRequest p v).Fielded := ⟨rfl, Nat.le_refl 1⟩

theorem writeRecordsRequest_bodyHeld {s : State} {m : Mailbox} {start : Nat} {rs : List (List Byte)} (h : s.executes m 48 = true)
    (hb : 208 * rs.length ≤ bodyLength m.frame) : (writeRecordsRequest start rs).bodyHeld m = true := by
  simp only [State.executes, fieldless, Bool.and_eq_true, Bool.or_eq_true] at h
  have hcomplete : m.complete = true := (h.2.resolve_left (by decide)).1
  rw [Request.bodyHeld, hcomplete, Bool.true_and, Bool.or_eq_true]
  exact .inr (decide_eq_true hb)

theorem writeRecordsRequest_not_bodyHeld {m : Mailbox} {start : Nat} {rs : List (List Byte)} (h1 : 1 ≤ rs.length)
    (hb : bodyLength m.frame < 208 * rs.length) : (writeRecordsRequest start rs).bodyHeld m = false :=
  Request.not_bodyHeld (by change 0 < 208 * rs.length; omega) (.inr hb)

/-- The checks of WRITE_RECORDS on a span within the store. -/
theorem State.checkRecords_of_span {s : State} {start : Nat} {rs : List (List Byte)} (h : start + rs.length ≤ 2048) :
    (writeRecordsRequest start rs).check s = s.checkRecords start rs := by
  have hspan : decide (Config.records < start + rs.length) = false := decide_eq_false (Nat.not_lt.mpr h)
  change firstRefusal [refuseIf (decide (Config.records < start + rs.length)) _, _] = _
  rw [hspan, refuseIf_false, firstRefusal_none, firstRefusal_single]

section
variable {s : State} {dt : Nat} {m : Mailbox} {start : Nat} {records : List (List Byte)}

/-- WRITE_RECORDS by its count, its body, its span and its records (R58). -/
theorem exec_writeRecords (hn : s.agenda = []) (h : s.executes m 48 = true) (h1 : 1 ≤ records.length) (h7 : records.length ≤ 7) :
    let a := s.arrived dt
    let run := exec (.writeRecords dt m start records) s
    (208 * records.length ≤ bodyLength m.frame → start + records.length ≤ 2048 → a.checkRecords start records = none →
        run = .next ((a.writeRecords start records).answered m (okay .empty)))
      ∧ (208 * records.length ≤ bodyLength m.frame → 2048 < start + records.length →
          run = .next (a.answered m (refusal .outOfRange (some start) none)))
      ∧ (∀ r, 208 * records.length ≤ bodyLength m.frame → start + records.length ≤ 2048 →
          a.checkRecords start records = some r → run = .next (a.answered m r))
      ∧ (bodyLength m.frame < 208 * records.length → run = .next (a.answered m badRequest)) := by
  have hcode : (writeRecordsRequest start records).code ≠ softResetCode := show (48 : Nat) ≠ 113 by decide
  have hcount : (writeRecordsRequest start records).counted = true := within_eq_true_of_le h1 h7
  refine ⟨fun hb hspan hc => ?_, fun hb hspan => ?_, fun r hb hspan hc => ?_, fun hb => ?_⟩
  · refine State.arriveU_of_passes_of_nil (q := writeRecordsRequest start records) h (writeRecordsRequest_bodyHeld h hb) hcount hcode
      ((State.checkRecords_of_span hspan).trans hc) ?_
    change ((s.arrived dt).writeRecords start records).agenda = []
    rw [State.writeRecords_only]
    exact hn
  · have hcheck : (writeRecordsRequest start records).check (s.arrived dt) = some (refusal .outOfRange (some start) none) := by
      have hspan' : decide (Config.records < start + records.length) = true := decide_eq_true hspan
      change firstRefusal [refuseIf (decide (Config.records < start + records.length)) _, _] = _
      rw [hspan', refuseIf_true, firstRefusal_some]
    exact State.arriveU_of_refused (q := writeRecordsRequest start records) h (writeRecordsRequest_bodyHeld h hb) hcount hcode hcheck
  · exact State.arriveU_of_refused (q := writeRecordsRequest start records) h (writeRecordsRequest_bodyHeld h hb) hcount hcode
      ((State.checkRecords_of_span hspan).trans hc)
  · exact (State.arriveU_performs (q := writeRecordsRequest start records) h).trans
      (congrArg Host.Outcome.next (State.perform_of_unmet (.inl (writeRecordsRequest_not_bodyHeld h1 hb))))

end

/-- Settles O49: each write's effect leaves no work behind, and the checks of entries and of records stand in their order. -/
theorem tableWritesAreMade : Obligations.TableWritesAreMade := by
  refine ⟨fun s dt m hn => ⟨fun es h h1 hmost hc => ?_, fun es h h1 hmost hc => ?_, fun es h h1 hmost hc => ?_,
      fun start rs h h1 h7 => exec_writeRecords hn h h1 h7, fun start rs h hc => ?_, fun es h => ⟨fun r h1 h3 hr => ?_, fun hc => ?_⟩,
      fun start rs hsize => ⟨fun k bs r hk hr hlt => ?_, fun i hi => State.record_writeRecords_of_outside hi, s.writeRecords_only start rs⟩,
      fun e hsize hg => ?_, fun p v cfg r h hc hp => ?_, fun p cfg r h hp hlt => ?_⟩,
    fun s start rs before after bs => ⟨fun hgood => ?_, fun hrs hgood => ?_⟩, fun bs => ⟨decodeRecord_of_three, fun hk hkind => ?_, fun k hkind hd => ?_, fun from' slots k e hform hk hok he => ?_⟩,
    fun s before after e => ⟨fun hbefore => ?_, fun hnodup hall => ?_, State.checkRoughing_of_range, fun hg hm => ⟨fun hout => ?_, fun hin => ?_⟩⟩⟩
  · refine (writePointsRequest_fielded es).passes_of_nil h (within_eq_true_of_le h1 hmost) hc ?_
    exact (foldl_agenda State.writePoint_agenda es _).trans hn
  · refine (writeNodesRequest_fielded es).passes_of_nil h (within_eq_true_of_le h1 hmost) hc ?_
    exact (foldl_agenda (f := State.writeNode) (fun _ _ => rfl) es _).trans hn
  · refine (writeRoughingRequest_fielded es).passes_of_nil h (within_eq_true_of_le h1 hmost) hc ?_
    exact (foldl_agenda (f := State.writeRoughing) (fun _ _ => rfl) es _).trans hn
  · exact State.arriveU_of_not_counted (q := writeRecordsRequest start rs) h (within_one_eq_false hc)
  · exact (writeRoughingRequest_fielded es).refused h (within_eq_true_of_le h1 h3) hr
  · exact State.arriveU_of_not_counted (q := writeRoughingRequest es) h (within_one_eq_false hc)
  · exact State.record_writeRecords hk hr (by rw [State.length_records hsize]; exact hlt)
  · have hlen : e.group < s.groups.length := by rw [State.length_groups hsize]; exact hg
    rw [State.group_writeRoughing hlen]
    refine ⟨fun c => ?_, rfl, fun g hne => State.group_writeRoughing_of_ne hne, rfl⟩
    simp [contexts, Config.contexts]
  · have hforce : (s.arrived dt).force p v = (s.arrived dt).setPoint p (.set cfg { r with forced := some (min v cfg.engFull) }) := by
      have : (s.arrived dt).point p = .set cfg r := hp
      unfold State.force
      rw [this]
    have := (forcePointRequest_fielded p v).passes_of_nil (dt := dt) h rfl hc (by change ((s.arrived dt).force p v).agenda = []; rw [hforce]; exact hn)
    refine this.trans ?_
    change Host.Outcome.next (((s.arrived dt).force p v).answered m _) = _
    rw [hforce]
    rfl
  · have hpoint : (s.arrived dt).point p = .set cfg r := hp
    have hrelease : (s.arrived dt).releaseForce p = (s.arrived dt).setPoint p (.set cfg { r with forced := none }) := by
      unfold State.releaseForce
      rw [hpoint]
    have hempty : (s.arrived dt).pointEmpty p = false := by simp [State.pointEmpty, State.pointEntry, hpoint]
    have hcheck : (releasePointRequest p).check (s.arrived dt) = none := by
      simp only [releasePointRequest, indexFault_of_lt (size := Config.points) hlt, hempty, refuseIf_false, firstRefusal_none, firstRefusal_nil]
    have := (releasePointRequest_fielded p).passes_of_nil (dt := dt) h rfl hcheck (by change ((s.arrived dt).releaseForce p).agenda = []; rw [hrelease]; exact hn)
    refine this.trans ?_
    change Host.Outcome.next (((s.arrived dt).releaseForce p).answered m _) = _
    rw [hrelease]
    rfl
  · have := State.checkRecords_append [] hgood
    rw [List.append_nil] at this
    exact this
  · rw [hrs, State.checkRecords_append (bs :: after) hgood, State.checkRecords]
    refine ⟨fun e he => ?_, fun r hr huse => ?_⟩
    · rw [he]
    · rw [hr]; exact if_pos huse
  · rw [decodeRecord_of_head hkind, decodeHead_of_kind hk]
  · rw [decodeRecord_of_head hkind, hd]
  · rcases hform with ⟨hkind, ⟨hd, hhd⟩, rfl, rfl⟩ | ⟨hkind, rfl, rfl⟩
    · rw [decodeRecord_of_head hkind, hhd]
      dsimp only
      rw [decodeSlots_eq_error hk hok he, Nat.zero_add]
    · rw [decodeRecord_of_cont hkind, decodeSlots_eq_error hk hok he, Nat.zero_add]
  · obtain ⟨hall, hnodup, -⟩ := checkEntries_eq_none hbefore
    refine ⟨fun hmem => ?_, fun r hfresh hr => ?_⟩
    · have hseen : ((before.map RoughingWrite.group).reverse ++ []).contains e.group = true := by simpa using hmem
      rw [checkEntries_append _ hnodup hall [] (by simp), checkEntries, hseen, refuseIf_true, firstRefusal_some]
    · have hseen : ((before.map RoughingWrite.group).reverse ++ []).contains e.group = false := by simpa using hfresh
      rw [checkEntries_append _ hnodup hall [] (by simp), checkEntries, hseen, refuseIf_false, firstRefusal_none, hr, firstRefusal_some]
  · have := checkEntries_append [] hnodup hall [] (by simp)
    rw [List.append_nil] at this
    exact this
  · rw [State.checkRoughing_of_listed hg hm, leavesOut_iff.mpr hout, refuseIf_true]
  · have hnone : ((s.group e.group).members.any fun c => !e.members.contains c && (s.ctx c).state != .offline) = false := by
      rw [Bool.eq_false_iff]
      intro hh
      obtain ⟨c, hc, hnot, hstate⟩ := leavesOut_iff.mp hh
      exact (hin c hc).elim hnot hstate
    rw [State.checkRoughing_of_listed hg hm, hnone, refuseIf_false]

end Sys2Proof.Machine
end

section
/-!
Writes of supply lines and gates (R120, R153), and the scan that they trigger in a quiet part.
-/
namespace Sys2Proof.Machine

/-! ### A quiet part stays quiet -/

theorem State.arrived_quiet {s : State} {dt : Nat} (h : s.quiet = true) : (s.arrived dt).quiet = true := State.advance_quiet dt h

@[simp] theorem State.writeGate_agenda (s : State) (e : GateWrite) : (s.writeGate e).agenda = s.agenda := by
  unfold State.writeGate
  split
  · rfl
  · simp

theorem State.retarget_quiet (s : State) (p t d : Nat) : (s.retarget p t d).quiet = s.quiet := by
  unfold State.retarget
  split <;> rfl

theorem State.releaseForce_quiet (s : State) (p : Nat) : (s.releaseForce p).quiet = s.quiet := by
  unfold State.releaseForce
  split <;> rfl

theorem State.writeGate_quiet (s : State) (e : GateWrite) : (s.writeGate e).quiet = s.quiet := by
  unfold State.writeGate
  split
  · rfl
  · exact (State.retarget_quiet ..).trans (State.releaseForce_quiet ..)

theorem foldl_quiet {α : Type} {f : State → α → State} (h : ∀ s e, (f s e).quiet = s.quiet) (es : List α) (s : State) :
    (es.foldl f s).quiet = s.quiet := by
  induction es generalizing s with
  | nil => rfl
  | cons e es ih => rw [List.foldl_cons, ih, h]

/-- An executed request whose effect triggers a scan in a quiet part. -/
theorem Request.Fielded.passes_of_trigger {s u : State} {dt : Nat} {m : Mailbox} {q : Request} (hq : q.Fielded) (h : s.executes m q.code = true)
    (hc : q.counted = true) (hp : q.check (s.arrived dt) = none) (he : q.effect (s.arrived dt) = u.push [.trigger]) (hu : u.quiet = true) :
    (s.advance dt).arriveU m (some q) = .next (u.answered m (q.respond (s.arrived dt) u)) := by
  rw [hq.passes h hc hp, he, State.settle_trigger u hu]

/-! ### Supply lines (R120) -/

theorem Ctx.active_iff {x : Ctx} : x.active = true ↔ x.state = .running ∨ x.state = .diverted := by
  unfold Ctx.active
  cases x.state <;> simp

theorem State.lineInUse_iff {s : State} {l : Nat} : s.lineInUse l = true ↔
    ∃ p cfg r c, s.point p = .set cfg r ∧ cfg.quantity = .flow ∧ cfg.line = some l ∧ cfg.owner = .ctx c
      ∧ ((s.ctx c).state = .running ∨ (s.ctx c).state = .diverted) := by
  rw [State.lineInUse, State.any_points rfl]
  refine exists_congr fun p => ?_
  cases hp : s.point p with
  | empty => simp
  | sample => simp
  | set cfg r =>
    cases ho : cfg.owner with
    | shared =>
      simp only [ho, Bool.and_false, Bool.false_eq_true, false_iff]
      rintro ⟨cfg', r', c, heq, -, -, howner, -⟩
      cases heq
      rw [ho] at howner
      cases howner
    | ctx c =>
      simp only [ho, Bool.and_eq_true, beq_iff_eq, Ctx.active_iff, and_assoc]
      constructor
      · rintro ⟨hq, hl, hs⟩
        exact ⟨cfg, r, c, rfl, hq, hl, ho, hs⟩
      · rintro ⟨cfg', r', c', heq, hq, hl, howner, hs⟩
        cases heq
        rw [ho] at howner
        cases howner
        exact ⟨hq, hl, hs⟩

theorem State.checkSupply_of_range {s : State} {e : SupplyWrite} (h : 12 ≤ e.line ∨ 100000 < e.capacity) :
    s.checkSupply e = some (refusal .outOfRange (some e.line) none) := by
  unfold State.checkSupply
  by_cases hl : 12 ≤ e.line
  · rw [indexFault_of_le (size := Config.lines) hl, firstRefusal_some]
  · rw [indexFault_of_lt (size := Config.lines) (Nat.not_le.mp hl), firstRefusal_none, decide_eq_true (h.resolve_left hl), refuseIf_true,
      firstRefusal_some]

theorem State.checkSupply_of_listed {s : State} {e : SupplyWrite} (hl : e.line < 12) (hc : e.capacity ≤ 100000) :
    s.checkSupply e = refuseIf (s.lineInUse e.line) (refusal .inUse (some e.line) none) := by
  unfold State.checkSupply
  rw [indexFault_of_lt (size := Config.lines) hl, firstRefusal_none, decide_eq_false (Nat.not_lt.mpr hc), refuseIf_false, firstRefusal_none,
    firstRefusal_single]

theorem State.line_writeSupply {s : State} {e : SupplyWrite} (h : e.line < s.lines.length) :
    (s.writeSupply e).line e.line = { s.line e.line with budget := e.budget, capacity := e.capacity } := by
  simp [State.line, State.writeSupply, List.getD_eq_getElem?_getD, h]

theorem State.line_writeSupply_of_ne {s : State} {e : SupplyWrite} {l : Nat} (h : l ≠ e.line) : (s.writeSupply e).line l = s.line l := by
  simp [State.line, State.writeSupply, List.getD_eq_getElem?_getD, List.getElem?_set_ne h.symm]

/-! ### Gates (R153) -/

theorem State.gate_writeGate_of_ne {s : State} {e : GateWrite} {k : Nat} (h : k ≠ e.index) : (s.writeGate e).gate k = s.gate k := by
  unfold State.writeGate
  split
  · exact State.gate_setGate_of_ne _ _ h.symm
  · rw [State.gate_setGate_of_ne _ _ h.symm, State.gate, State.retarget_gates, State.releaseForce_gates]
    rfl

/-- The output of a gate that is written is released and at 0 (R153). -/
theorem State.point_writeGate {s : State} {g : Nat} {f : GateFields} {cfg : PointCfg} {r : SetRec} (hp : s.point f.openOut = .set cfg r) :
    (s.writeGate { index := g, content := some f }).point f.openOut = .set cfg ({ r with forced := none }.retarget s.now 0 0) := by
  have hrelease : (s.releaseForce f.openOut).point f.openOut = .set cfg { r with forced := none } := by
    unfold State.releaseForce
    rw [hp]
    exact State.point_setPoint_self _ _ _ (State.lt_of_point hp (by simp))
  have := State.point_retarget_self (t := 0) (d := 0) hrelease
  rw [State.releaseForce_now] at this
  exact this

theorem State.outputTaken_iff {s : State} {g : Nat} {f : GateFields} : s.outputTaken g f = true ↔
    (∃ k x, k < 8 ∧ k ≠ g ∧ s.gate k = some x ∧ x.cfg.openOut = f.openOut)
      ∨ ∃ i, 0 < s.useCount i ∧ ∃ j, Item.set j ∈ (s.record i).items ∧ j.point = f.openOut := by
  have hdrives : ∀ r : Record, r.items.any (Item.drives f.openOut) = true ↔ ∃ j, Item.set j ∈ r.items ∧ j.point = f.openOut := fun r => by
    rw [List.any_eq_true]
    constructor
    · rintro ⟨x, hx, hd⟩
      cases x with
      | set j => exact ⟨j, hx, by simpa [Item.drives] using hd⟩
      | empty => cases hd
      | band => cases hd
      | cond => cases hd
    · rintro ⟨j, hj, hd⟩
      exact ⟨_, hj, by simpa [Item.drives] using hd⟩
  rw [State.outputTaken, Bool.or_eq_true, State.usedRecord_iff rfl]
  refine or_congr ?_ (exists_congr fun i => and_congr_right fun _ => hdrives _)
  simp only [List.any_eq_true, List.mem_range, Bool.and_eq_true, bne_iff_ne, Option.any_eq_true, beq_iff_eq]
  constructor
  · rintro ⟨k, hk, hne, x, hx, ho⟩
    exact ⟨k, x, hk, hne, hx, ho⟩
  · rintro ⟨k, x, hk, hne, hx, ho⟩
    exact ⟨k, hk, hne, x, hx, ho⟩

theorem State.gateHeld_iff {s : State} {g : Nat} {new : Option GateFields} : s.gateHeld g new = true ↔
    new.map (·.owner) ≠ (s.gate g).map (·.cfg.owner)
      ∧ ∃ i, 0 < s.useCount i ∧ ∃ h is more, s.record i = .head h is more ∧ (h.kind = .gateOpen ∨ h.kind = .gateClose) ∧ h.gate = some g := by
  have huses : ∀ r : Record, r.usesGate g = true ↔
      ∃ h is more, r = .head h is more ∧ (h.kind = .gateOpen ∨ h.kind = .gateClose) ∧ h.gate = some g := fun r => by
    cases r with
    | empty => simp [Record.usesGate]
    | cont => simp [Record.usesGate]
    | head h is more =>
      have hkind : h.kind.gate = true ↔ h.kind = .gateOpen ∨ h.kind = .gateClose := by cases h.kind <;> decide
      simp only [Record.usesGate, Bool.and_eq_true, beq_iff_eq, hkind]
      constructor
      · rintro ⟨hk, hg⟩
        exact ⟨h, is, more, rfl, hk, hg⟩
      · rintro ⟨h', is', more', heq, hk, hg⟩
        cases heq
        exact ⟨hk, hg⟩
  rw [State.gateHeld, Bool.and_eq_true, bne_iff_ne, State.usedRecord_iff rfl]
  exact and_congr_right fun _ => exists_congr fun i => and_congr_right fun _ => huses _

theorem State.gateMoving_iff {s : State} {g : Nat} {new : Option GateFields} : s.gateMoving g new = true ↔
    ∃ x, s.gate g = some x ∧ x.state ≠ .closed ∧ ¬(x.state = .fault ∧ new = none) := by
  rw [State.gateMoving, Option.any_eq_true]
  refine exists_congr fun x => and_congr_right fun _ => ?_
  simp only [Bool.and_eq_true, bne_iff_ne, Bool.not_eq_true', Bool.and_eq_false_iff, beq_eq_false_iff_ne, Option.isNone_eq_false_iff,
    Option.isSome_iff_ne_none, not_and_or]

theorem outputFits_iff {owner : Nat} {e : Option (Direction × PointCfg)} : outputFits owner e = true ↔
    ∃ cfg, e = some (.set, cfg) ∧ cfg.quantity = .digital ∧ cfg.owner = .ctx owner := by
  unfold outputFits
  split
  · next cfg => simp
  · next hno =>
    simp only [Bool.false_eq_true, false_iff]
    rintro ⟨cfg, rfl, -⟩
    exact hno cfg rfl

theorem switchFits_iff {owner : Nat} {e : Option (Direction × PointCfg)} : switchFits owner e = true ↔
    ∃ cfg, e = some (.sample, cfg) ∧ cfg.quantity = .digital ∧ (cfg.owner = .ctx owner ∨ cfg.owner = .shared) := by
  unfold switchFits
  split
  · next cfg => simp
  · next hno =>
    simp only [Bool.false_eq_true, false_iff]
    rintro ⟨cfg, rfl, -⟩
    exact hno cfg rfl

theorem firstFailing_eq_none {oks : List Bool} : firstFailing oks = none ↔ ∀ b ∈ oks, b = true := by
  simp [firstFailing, List.findIdx?_eq_none_iff]

theorem State.gatePoints_iff {s : State} {f : GateFields} : firstFailing (s.gatePoints f) = none ↔
    (∃ cfg, s.pointEntry f.openOut = some (.set, cfg) ∧ cfg.quantity = .digital ∧ cfg.owner = .ctx f.owner)
      ∧ ∀ p, p = f.openSw ∨ p = f.closedSw → ∃ cfg, s.pointEntry p = some (.sample, cfg) ∧ cfg.quantity = .digital
          ∧ (cfg.owner = .ctx f.owner ∨ cfg.owner = .shared) := by
  rw [firstFailing_eq_none, State.gatePoints]
  simp only [List.forall_mem_cons, outputFits_iff, switchFits_iff, true_and, forall_eq_or_imp, forall_eq]
  simp

theorem writeSupplyRequest_fielded (es : List SupplyWrite) : (writeSupplyRequest es).Fielded := ⟨rfl, Nat.le_refl 1⟩
theorem writeGatesRequest_fielded (es : List GateWrite) : (writeGatesRequest es).Fielded := ⟨rfl, Nat.le_refl 1⟩

theorem State.length_lines {s : State} (h : s.sized = true) : s.lines.length = Config.lines := State.length_lines_of_sizes ((State.sized_iff s).mp h)

theorem State.length_gates {s : State} (h : s.sized = true) : s.gates.length = Config.gates := by
  have hs := (State.sized_iff s).mp h
  simp only [State.sizes, partSizes, List.cons.injEq] at hs
  exact hs.2.2.2.2.2.2.2.1

/-- What refuses the write of a gate's entry IN_USE (R153 checks 4 to 6). -/
theorem State.gateUse_iff {s : State} {e : GateWrite} :
    (s.gateMoving e.index e.content || e.content.any (s.outputTaken e.index) || s.gateHeld e.index e.content) = true ↔
      (∃ x, s.gate e.index = some x ∧ x.state ≠ .closed ∧ ¬(x.state = .fault ∧ e.content = none))
        ∨ (∃ f, e.content = some f
            ∧ ((∃ k x, k < 8 ∧ k ≠ e.index ∧ s.gate k = some x ∧ x.cfg.openOut = f.openOut)
              ∨ ∃ i, 0 < s.useCount i ∧ ∃ j, Item.set j ∈ (s.record i).items ∧ j.point = f.openOut))
        ∨ (e.content.map (·.owner) ≠ (s.gate e.index).map (·.cfg.owner)
            ∧ ∃ i, 0 < s.useCount i ∧ ∃ h is more, s.record i = .head h is more ∧ (h.kind = .gateOpen ∨ h.kind = .gateClose)
                ∧ h.gate = some e.index) := by
  rw [Bool.or_eq_true, Bool.or_eq_true, State.gateMoving_iff, State.gateHeld_iff, Option.any_eq_true, or_assoc]
  refine or_congr_right (or_congr_left (exists_congr fun f => and_congr_right fun _ => State.outputTaken_iff))

/-- Settles O51: the writes leave a quiet part quiet, so the scan that they trigger admits nothing, and each check's condition is what the
model's test says. -/
theorem supplyAndGateWritesAreMade : Obligations.SupplyAndGateWritesAreMade := by
  refine ⟨fun s dt m hquiet => ⟨fun es h h1 hmost hc => ?_, fun es h h1 hmost hc => ?_, fun g f cfg r hsize hg hp => ⟨?_, ?_⟩,
      fun e hsize hl => ⟨?_, fun l hne => State.line_writeSupply_of_ne hne, rfl⟩,
      fun e => ⟨fun k hk => State.gate_writeGate_of_ne hk, fun hc => ?_, fun hsize hg hc => ?_⟩⟩,
    fun s e => ⟨State.checkSupply_of_range, fun hl hc hfed => ?_, fun hl hc hfed => ?_⟩, fun s e => ?_⟩
  · refine (writeSupplyRequest_fielded es).passes_of_trigger h (within_eq_true_of_le h1 hmost) hc rfl ?_
    exact (foldl_quiet (f := State.writeSupply) (fun _ _ => rfl) es _).trans (State.arrived_quiet hquiet)
  · refine (writeGatesRequest_fielded es).passes_of_trigger h (within_eq_true_of_le h1 hmost) hc rfl ?_
    exact (foldl_quiet State.writeGate_quiet es _).trans (State.arrived_quiet hquiet)
  · have hlen : ∀ v : State, v.gates = s.gates → g < v.gates.length := fun v hv => by rw [hv, State.length_gates hsize]; exact hg
    exact State.gate_setGate_self _ g _ (hlen _ (by rw [State.retarget_gates, State.releaseForce_gates]; rfl))
  · have hpoint : (s.arrived dt).point f.openOut = .set cfg r := hp
    exact ⟨_, State.point_writeGate hpoint, rfl, by simp [SetRec.currentValue, SetRec.retarget, SetRec.rampValue]⟩
  · exact State.line_writeSupply (by change e.line < s.lines.length; rw [State.length_lines hsize]; exact hl)
  · rw [State.writeGate, hc]
  · rw [State.writeGate, hc]
    exact State.gate_setGate_self _ _ _ (by change e.index < s.gates.length; rw [State.length_gates hsize]; exact hg)
  · rw [State.checkSupply_of_listed hl hc, State.lineInUse_iff.mpr hfed, refuseIf_true]
  · rw [State.checkSupply_of_listed hl hc, Bool.eq_false_iff.mpr fun h => hfed (State.lineInUse_iff.mp h), refuseIf_false]
  · intro held used listed
    have hlisted : listed → s.checkGate e = refuseIf (s.gateMoving e.index e.content || e.content.any (s.outputTaken e.index)
        || s.gateHeld e.index e.content) (refusal .inUse (some e.index) none) := fun ⟨hi, hf⟩ => by
      have hfields : (e.content.bind fun f => fieldFault (some e.index) (gateChecks f)) = none := by
        cases hc : e.content with
        | none => rfl
        | some f => simp [fieldFault, (hf f hc).1]
      have hpoints : (e.content.bind fun f => fieldFault (some e.index) (s.gatePoints f)) = none := by
        cases hc : e.content with
        | none => rfl
        | some f => simp [fieldFault, (hf f hc).2]
      rw [State.checkGate, indexFault_of_lt (size := Config.gates) hi, hfields, hpoints, firstRefusal_none, firstRefusal_none,
        firstRefusal_none, firstRefusal_single]
    refine ⟨fun hi => ?_, fun f k hi hc hk => ?_, fun f k hi hc hf hk => ?_, fun hl hu => ?_, fun hl hu => ?_, fun f => State.gatePoints_iff⟩
    · rw [State.checkGate, indexFault_of_le (size := Config.gates) hi, firstRefusal_some]
    · have hfields : (e.content.bind fun f => fieldFault (some e.index) (gateChecks f)) =
          some (refusal .outOfRange (some e.index) (some k)) := by simp [hc, fieldFault, hk]
      rw [State.checkGate, indexFault_of_lt (size := Config.gates) hi, hfields, firstRefusal_none, firstRefusal_some]
    · have hfields : (e.content.bind fun f => fieldFault (some e.index) (gateChecks f)) = none := by simp [hc, fieldFault, hf]
      have hpoints : (e.content.bind fun f => fieldFault (some e.index) (s.gatePoints f)) =
          some (refusal .outOfRange (some e.index) (some k)) := by simp [hc, fieldFault, hk]
      rw [State.checkGate, indexFault_of_lt (size := Config.gates) hi, hfields, hpoints, firstRefusal_none, firstRefusal_none,
        firstRefusal_some]
    · rw [hlisted hl, State.gateUse_iff.mpr hu, refuseIf_true]
    · rw [hlisted hl, Bool.eq_false_iff.mpr fun h => hu (State.gateUse_iff.mp h), refuseIf_false]

end Sys2Proof.Machine
end

section
/-!
Contexts that come to rest in a quiet part: idle entry, park and wake (R79, R87 to R90), with the scans that they trigger.
-/
namespace Sys2Proof.Machine

/-! ### Triggers in a quiet part -/

/-- In a part where no step waits a scan takes two pieces of work and changes nothing. -/
theorem runFor_trigger {s : State} {ts : List Task} (k : Nat) (ha : s.agenda = .trigger :: ts) (hw : s.waits = []) (hs : s.scanning = false)
    (hg : s.scanAgain = false) : runFor (k + 2) s = runFor k { s with agenda := ts } := by
  cases s
  simp only at ha hw hs hg
  subst ha hw hs hg
  rfl

theorem runFor_triggers {s : State} {ts : List Task} (n k : Nat) (hw : s.waits = []) (hs : s.scanning = false) (hg : s.scanAgain = false) :
    runFor (k + 2 * n) { s with agenda := List.replicate n .trigger ++ ts } = runFor k { s with agenda := ts } := by
  induction n with
  | zero => rfl
  | succ n ih =>
    have ha : ({ s with agenda := List.replicate (n + 1) .trigger ++ ts } : State).agenda = .trigger :: (List.replicate n .trigger ++ ts) := rfl
    rw [show k + 2 * (n + 1) = k + 2 * n + 2 by omega, runFor_trigger (k + 2 * n) ha hw hs hg]
    exact ih

theorem State.triggerIf_eq (s : State) (b : Bool) : s.triggerIf b = s.push (List.replicate b.toNat .trigger) := by
  cases b <;> rfl

/-- In a quiet part idle entry's last stage starts the auto-park timer where no job is queued, whatever scans stand around it (R79, R80). -/
theorem State.settle_restStart {s : State} {c : Nat} (i j : Nat) (hi : i ≤ 2) (hj : j ≤ 2) (hquiet : s.quiet = true)
    (hidle : (s.ctx c).state = .idle) (hq : (s.ctx c).queue = []) :
    (s.push (List.replicate i .trigger ++ .restStart c :: List.replicate j .trigger)).settle =
      s.setCtx c { s.ctx c with autoPark := autoParkTimer s.now (s.ctx c).cfg } := by
  obtain ⟨ha, hw, hs, hg⟩ := s.quiet_iff.mp hquiet
  have hpush : s.push (List.replicate i .trigger ++ .restStart c :: List.replicate j .trigger) =
      { s with agenda := List.replicate i .trigger ++ (.restStart c :: List.replicate j .trigger) } := by
    rw [State.push, ha, List.append_nil]
  have hself : ∀ u : State, u.agenda = [] → { u with agenda := [] } = u := fun u hu => by cases u; simp only at hu; subst hu; rfl
  have hrest : doTask (.restStart c) { s with agenda := List.replicate j .trigger } =
      { s.setCtx c { s.ctx c with autoPark := autoParkTimer s.now (s.ctx c).cfg } with agenda := List.replicate j .trigger } :=
    State.restStart_of_queue (s := { s with agenda := List.replicate j .trigger }) hidle hq
  have hrun : runFor (0 + 2 * j + 1 + 2 * i) (s.push (List.replicate i .trigger ++ .restStart c :: List.replicate j .trigger)) =
      s.setCtx c { s.ctx c with autoPark := autoParkTimer s.now (s.ctx c).cfg } := by
    rw [hpush, runFor_triggers i _ hw hs hg, runFor_cons _ _ rfl, hrest]
    have := runFor_triggers (s := s.setCtx c { s.ctx c with autoPark := autoParkTimer s.now (s.ctx c).cfg }) (ts := []) j 0 hw hs hg
    rw [List.append_nil] at this
    rw [this]
    exact hself _ ha
  have hlimit : 0 + 2 * j + 1 + 2 * i ≤ cascadeLimit := Nat.le_trans (show 0 + 2 * j + 1 + 2 * i ≤ 9 by omega) (by decide)
  rw [State.settle_of_run _ _ hlimit (by rw [hrun]; exact ha), hrun]

/-! ### Rest (R79) -/

theorem State.rest_only (s : State) (c h : Nat) (st : CtxState) :
    s.rest c h st = { s with points := (s.rest c h st).points, ctxs := (s.rest c h st).ctxs } := by
  rw [State.rest, State.applyRest_only]; rfl

theorem State.rest_points (s : State) (c h : Nat) (st : CtxState) : (s.rest c h st).points = (s.applyRest c h).points := rfl

theorem State.rest_ctx_self {s : State} {c : Nat} (h : Nat) (st : CtxState) (hc : c < s.ctxs.length) :
    (s.rest c h st).ctx c =
      { s.ctx c with state := st, step := none, cur := some h, lastRest := some h, loops := [], marker := false } := by
  have hctx : (s.applyRest c h).ctx c = s.ctx c := State.ctx_applyRest ..
  rw [State.rest, hctx]
  exact State.ctx_setCtx_self _ _ _ (by simpa using hc)

theorem State.rest_ctx_of_ne {s : State} {c d : Nat} (h : Nat) (st : CtxState) (hd : d ≠ c) : (s.rest c h st).ctx d = s.ctx d := by
  rw [State.rest]
  exact (State.ctx_setCtx_of_ne _ _ hd.symm).trans (State.ctx_applyRest ..)

theorem State.rest_quiet (s : State) (c h : Nat) (st : CtxState) : (s.rest c h st).quiet = s.quiet := by rw [State.rest_only]; rfl

theorem State.applyRest_push (s : State) (ts : List Task) (c h : Nat) : (s.push ts).applyRest c h = (s.applyRest c h).push ts := by
  rw [State.applyRest_only, State.applyRest_only s, State.applyRest_congr (s := s.push ts) (u := s) rfl rfl rfl]
  rfl

theorem State.idleRest_push (s : State) (ts : List Task) (c : Nat) : (s.push ts).idleRest c = (s.idleRest c).push ts := by
  have hcfg : ((s.push ts).ctx c).cfg = (s.ctx c).cfg := rfl
  rw [State.idleRest, State.idleRest, hcfg, State.rest, State.rest, State.applyRest_push]
  rfl

/-- Idle entry without what follows from it, and its auto-park timer started. -/
def State.idled (s : State) (c : Nat) : State :=
  (s.idleRest c).setCtx c { (s.idleRest c).ctx c with autoPark := autoParkTimer s.now (s.ctx c).cfg }

/-- A context at rest on its idle step, its auto-park timer started (R79, R80). -/
def Ctx.idled (x : Ctx) (now : Time) : Ctx :=
  { x with state := .idle, step := none, cur := some x.cfg.idleStep, lastRest := some x.cfg.idleStep, loops := [], marker := false,
           autoPark := autoParkTimer now x.cfg }

theorem State.idleRest_ctx_self {s : State} {c : Nat} (hc : c < s.ctxs.length) :
    (s.idleRest c).ctx c = { s.ctx c with state := .idle, step := none, cur := some (s.ctx c).cfg.idleStep,
                                          lastRest := some (s.ctx c).cfg.idleStep, loops := [], marker := false } :=
  State.rest_ctx_self _ _ hc

theorem State.idleRest_only (s : State) (c : Nat) : s.idleRest c =
    { s with points := (s.applyRest c (s.ctx c).cfg.idleStep).points, ctxs := (s.idleRest c).ctxs, lines := (s.release c).lines,
             groups := (s.release c).groups } := by
  rw [State.idleRest, State.rest_only]; rfl

theorem State.length_ctxs_idleRest (s : State) (c : Nat) : (s.idleRest c).ctxs.length = s.ctxs.length := by
  change ((s.applyRest c (s.ctx c).cfg.idleStep).ctxs.set c _).length = s.ctxs.length
  rw [List.length_set, State.applyRest_only]

theorem State.idled_ctx_self {s : State} {c : Nat} (hc : c < s.ctxs.length) : (s.idled c).ctx c = (s.ctx c).idled s.now := by
  rw [State.idled, State.idleRest_ctx_self hc]
  exact State.ctx_setCtx_self _ _ _ (by rw [State.length_ctxs_idleRest]; exact hc)

theorem State.idled_ctx_of_ne {s : State} {c d : Nat} (hd : d ≠ c) : (s.idled c).ctx d = s.ctx d :=
  (State.ctx_setCtx_of_ne _ _ hd.symm).trans (State.rest_ctx_of_ne _ _ hd)

theorem State.idled_only (s : State) (c : Nat) : s.idled c =
    { s with points := (s.applyRest c (s.ctx c).cfg.idleStep).points, ctxs := (s.idled c).ctxs, lines := (s.release c).lines,
             groups := (s.release c).groups } := by
  rw [State.idled, State.setCtx, State.idleRest_only]

/-- Idle entry in a quiet part with no job queued (R79). -/
theorem State.settle_idleEntry {s : State} {c : Nat} (j : Nat) (hj : j ≤ 2) (hquiet : s.quiet = true) (hc : c < s.ctxs.length)
    (hq : (s.ctx c).queue = []) : ((s.push (List.replicate j .trigger)).idleEntry c).settle = s.idled c := by
  have hidle := State.idleRest_ctx_self hc
  have hquiet' : (s.idleRest c).quiet = true := by rw [State.idleRest_only]; exact hquiet
  have hnow : (s.idleRest c).now = s.now := by rw [State.idleRest_only]
  have hpush : ∀ b : Bool, (((s.push (List.replicate j .trigger)).idleRest c).push [.restStart c]).triggerIf b =
      (s.idleRest c).push (List.replicate b.toNat .trigger ++ .restStart c :: List.replicate j .trigger) := fun b => by
    rw [State.triggerIf_eq, State.idleRest_push]
    simp only [State.push, List.append_assoc, List.cons_append, List.nil_append]
  rw [State.idleEntry, hpush, State.settle_restStart _ _ ((Bool.toNat_le _).trans (by decide)) hj hquiet' (by rw [hidle]) (by rw [hidle]; exact hq),
    State.idled, hnow, hidle]

/-- No reservation and no group is left to a context that is released (R133). -/
theorem State.idled_holdsPlant (s : State) (c : Nat) : (s.idled c).holdsPlant c = false :=
  State.holdsPlant_release (s.rest c (s.ctx c).cfg.idleStep .idle) c

/-! ### Park (R87) -/

/-- A park without the scan that its zeroing may trigger. -/
def State.parked (s : State) (c : Nat) (level : ParkLevel) : State :=
  let s1 := s.rest c ((s.ctx c).cfg.parkStep level) (.parked level)
  s1.setCtx c { s1.ctx c with autoPark := none, wakeDelay := none }

theorem State.settle_parkAt {s : State} (c : Nat) (level : ParkLevel) (h : s.quiet = true) : (s.parkAt c level).settle = s.parked c level := by
  have hquiet : (s.parked c level).quiet = true := (State.rest_quiet s c _ (.parked level)).trans h
  exact State.settle_triggerIf _ _ hquiet

theorem State.parked_ctx_self {s : State} {c : Nat} (level : ParkLevel) (hc : c < s.ctxs.length) : (s.parked c level).ctx c =
    { s.ctx c with state := .parked level, step := none, cur := some ((s.ctx c).cfg.parkStep level),
                   lastRest := some ((s.ctx c).cfg.parkStep level), loops := [], marker := false, autoPark := none, wakeDelay := none } := by
  unfold State.parked
  dsimp only
  rw [State.rest_ctx_self _ _ hc]
  refine State.ctx_setCtx_self _ _ _ ?_
  change c < ((s.applyRest c _).ctxs.set c _).length
  rw [List.length_set, State.applyRest_only]
  exact hc

theorem State.parked_ctx_of_ne {s : State} {c d : Nat} (level : ParkLevel) (hd : d ≠ c) : (s.parked c level).ctx d = s.ctx d :=
  (State.ctx_setCtx_of_ne _ _ hd.symm).trans (State.rest_ctx_of_ne _ _ hd)

theorem State.parked_only (s : State) (c : Nat) (level : ParkLevel) : s.parked c level =
    { s with points := (s.applyRest c ((s.ctx c).cfg.parkStep level)).points, ctxs := (s.parked c level).ctxs } := by
  rw [State.parked, State.rest_only]; rfl

theorem State.parked_points (s : State) (c : Nat) (level : ParkLevel) :
    (s.parked c level).points = (s.applyRest c ((s.ctx c).cfg.parkStep level)).points := rfl

theorem State.parked_reports (s : State) (c : Nat) (level : ParkLevel) : (s.parked c level).reports = s.reports := by rw [State.parked_only]

theorem State.parked_lines (s : State) (c : Nat) (level : ParkLevel) : (s.parked c level).lines = s.lines := by rw [State.parked_only]

theorem parkRequest_fielded (c : Nat) (level : Option ParkLevel) : (parkRequest c level).Fielded := ⟨rfl, Nat.le_refl 1⟩
theorem wakeRequest_fielded (c : Nat) : (wakeRequest c).Fielded := ⟨rfl, Nat.le_refl 1⟩
theorem clearRequest_fielded (c : Nat) : (clearRequest c).Fielded := ⟨rfl, Nat.le_refl 1⟩

theorem State.length_ctxs_of_arrived {s : State} (h : s.sized = true) (dt : Nat) : (s.arrived dt).ctxs.length = 6 := by
  rw [State.length_ctxs_arrived, State.length_ctxs_of_sized h]; rfl

/-- Settles O58: a park in a quiet part is one update of its context and of its points (`State.parked_only`). -/
theorem parkBringsToRest : Obligations.ParkBringsToRest := by
  refine ⟨fun s dt m c level h hrange => ?_, fun s dt c hquiet hsize hc => ⟨fun m level h hstate => ?_, fun m level h hi hw => ?_, fun hidle hdue => ?_⟩⟩
  · refine (parkRequest_fielded c level).refused h rfl ?_
    change firstRefusal [indexFault c Config.contexts, refuseIf level.isNone _, _] = _
    by_cases hc : 6 ≤ c
    · rw [indexFault_of_le (size := Config.contexts) hc, firstRefusal_some]
    · rw [indexFault_of_lt (size := Config.contexts) (Nat.not_le.mp hc), firstRefusal_none, hrange.resolve_left hc, Option.isNone_none,
        refuseIf_true, firstRefusal_some]
  · have hstate' : ((s.arrived dt).ctx c).state = .idle ∨ ((s.arrived dt).ctx c).state = .waking := by rw [State.ctx_arrived]; exact hstate
    have hcheck : (parkRequest c (some level)).check (s.arrived dt) = none := by
      change firstRefusal [indexFault c Config.contexts, refuseIf false _, refuseIf _ _] = none
      have hbad : (((s.arrived dt).ctx c).state != .idle && ((s.arrived dt).ctx c).state != .waking) = false := by
        rcases hstate' with e | e <;> rw [e] <;> rfl
      rw [indexFault_of_lt (size := Config.contexts) hc, firstRefusal_none, refuseIf_false, firstRefusal_none, hbad, refuseIf_false,
        firstRefusal_none, firstRefusal_nil]
    have hlen : c < (s.arrived dt).ctxs.length := by rw [State.length_ctxs_of_arrived hsize]; exact hc
    have hrun := (parkRequest_fielded c (some level)).passes h rfl hcheck
    have heffect : ((parkRequest c (some level)).effect (s.arrived dt)).settle = (s.arrived dt).parked c level :=
      State.settle_parkAt c level (State.arrived_quiet hquiet)
    rw [heffect] at hrun
    have hself := State.parked_ctx_self (s := s.arrived dt) level hlen
    have hcfg : ((s.arrived dt).ctx c).cfg = (s.ctx c).cfg := by rw [State.ctx_arrived]; rfl
    have hqueue : ((s.arrived dt).ctx c).queue = (s.ctx c).queue := by rw [State.ctx_arrived]; rfl
    rw [hcfg] at hself
    have hpoints := (s.arrived dt).parked_points c level
    rw [hcfg] at hpoints
    refine ⟨_, hrun, ?_, ?_, ?_, ?_, ?_, ?_, fun d hd => State.parked_ctx_of_ne level hd, ?_, ?_, ?_⟩
    · exact congrArg Ctx.state hself
    · exact congrArg Ctx.cur hself
    · exact congrArg Ctx.autoPark hself
    · exact congrArg Ctx.wakeDelay hself
    · exact congrArg Ctx.marker hself
    · exact (congrArg Ctx.queue hself).trans hqueue
    · exact hpoints
    · exact State.parked_reports ..
    · exact State.parked_lines ..
  · refine (parkRequest_fielded c (some level)).refused h rfl ?_
    have hctx : ((s.arrived dt).ctx c).state = (s.ctx c).state := by rw [State.ctx_arrived]; rfl
    change firstRefusal [indexFault c Config.contexts, refuseIf false _, refuseIf (((s.arrived dt).ctx c).state != .idle
      && ((s.arrived dt).ctx c).state != .waking) (notAllowed c ((s.arrived dt).ctx c).state)] = _
    have hbad : ((s.ctx c).state != .idle && (s.ctx c).state != .waking) = true := by simp [hi, hw]
    rw [indexFault_of_lt (size := Config.contexts) hc, firstRefusal_none, refuseIf_false, firstRefusal_none, hctx, hbad, refuseIf_true,
      firstRefusal_some]
  · have hctx : (s.advance dt).ctx c = (s.ctx c).advance dt := State.ctx_advance s dt c
    have hrun : exec (.autoParkExpiry dt c) s = .next ((s.advance dt).parkAt c .light).settle := by
      change Host.Outcome.next (if _ then _ else _) = _
      rw [if_pos (by rw [hctx]; exact ⟨hidle, hdue⟩)]
    have hlen : c < (s.advance dt).ctxs.length := by
      have := State.length_ctxs_of_arrived hsize dt
      change c < (s.arrived dt).ctxs.length
      omega
    rw [State.settle_parkAt c .light (State.advance_quiet dt hquiet)] at hrun
    have hself := State.parked_ctx_self (s := s.advance dt) .light hlen
    have hcfg : ((s.advance dt).ctx c).cfg = (s.ctx c).cfg := by rw [hctx]; rfl
    rw [hcfg] at hself
    have hpoints := (s.advance dt).parked_points c .light
    rw [hcfg] at hpoints
    refine ⟨_, hrun, ?_, ?_, ?_, ?_, fun d hd => State.parked_ctx_of_ne .light hd, ?_, ?_, ?_⟩
    · exact congrArg Ctx.state hself
    · exact congrArg Ctx.cur hself
    · exact congrArg Ctx.autoPark hself
    · exact congrArg Ctx.wakeDelay hself
    · exact hpoints
    · exact State.parked_reports ..
    · exact State.parked_lines ..

end Sys2Proof.Machine
end

section
/-!
CLEAR, WAKE and the wake delay in a quiet part (R88 to R90).
-/
namespace Sys2Proof.Machine

/-! ### What an answer leaves -/

theorem State.answered_ctx (s : State) (m : Mailbox) (r : Response) (d : Nat) : (s.answered m r).ctx d = s.ctx d := rfl

theorem State.answered_points (s : State) (m : Mailbox) (r : Response) : (s.answered m r).points = s.points := rfl

theorem State.answered_point (s : State) (m : Mailbox) (r : Response) (p : Nat) : (s.answered m r).point p = s.point p := rfl

theorem State.answered_reports (s : State) (m : Mailbox) (r : Response) : (s.answered m r).reports = s.reports := rfl

theorem State.answered_holdsPlant (s : State) (m : Mailbox) (r : Response) (c : Nat) : (s.answered m r).holdsPlant c = s.holdsPlant c := rfl

/-! ### CLEAR (R90) -/

theorem State.clearFlags_all (s : State) (c : Nat) : s.clearFlags c 0xFFFF = s.setCtx c { s.ctx c with flags := 0 } := by
  have hzero : (s.ctx c).flags &&& ~~~(0xFFFF : BitVec 16) = 0 := by
    rw [show ~~~(0xFFFF : BitVec 16) = 0 by decide]
    exact BitVec.and_zero
  rw [State.clearFlags, hzero]

theorem State.idled_points (s : State) (c : Nat) : (s.idled c).points = (s.applyRest c (s.ctx c).cfg.idleStep).points := rfl

theorem State.idled_reports (s : State) (c : Nat) : (s.idled c).reports = s.reports := by rw [State.idled_only]

/-- CLEAR by the state, the flags and the index of its context (R90). -/
theorem checkClear_of_halted {s : State} {c : Nat} (hc : c < 6) (hs : (s.ctx c).state = .halted) :
    (clearRequest c).check s = refuseIf ((s.ctx c).flags &&& emergencyFlags != 0) (refusal .requestPending (some c) none) := by
  have hstate : ((s.ctx c).state != .halted) = false := by rw [hs]; rfl
  change firstRefusal [indexFault c Config.contexts, refuseIf ((s.ctx c).state != .halted) _, _] = _
  rw [indexFault_of_lt (size := Config.contexts) hc, firstRefusal_none, hstate, refuseIf_false, firstRefusal_none, firstRefusal_single]

theorem State.setCtx_quiet (s : State) (c : Nat) (x : Ctx) : (s.setCtx c x).quiet = s.quiet := rfl

/-- Idle entry of a context whose flags are discarded (R90). -/
def State.cleared (s : State) (c : Nat) : State := (s.setCtx c { s.ctx c with flags := 0 }).idled c

section
variable {s : State} {c : Nat}

theorem State.settle_cleared (hquiet : s.quiet = true) (hc : c < s.ctxs.length) (hq : (s.ctx c).queue = []) :
    ((s.setCtx c { s.ctx c with flags := 0 }).idleEntry c).settle = s.cleared c := by
  have hself : (s.setCtx c { s.ctx c with flags := 0 }).ctx c = { s.ctx c with flags := 0 } := State.ctx_setCtx_self _ _ _ hc
  have hlen : c < (s.setCtx c { s.ctx c with flags := 0 }).ctxs.length := by simpa using hc
  have hsettle := State.settle_idleEntry 0 (by decide) ((s.setCtx_quiet c _).trans hquiet) hlen (by rw [hself]; exact hq)
  rwa [List.replicate_zero, State.push, List.nil_append] at hsettle

theorem State.cleared_ctx_self (hc : c < s.ctxs.length) : (s.cleared c).ctx c = ({ s.ctx c with flags := 0 } : Ctx).idled s.now := by
  have hself : (s.setCtx c { s.ctx c with flags := 0 }).ctx c = { s.ctx c with flags := 0 } := State.ctx_setCtx_self _ _ _ hc
  rw [State.cleared, State.idled_ctx_self (by simpa using hc), hself]
  rfl

theorem State.cleared_ctx_of_ne {d : Nat} (hd : d ≠ c) : (s.cleared c).ctx d = s.ctx d :=
  (State.idled_ctx_of_ne hd).trans (State.ctx_setCtx_of_ne _ _ hd.symm)

theorem State.cleared_points (hc : c < s.ctxs.length) : (s.cleared c).points = (s.applyRest c (s.ctx c).cfg.idleStep).points := by
  have hself : (s.setCtx c { s.ctx c with flags := 0 }).ctx c = { s.ctx c with flags := 0 } := State.ctx_setCtx_self _ _ _ hc
  rw [State.cleared, State.idled_points, hself, State.applyRest_congr (s := s.setCtx c _) (u := s) rfl rfl rfl]

theorem State.cleared_reports : (s.cleared c).reports = s.reports := State.idled_reports ..

end

section
variable {s : State} {dt c : Nat} {m : Mailbox}

/-- An accepted CLEAR (R90). -/
theorem exec_clear_of_passes (h : s.executes m 83 = true) (hc : c < 6) (hs : (s.ctx c).state = .halted) (hf : (s.ctx c).flags &&& 7 = 0) :
    exec (.clear dt m c) s =
      .next ((((s.arrived dt).setCtx c { (s.arrived dt).ctx c with flags := 0 }).idleEntry c).settle.answered m (okay .empty)) := by
  have hctx : (s.arrived dt).ctx c = (s.ctx c).advance dt := State.ctx_arrived s dt c
  have hcheck : (clearRequest c).check (s.arrived dt) = none := by
    have hclear : (((s.arrived dt).ctx c).flags &&& emergencyFlags != 0) = false := by
      rw [hctx]
      simpa [emergencyFlags, Ctx.advance] using hf
    rw [checkClear_of_halted hc (by rw [hctx]; exact hs), hclear, refuseIf_false]
  refine ((clearRequest_fielded c).passes h rfl hcheck).trans ?_
  rw [show (clearRequest c).effect (s.arrived dt) = ((s.arrived dt).clearFlags c 0xFFFF).idleEntry c from rfl, State.clearFlags_all]
  rfl

end

/-- Settles O57: CLEAR is one update of the context's flags before an idle entry (`State.settle_cleared`). -/
theorem clearBringsHaltedToIdle : Obligations.ClearBringsHaltedToIdle := by
  refine ⟨fun s dt m c h hc => ?_, fun s dt m c hquiet hsize h hc => ?_⟩
  · refine (clearRequest_fielded c).refused h rfl ?_
    change firstRefusal [indexFault c Config.contexts, _, _] = _
    rw [indexFault_of_le (size := Config.contexts) hc, firstRefusal_some]
  · have hctx : (s.arrived dt).ctx c = (s.ctx c).advance dt := State.ctx_arrived s dt c
    refine ⟨fun hs hf hq => ?_, exec_clear_of_passes h hc, fun hs hf => ?_, fun hs => ?_⟩
    · have hlen : c < (s.arrived dt).ctxs.length := by rw [State.length_ctxs_of_arrived hsize]; exact hc
      have hrun := exec_clear_of_passes (dt := dt) h hc hs hf
      rw [State.settle_cleared (State.arrived_quiet hquiet) hlen (by rw [hctx]; exact hq)] at hrun
      have hself := State.cleared_ctx_self hlen
      have hpoints := State.cleared_points hlen
      have hcfg : ((s.arrived dt).ctx c).cfg = (s.ctx c).cfg := by rw [hctx]; rfl
      rw [hcfg] at hpoints
      refine ⟨_, hrun, ?_, ?_, ?_, ?_, ?_, fun d hd => ?_, ?_, ?_⟩
      · rw [State.answered_ctx, hself, Ctx.idled]
      · rw [State.answered_ctx, hself, Ctx.idled]
      · rw [State.answered_ctx, hself, Ctx.idled, ← hcfg]
      · rw [State.answered_ctx, hself, Ctx.idled]
      · rw [State.answered_holdsPlant]
        exact State.idled_holdsPlant ..
      · rw [State.answered_ctx, State.cleared_ctx_of_ne hd]
      · rw [State.answered_reports, State.cleared_reports]
        rfl
      · rw [State.answered_points, hpoints]
    · refine (clearRequest_fielded c).refused h rfl ?_
      have hclear : (((s.arrived dt).ctx c).flags &&& emergencyFlags != 0) = true := by
        rw [hctx]
        simpa [emergencyFlags, Ctx.advance] using hf
      rw [checkClear_of_halted hc (by rw [hctx]; exact hs), hclear, refuseIf_true]
    · refine (clearRequest_fielded c).refused h rfl ?_
      have hstate : ((s.arrived dt).ctx c).state = (s.ctx c).state := by rw [hctx]; rfl
      have hne : ((s.ctx c).state != .halted) = true := by simpa using hs
      change firstRefusal [indexFault c Config.contexts, refuseIf (((s.arrived dt).ctx c).state != .halted)
        (notAllowed c ((s.arrived dt).ctx c).state), _] = _
      rw [indexFault_of_lt (size := Config.contexts) hc, firstRefusal_none, hstate, hne, refuseIf_true, firstRefusal_some]

/-! ### Wake (R88, R89) -/

/-- The forces of a context's points are released (R34). -/
theorem State.releaseForces_forced {s : State} {c p : Nat} {cfg : PointCfg} {r : SetRec} (hp : (s.releaseForces c).point p = .set cfg r)
    (ho : cfg.owner = .ctx c) : r.forced = none := by
  have h := State.getElem?_of_point hp (by simp)
  rw [State.releaseForces, List.getElem?_map] at h
  obtain ⟨q, -, hq⟩ := Option.map_eq_some_iff.mp h
  cases q with
  | empty => cases hq
  | sample => cases hq
  | set cfg' r' =>
    simp only at hq
    split at hq
    · cases hq; rfl
    · next hne => cases hq; exact absurd (by simp [ho]) hne

/-- A context that leaves WAKING for IDLE, its auto-park timer started (R89). -/
def Ctx.woken (x : Ctx) (now : Time) : Ctx :=
  { x with state := .idle, step := none, wakeDelay := none, marker := false, autoPark := autoParkTimer now x.cfg }

/-- The end of a wake delay in a quiet part, with no job queued (R89). -/
def State.woken (s : State) (c : Nat) : State := (s.setCtx c ((s.ctx c).woken s.now)).release c

theorem State.woken_ctx_self {s : State} {c : Nat} (hc : c < s.ctxs.length) : (s.woken c).ctx c = (s.ctx c).woken s.now :=
  State.ctx_setCtx_self _ _ _ hc

theorem State.woken_ctx_of_ne {s : State} {c d : Nat} (hd : d ≠ c) : (s.woken c).ctx d = s.ctx d := State.ctx_setCtx_of_ne _ _ hd.symm

theorem State.settle_wakeEnd {s : State} {c : Nat} (b : Bool) (hquiet : s.quiet = true) (hc : c < s.ctxs.length)
    (hq : (s.ctx c).queue = []) : ((s.wakeEnd c).triggerIf b).settle = s.woken c := by
  have hself : ((s.setCtx c { s.ctx c with state := .idle, step := none, wakeDelay := none, marker := false }).release c).ctx c =
      { s.ctx c with state := .idle, step := none, wakeDelay := none, marker := false } := State.ctx_setCtx_self _ _ _ hc
  have hpush : (s.wakeEnd c).triggerIf b =
      ((s.setCtx c { s.ctx c with state := .idle, step := none, wakeDelay := none, marker := false }).release c).push
        (List.replicate (b.toNat + (s.holdsPlant c).toNat) .trigger ++ .restStart c :: List.replicate 0 .trigger) := by
    rw [State.wakeEnd]
    dsimp only
    rw [State.triggerIf_eq, State.triggerIf_eq, List.replicate_add]
    simp only [State.push, List.append_assoc, List.cons_append, List.nil_append, List.replicate_zero]
  have hi : b.toNat + (s.holdsPlant c).toNat ≤ 2 := Nat.add_le_add (Bool.toNat_le b) (Bool.toNat_le _)
  have hsettle := State.settle_restStart (c := c) (b.toNat + (s.holdsPlant c).toNat) 0 hi (by decide)
    (s := (s.setCtx c { s.ctx c with state := .idle, step := none, wakeDelay := none, marker := false }).release c) hquiet (by rw [hself])
    (by rw [hself]; exact hq)
  rw [hpush, hsettle, hself]
  simp [State.woken, State.setCtx, State.release, List.set_set, Ctx.woken]

/-- A wake without the end of a delay that is 0 and without its scan (R88). -/
def State.wakened (s : State) (c : Nat) (level : ParkLevel) : State :=
  let s1 := (s.rest c (s.ctx c).cfg.idleStep .waking).releaseForces c
  s1.setCtx c { s1.ctx c with wakeDelay := some { start := s.now, dur := wakeSeconds ((s.ctx c).cfg.wakeCode level) * 1000000 } }

theorem State.wakened_only (s : State) (c : Nat) (level : ParkLevel) : s.wakened c level =
    { s with points := ((s.applyRest c (s.ctx c).cfg.idleStep).releaseForces c).points, ctxs := (s.wakened c level).ctxs } := by
  rw [State.wakened, State.rest_only]; rfl

theorem State.wakened_ctx_self {s : State} {c : Nat} (level : ParkLevel) (hc : c < s.ctxs.length) : (s.wakened c level).ctx c =
    { s.ctx c with state := .waking, step := none, cur := some (s.ctx c).cfg.idleStep, lastRest := some (s.ctx c).cfg.idleStep,
                   loops := [], marker := false,
                   wakeDelay := some { start := s.now, dur := wakeSeconds ((s.ctx c).cfg.wakeCode level) * 1000000 } } := by
  have hrest : ((s.rest c (s.ctx c).cfg.idleStep .waking).releaseForces c).ctx c = _ := State.rest_ctx_self (s.ctx c).cfg.idleStep .waking hc
  unfold State.wakened
  dsimp only
  rw [hrest]
  refine State.ctx_setCtx_self _ _ _ ?_
  change c < ((s.applyRest c _).ctxs.set c _).length
  rw [List.length_set, State.applyRest_only]
  exact hc

theorem State.wakened_ctx_of_ne {s : State} {c d : Nat} (level : ParkLevel) (hd : d ≠ c) : (s.wakened c level).ctx d = s.ctx d :=
  (State.ctx_setCtx_of_ne _ _ hd.symm).trans (State.rest_ctx_of_ne _ _ hd)

theorem State.length_ctxs_wakened (s : State) (c : Nat) (level : ParkLevel) : (s.wakened c level).ctxs.length = s.ctxs.length := by
  change (((s.applyRest c _).ctxs.set c _).set c _).length = _
  rw [List.length_set, List.length_set, State.applyRest_only]

theorem State.wakened_quiet (s : State) (c : Nat) (level : ParkLevel) : (s.wakened c level).quiet = s.quiet := by
  rw [State.wakened_only]; rfl

theorem State.wakeFrom_eq (s : State) (c : Nat) (level : ParkLevel) : s.wakeFrom c level =
    (if wakeSeconds ((s.ctx c).cfg.wakeCode level) * 1000000 = 0 then (s.wakened c level).wakeEnd c else s.wakened c level).triggerIf
      (s.restBringsZero c (s.ctx c).cfg.idleStep) := rfl

theorem wakeSeconds_pos {code : Nat} (h0 : code ≠ 0) (h7 : code ≤ 7) : wakeSeconds code * 1000000 ≠ 0 := by
  have : ∀ k, k ≤ 7 → k ≠ 0 → wakeSeconds k * 1000000 ≠ 0 := by decide
  exact this code h7 h0

section
variable {s : State} {dt c : Nat} {m : Mailbox}

/-- WAKE of a PARKED context is its wake. -/
theorem wakeRequest_effect {level : ParkLevel} (h : (s.ctx c).state = .parked level) : (wakeRequest c).effect s = s.wakeFrom c level := by
  change (match (s.ctx c).state with | .parked level => s.wakeFrom c level | _ => s) = _
  rw [h]

theorem wakeRequest_effect_of_not_parked (h : ∀ level, (s.ctx c).state ≠ .parked level) : (wakeRequest c).effect s = s := by
  change (match (s.ctx c).state with | .parked level => s.wakeFrom c level | _ => s) = _
  split
  · next level hl => exact absurd hl (h level)
  · rfl

end

theorem State.wakened_points (s : State) (c : Nat) (level : ParkLevel) :
    (s.wakened c level).points = ((s.applyRest c (s.ctx c).cfg.idleStep).releaseForces c).points := rfl

theorem State.wakened_reports (s : State) (c : Nat) (level : ParkLevel) : (s.wakened c level).reports = s.reports := by
  rw [State.wakened_only]

theorem State.wakened_forced {s : State} {c p : Nat} {level : ParkLevel} {cfg : PointCfg} {r : SetRec}
    (hp : (s.wakened c level).point p = .set cfg r) (ho : cfg.owner = .ctx c) : r.forced = none := by
  have hsame : (s.wakened c level).point p = ((s.applyRest c (s.ctx c).cfg.idleStep).releaseForces c).point p := by
    rw [State.point, State.point, State.wakened_points]
  exact State.releaseForces_forced (hsame.symm.trans hp) ho

theorem State.woken_points (s : State) (c : Nat) : (s.woken c).points = s.points := rfl

theorem State.woken_reports (s : State) (c : Nat) : (s.woken c).reports = s.reports := rfl

section
variable {s : State} {dt c : Nat} {m : Mailbox} {level : ParkLevel}

/-- An executed WAKE (R88). -/
theorem exec_wake (h : s.executes m 85 = true) (hc : c < 6) :
    exec (.wake dt m c) s = .next (((wakeRequest c).effect (s.arrived dt)).settle.answered m (okay .empty)) :=
  (wakeRequest_fielded c).passes h rfl (indexFault_of_lt hc)

/-- A wake whose delay stands, in a quiet part (R88). -/
theorem State.settle_wakeFrom_of_delay (hquiet : s.quiet = true) (hcode : (s.ctx c).cfg.wakeCode level ≠ 0)
    (h7 : (s.ctx c).cfg.wakeCode level ≤ 7) : (s.wakeFrom c level).settle = s.wakened c level := by
  rw [State.wakeFrom_eq, if_neg (wakeSeconds_pos hcode h7)]
  exact State.settle_triggerIf _ _ ((s.wakened_quiet c level).trans hquiet)

/-- A wake whose delay is 0, in a quiet part, with no job queued (R88, R89). -/
theorem State.settle_wakeFrom_at_once (hquiet : s.quiet = true) (hc : c < s.ctxs.length) (hq : (s.ctx c).queue = [])
    (hcode : (s.ctx c).cfg.wakeCode level = 0) : (s.wakeFrom c level).settle = (s.wakened c level).woken c := by
  rw [State.wakeFrom_eq, hcode, if_pos (show wakeSeconds 0 * 1000000 = 0 from rfl)]
  exact State.settle_wakeEnd _ ((s.wakened_quiet c level).trans hquiet) (by rw [State.length_ctxs_wakened]; exact hc)
    (by rw [State.wakened_ctx_self level hc]; exact hq)

/-- The end of a wake delay (R89). -/
theorem exec_wakeDelayExpiry (hw : (s.ctx c).state = .waking) (hdue : timerDue (s.ctx c).wakeDelay (s.advance dt).now = true) :
    exec (.wakeDelayExpiry dt c) s = .next ((s.advance dt).wakeEnd c).settle := by
  have hctx : (s.advance dt).ctx c = (s.ctx c).advance dt := State.ctx_advance s dt c
  change Host.Outcome.next (if _ then _ else _) = _
  rw [if_pos (by rw [hctx]; exact ⟨hw, hdue⟩)]

/-- A wake whose delay stands: the clause of R88. -/
theorem exec_wake_of_delay (hquiet : s.quiet = true) (hc : c < 6) (h : s.executes m 85 = true)
    (hpark : (s.ctx c).state = .parked level) (hcode : (s.ctx c).cfg.wakeCode level ≠ 0) (h7 : (s.ctx c).cfg.wakeCode level ≤ 7) :
    exec (.wake dt m c) s = .next (((s.arrived dt).wakened c level).answered m (okay .empty)) := by
  have hctx : (s.arrived dt).ctx c = (s.ctx c).advance dt := State.ctx_arrived s dt c
  have hrun := exec_wake (dt := dt) h hc
  rwa [wakeRequest_effect (level := level) (by rw [hctx]; exact hpark),
    State.settle_wakeFrom_of_delay (State.arrived_quiet hquiet) (by rw [hctx]; exact hcode) (by rw [hctx]; exact h7)] at hrun

/-- A wake whose delay is 0: the clause of R88. -/
theorem exec_wake_at_once (hquiet : s.quiet = true) (hsize : s.sized = true) (hc : c < 6) (h : s.executes m 85 = true)
    (hpark : (s.ctx c).state = .parked level) (hcode : (s.ctx c).cfg.wakeCode level = 0) (hq : (s.ctx c).queue = []) :
    exec (.wake dt m c) s = .next ((((s.arrived dt).wakened c level).woken c).answered m (okay .empty)) := by
  have hctx : (s.arrived dt).ctx c = (s.ctx c).advance dt := State.ctx_arrived s dt c
  have hlen : c < (s.arrived dt).ctxs.length := by rw [State.length_ctxs_of_arrived hsize]; exact hc
  have hrun := exec_wake (dt := dt) h hc
  rwa [wakeRequest_effect (level := level) (by rw [hctx]; exact hpark),
    State.settle_wakeFrom_at_once (State.arrived_quiet hquiet) hlen (by rw [hctx]; exact hq) (by rw [hctx]; exact hcode)] at hrun

/-- A WAKE elsewhere: the clause of R88. -/
theorem exec_wake_of_not_parked (hquiet : s.quiet = true) (hc : c < 6) (h : s.executes m 85 = true)
    (hno : ∀ level, (s.ctx c).state ≠ .parked level) : exec (.wake dt m c) s = .next ((s.arrived dt).answered m (okay .empty)) := by
  have hctx : (s.arrived dt).ctx c = (s.ctx c).advance dt := State.ctx_arrived s dt c
  have hrun := exec_wake (dt := dt) h hc
  rwa [wakeRequest_effect_of_not_parked (by rw [hctx]; exact hno),
    State.settle_of_nil _ ((State.quiet_iff _).mp (State.arrived_quiet hquiet)).1] at hrun

end

/-- Settles O59: a wake in a quiet part is one update of its context and points, and a delay's end another (`State.settle_wakeEnd`). -/
theorem wakeBringsToIdle : Obligations.WakeBringsToIdle := by
  refine ⟨fun s dt m c h hc => (wakeRequest_fielded c).refused h rfl (indexFault_of_le hc), fun s dt c hquiet hsize hc => ?_⟩
  have hctx : (s.arrived dt).ctx c = (s.ctx c).advance dt := State.ctx_arrived s dt c
  have hcfg : ((s.arrived dt).ctx c).cfg = (s.ctx c).cfg := by rw [hctx]; rfl
  have hlen : c < (s.arrived dt).ctxs.length := by rw [State.length_ctxs_of_arrived hsize]; exact hc
  refine ⟨fun m level h hpark hcode h7 => ?_, fun m level h hpark hcode hq => ?_, fun m h hno => exec_wake_of_not_parked hquiet hc h hno,
    fun hwaking hdue hq => ?_⟩
  · have hself := State.wakened_ctx_self level hlen
    have hpoints := (s.arrived dt).wakened_points c level
    rw [hcfg] at hself hpoints
    refine ⟨_, exec_wake_of_delay hquiet hc h hpark hcode h7, ?_, ?_, ?_, fun p cfg r hp ho => ?_, ?_, fun d hd => ?_, ?_⟩
    · rw [State.answered_ctx, hself]
    · rw [State.answered_ctx, hself]
    · rw [State.answered_ctx, hself]
    · rw [State.answered_point] at hp
      exact State.wakened_forced hp ho
    · rw [State.answered_points, hpoints]
    · rw [State.answered_ctx, State.wakened_ctx_of_ne level hd]
    · rw [State.answered_reports, State.wakened_reports]
      rfl
  · have hlen' : c < ((s.arrived dt).wakened c level).ctxs.length := by rw [State.length_ctxs_wakened]; exact hlen
    have hself := State.woken_ctx_self hlen'
    have hnow : ((s.arrived dt).wakened c level).now = (s.arrived dt).now := by rw [State.wakened_only]
    have hpoints := ((s.arrived dt).wakened c level).woken_points c
    rw [State.wakened_points, hcfg] at hpoints
    rw [State.wakened_ctx_self level hlen, hcfg, hnow] at hself
    refine ⟨_, exec_wake_at_once hquiet hsize hc h hpark hcode hq, ?_, ?_, ?_, ?_, ?_, fun d hd => ?_, ?_⟩
    · rw [State.answered_ctx, hself, Ctx.woken]
    · rw [State.answered_ctx, hself, Ctx.woken]
    · rw [State.answered_ctx, hself, Ctx.woken]
    · rw [State.answered_ctx, hself, Ctx.woken, ← hcfg]
    · rw [State.answered_points, hpoints]
    · rw [State.answered_ctx, State.woken_ctx_of_ne hd, State.wakened_ctx_of_ne level hd]
    · rw [State.answered_reports, State.woken_reports, State.wakened_reports]
      rfl
  · have hadv : (s.advance dt).ctx c = (s.ctx c).advance dt := State.ctx_advance s dt c
    have hlen' : c < (s.advance dt).ctxs.length := hlen
    have hsettle := State.settle_wakeEnd (c := c) false (State.advance_quiet dt hquiet) hlen' (by rw [hadv]; exact hq)
    have hrun := exec_wakeDelayExpiry hwaking hdue
    rw [State.triggerIf_eq, Bool.toNat_false, List.replicate_zero, State.push, List.nil_append] at hsettle
    rw [hsettle] at hrun
    have hself := State.woken_ctx_self hlen'
    rw [hadv] at hself
    refine ⟨_, hrun, ?_, ?_, ?_, State.woken_points .., fun d hd => State.woken_ctx_of_ne hd, State.woken_reports ..⟩
    · rw [hself, Ctx.woken]
    · rw [hself, Ctx.woken]
    · rw [hself, Ctx.woken]
      rfl

end Sys2Proof.Machine
end

section
/-!
Requests that an attempt at taking follows: SET_MASK, ABORT and CANCEL_JOB (R84, R85, R158, R160).
-/
namespace Sys2Proof.Machine

/-! ### An attempt as the only work (R160) -/

section
variable {s : State} {c : Nat}

theorem State.push_attempt_take {src : Source} (ht : s.toTake c = some src) (ha : s.agenda = []) :
    runFor 1 (s.push [.attempt c]) = s.take c src := by
  have hpush : (s.push [.attempt c]).agenda = .attempt c :: [] := by rw [State.push, ha]; rfl
  have hself : { s.push [.attempt c] with agenda := [] } = s := by cases s; simp only at ha; subst ha; rfl
  rw [runFor_cons 0 _ hpush, hself, doTask, State.attempt, ht]
  rfl

/-- An attempt that takes nothing is all (R160). -/
theorem State.settle_attempt_of_none (ha : s.agenda = []) (ht : s.toTake c = none) : (s.push [.attempt c]).settle = s := by
  have hpush : (s.push [.attempt c]).agenda = .attempt c :: [] := by rw [State.push, ha]; rfl
  have hself : { s.push [.attempt c] with agenda := [] } = s := by cases s; simp only at ha; subst ha; rfl
  have hrun : runFor 1 (s.push [.attempt c]) = s := by
    rw [runFor_cons 0 _ hpush, hself, doTask, State.attempt, ht]
    rfl
  rw [State.settle_of_run _ 1 (by decide) (by rw [hrun]; exact ha), hrun]

/-- A taking is carried to its end. -/
theorem State.settle_attempt_of_some {src : Source} (ha : s.agenda = []) (ht : s.toTake c = some src) :
    (s.push [.attempt c]).settle = settleFor (2 ^ 64 - 1) (s.take c src) := by
  rw [State.settle, show cascadeLimit = 1 + (2 ^ 64 - 1) from rfl, settleFor_add, State.push_attempt_take ht ha]

/-- A raise that a taking follows (R157, R160). -/
theorem State.settle_raise_of_some {src taken : Source} (ha : s.agenda = []) (ht : (s.raiseFlag c src).toTake c = some taken) :
    (s.push [.raise c src]).settle = settleFor (2 ^ 64 - 2) ((s.raiseFlag c src).take c taken) := by
  have hpush : (s.push [.raise c src]).agenda = .raise c src :: [] := by rw [State.push, ha]; rfl
  have hself : { s.push [.raise c src] with agenda := [] } = s := by cases s; simp only at ha; subst ha; rfl
  have hraise : doTask (.raise c src) s = (s.raiseFlag c src).push [.attempt c] := rfl
  rw [State.settle, show cascadeLimit = 1 + (1 + (2 ^ 64 - 2)) from rfl, settleFor_add, settleFor_add, runFor_cons 0 _ hpush, hself, hraise]
  exact congrArg (settleFor _) (State.push_attempt_take ht ((State.raiseFlag_agenda s c src).trans ha))

end

/-! ### SET_MASK (R158) -/

section
variable {s : State} {dt c : Nat} {m : Mailbox} {masks : BitVec 16} {levels : List Level}

theorem setMaskRequest_fielded (c : Nat) (masks : BitVec 16) (levels : List Level) : (setMaskRequest c masks levels).Fielded :=
  ⟨rfl, Nat.le_refl 1⟩

theorem all_levelListed_iff {ls : List Level} : ls.all levelListed = true ↔ ∀ l ∈ ls, l = .low ∨ l = .high := by
  simp [levelListed]

theorem setMaskRequest_check : (setMaskRequest c masks levels).check s =
    firstRefusal [indexFault c Config.contexts, refuseIf (!(levels.drop 4).all levelListed) (refusal .outOfRange (some c) none)] := rfl

theorem setMaskRequest_refused (h : 6 ≤ c ∨ ¬∀ l ∈ levels.drop 4, l = .low ∨ l = .high) :
    (setMaskRequest c masks levels).check s = some (refusal .outOfRange (some c) none) := by
  rw [setMaskRequest_check]
  by_cases hc : 6 ≤ c
  · rw [indexFault_of_le (size := Config.contexts) hc, firstRefusal_some]
  · have hbad : (levels.drop 4).all levelListed = false := by
      rw [Bool.eq_false_iff, Ne, all_levelListed_iff]
      exact h.resolve_left hc
    rw [indexFault_of_lt (size := Config.contexts) (Nat.not_le.mp hc), firstRefusal_none, hbad, Bool.not_false, refuseIf_true, firstRefusal_some]

theorem setMaskRequest_passes (hc : c < 6) (hl : ∀ l ∈ levels.drop 4, l = .low ∨ l = .high) :
    (setMaskRequest c masks levels).check s = none := by
  rw [setMaskRequest_check, indexFault_of_lt (size := Config.contexts) hc, firstRefusal_none, all_levelListed_iff.mpr hl, Bool.not_true,
    refuseIf_false, firstRefusal_none, firstRefusal_nil]

/-- SET_MASK answers the masks and levels as written, whatever the attempt takes (R158). -/
theorem setMaskRequest_answer (hc : c < s.ctxs.length) (n : Nat) {t : State} (ht : t.units = (s.writeMasks c masks levels).units) :
    (setMaskRequest c masks levels).respond s (settleFor n t) =
      okay (.masks (masks &&& programmable) (highBits (levels.drop 4) 4)) := by
  have hunits : (settleFor n t).units = (s.writeMasks c masks levels).units := (settleFor_units t n).trans ht
  have hself : (s.writeMasks c masks levels).ctx c = _ := State.ctx_setCtx_self s c _ hc
  have hunit : ((settleFor n t).ctx c).unit = ((s.writeMasks c masks levels).ctx c).unit := by
    have hget : ∀ u : State, (u.ctx c).unit = (u.units[c]?).getD Ctx.reset.unit := fun u => by
      simp only [State.units, State.ctx, List.getElem?_map, List.getD_eq_getElem?_getD]
      cases u.ctxs[c]? <;> rfl
    rw [hget, hget, hunits]
  rw [hself, Ctx.unit_eq] at hunit
  obtain ⟨-, hmasks, hhighs⟩ := hunit
  change okay (.masks ((settleFor n t).ctx c).masks ((settleFor n t).ctx c).highs) = _
  rw [hmasks, hhighs]

/-- A SET_MASK that passes (R158). -/
theorem exec_setMask (h : s.executes m 64 = true) (hsize : s.sized = true) (hc : c < 6)
    (hl : ∀ l ∈ levels.drop 4, l = .low ∨ l = .high) : exec (.setMask dt m c masks levels) s =
      .next ((((s.arrived dt).writeMasks c masks levels).push [.attempt c]).settle.answered m
        (okay (.masks (masks &&& programmable) (highBits (levels.drop 4) 4)))) := by
  have hlen : c < (s.arrived dt).ctxs.length := by rw [State.length_ctxs_of_arrived hsize]; exact hc
  refine ((setMaskRequest_fielded c masks levels).passes h rfl (setMaskRequest_passes hc hl)).trans ?_
  have heffect : (setMaskRequest c masks levels).effect (s.arrived dt) = ((s.arrived dt).writeMasks c masks levels).push [.attempt c] := rfl
  have hunits : (((s.arrived dt).writeMasks c masks levels).push [.attempt c]).units = ((s.arrived dt).writeMasks c masks levels).units := rfl
  rw [heffect, State.settle, setMaskRequest_answer hlen cascadeLimit hunits]

/-- A bit of the programmable ones (R156). -/
theorem getLsbD_programmable {k : Nat} (hk : k < 16) : programmable.getLsbD k = decide (4 ≤ k) := by
  have h : ∀ j : Fin 16, programmable.getLsbD j.val = decide (4 ≤ j.val) := by decide
  exact h ⟨k, hk⟩

/-- Settles O53: SET_MASK is one update of the context and an attempt (`exec_setMask`). -/
theorem setMaskWritesMasksAndLevels : Obligations.SetMaskWritesMasksAndLevels := by
  intro s dt m c masks levels h
  refine ⟨fun ha hsize hc hl => ⟨fun ht => ?_, fun src ht => ?_⟩,
    fun hr => (setMaskRequest_fielded c masks levels).refused h rfl (setMaskRequest_refused hr), fun k hk => ⟨?_, ?_⟩, fun k h4 h16 => ⟨?_, ?_⟩⟩
  · have hrun := exec_setMask (dt := dt) (masks := masks) h hsize hc hl
    rwa [State.settle_attempt_of_none (s := (s.arrived dt).writeMasks c masks levels) ha ht] at hrun
  · have hrun := exec_setMask (dt := dt) (masks := masks) h hsize hc hl
    rwa [State.settle_attempt_of_some (s := (s.arrived dt).writeMasks c masks levels) ha ht] at hrun
  · rw [BitVec.getLsbD_and, getLsbD_programmable (by omega), decide_eq_false (by omega), Bool.and_false]
  · rw [Bool.eq_false_iff, Ne, getLsbD_highBits _ _ _ (by omega)]
    omega
  · rw [BitVec.getLsbD_and, getLsbD_programmable h16, decide_eq_true h4, Bool.and_true]
  · rw [getLsbD_highBits _ _ _ h16, List.getElem?_drop, Nat.add_sub_cancel' h4]
    exact and_iff_right h4

end

/-! ### ABORT and CANCEL_JOB (R84, R85) -/

section
variable {s : State} {dt c : Nat} {m : Mailbox} {tag : BitVec 32}

theorem abortRequest_fielded (c : Nat) : (abortRequest c).Fielded := ⟨rfl, Nat.le_refl 1⟩

theorem cancelJobRequest_fielded (c : Nat) (tag : BitVec 32) : (cancelJobRequest c tag).Fielded := ⟨rfl, Nat.le_refl 1⟩

theorem abortRequest_check (hc : c < 6) : (abortRequest c).check s = refuseIf (!(s.ctx c).active) (notAllowed c (s.ctx c).state) := by
  change firstRefusal [indexFault c Config.contexts, _] = _
  rw [indexFault_of_lt (size := Config.contexts) hc, firstRefusal_none, firstRefusal_single]

theorem cancelJobRequest_check (hc : c < 6) :
    (cancelJobRequest c tag).check s = refuseIf (!(s.ctx c).hasTag tag) (refusal .notFound (some c) none) := by
  change firstRefusal [indexFault c Config.contexts, _] = _
  rw [indexFault_of_lt (size := Config.contexts) hc, firstRefusal_none, firstRefusal_single]

/-- ABORT in a context that is in RUNNING or DIVERTED (R85). -/
theorem exec_abort (h : s.executes m 82 = true) (hc : c < 6) (hx : ((s.arrived dt).ctx c).active = true) :
    exec (.abort dt m c) s = .next (((s.arrived dt).push [.raise c .operatorAbort]).settle.answered m (okay .empty)) := by
  have hcheck : (abortRequest c).check (s.arrived dt) = none := by rw [abortRequest_check hc, hx]; rfl
  exact (abortRequest_fielded c).passes h rfl hcheck

/-- CANCEL_JOB of a tag that a job of the context has (R84). -/
theorem exec_cancelJob (h : s.executes m 81 = true) (hc : c < 6) (hx : ((s.arrived dt).ctx c).hasTag tag = true) :
    exec (.cancelJob dt m c tag) s = .next (((s.arrived dt).cancel c tag).settle.answered m
      (okay (.cancelled (!((s.arrived dt).ctx c).queue.any fun j => j.tag == tag)))) := by
  have hcheck : (cancelJobRequest c tag).check (s.arrived dt) = none := by rw [cancelJobRequest_check hc, hx]; rfl
  exact (cancelJobRequest_fielded c tag).passes h rfl hcheck

theorem State.cancel_of_queued {j : Job} (hj : ((s.ctx c).queue.find? fun j => j.tag == tag) = some j) : s.cancel c tag =
    (s.setCtx c { s.ctx c with queue := (s.ctx c).queue.filter fun k => k.tag != tag }).endJob c j .cancelled none 0 := by
  rw [State.cancel, hj]

theorem State.cancel_of_running (hq : ((s.ctx c).queue.any fun j => j.tag == tag) = false) :
    s.cancel c tag = s.push [.raise c .operatorAbort] := by
  have hfind : ((s.ctx c).queue.find? fun j => j.tag == tag) = none := by
    simpa only [List.find?_eq_none, List.any_eq_false] using hq
  rw [State.cancel, hfind]

theorem Ctx.hasTag_of_find {x : Ctx} {j : Job} (hj : (x.queue.find? fun j => j.tag == tag) = some j) :
    x.hasTag tag = true ∧ (x.queue.any fun j => j.tag == tag) = true := by
  have hany : (x.queue.any fun j => j.tag == tag) = true :=
    List.any_eq_true.mpr ⟨j, List.mem_of_find?_eq_some hj, List.find?_some (p := fun j : Job => j.tag == tag) hj⟩
  exact ⟨by rw [Ctx.hasTag, hany, Bool.true_or], hany⟩

theorem Ctx.hasTag_of_running {x : Ctx} (ht : x.jobTag = some tag) : x.hasTag tag = true := by
  rw [Ctx.hasTag, ht]
  simp

/-- CANCEL_JOB of the running job's tag (R84). -/
theorem exec_cancelJob_running (h : s.executes m 81 = true) (hc : c < 6)
    (hq : (((s.arrived dt).ctx c).queue.any fun j => j.tag == tag) = false) (ht : ((s.arrived dt).ctx c).jobTag = some tag) :
    exec (.cancelJob dt m c tag) s =
      .next (((s.arrived dt).push [.raise c .operatorAbort]).settle.answered m (okay (.cancelled true))) := by
  have hrun := exec_cancelJob (dt := dt) h hc (Ctx.hasTag_of_running ht)
  rwa [State.cancel_of_running hq, hq] at hrun

theorem State.endJob_agenda {j : Job} (o : JobOutcome) (st : Option Nat) (r : Nat) (ha : s.agenda = []) : (s.endJob c j o st r).agenda = [] := by
  unfold State.endJob
  dsimp only
  split <;> simpa using ha

/-- The sources of level EMERGENCY (Table 9-1). -/
theorem Source.level_eq_emergency {highs : BitVec 16} {src : Source} :
    src.level highs = .emergency ↔ src = .emergencyInput ∨ src = .gatePressure ∨ src = .ringGap := by
  unfold Source.level
  cases highs.getLsbD src.num <;> cases src <;> decide

theorem Ctx.jobTag_advance (x : Ctx) (dt : Nat) : (x.advance dt).jobTag = x.jobTag := by
  cases h : x.job <;> simp [Ctx.jobTag, Ctx.advance, h]

/-- In an active context without in-service level and hold, OPERATOR_ABORT is taken where no EMERGENCY request is pending (R160). -/
theorem State.toTake_raiseFlag_operatorAbort (hc : c < s.ctxs.length) (hx : (s.ctx c).active = true) (hi : (s.ctx c).isl = .none)
    (hh : s.hold c = false) (h0 : (s.ctx c).flags.getLsbD 0 = false) (h1 : (s.ctx c).flags.getLsbD 1 = false)
    (h2 : (s.ctx c).flags.getLsbD 2 = false) : (s.raiseFlag c .operatorAbort).toTake c = some .operatorAbort := by
  have hoff : (s.ctx c).state ≠ .offline := fun e => by simp [Ctx.active, e] at hx
  have hself : (s.raiseFlag c .operatorAbort).ctx c = { s.ctx c with flags := (s.ctx c).flags ||| Source.operatorAbort.bit } := by
    rw [State.raiseFlag_of_not_offline hoff, State.ctx_report]
    exact State.ctx_setCtx_self _ _ _ hc
  have hhold : (s.raiseFlag c .operatorAbort).hold c = false := by
    rw [State.hold, State.raiseFlag_gates]
    exact hh
  have hflag : ∀ k, ((s.raiseFlag c .operatorAbort).ctx c).flags.getLsbD k = ((s.ctx c).flags.getLsbD k || Source.operatorAbort.bit.getLsbD k) :=
    fun k => by rw [hself]; exact BitVec.getLsbD_or
  have hfree : ∀ src : Source, src.level ((s.raiseFlag c .operatorAbort).ctx c).highs = .emergency →
      (s.raiseFlag c .operatorAbort).candidate c src = false := fun src hl => by
    have hnum := Source.level_eq_emergency.mp hl
    have hclear : ((s.raiseFlag c .operatorAbort).ctx c).flag src = false := by
      rw [Ctx.flag, hflag]
      rcases hnum with rfl | rfl | rfl
      · exact Bool.or_eq_false_iff.mpr ⟨h0, by decide⟩
      · exact Bool.or_eq_false_iff.mpr ⟨h1, by decide⟩
      · exact Bool.or_eq_false_iff.mpr ⟨h2, by decide⟩
    simp [State.candidate, hclear]
  have hcand : (s.raiseFlag c .operatorAbort).candidate c .operatorAbort = true := by
    rw [State.candidate_iff]
    refine ⟨?_, fun hm => absurd hm.1 (by decide), ?_, .inr (State.hold_eq_false.mp hhold), ?_⟩
    · rw [hflag, Source.flag_bit, Bool.or_true]
    · rw [hself, show ({ s.ctx c with flags := (s.ctx c).flags ||| Source.operatorAbort.bit } : Ctx).isl = .none from hi]
      exact Nat.zero_lt_two
    · rw [hself]
      exact ((Ctx.active_iff (x := s.ctx c)).mp hx).imp_right .inl
  have hemergency : (s.raiseFlag c .operatorAbort).firstOf c .emergency = none :=
    State.firstOf_eq_none.mpr fun src hs hl => by rw [hfree src hl] at hs; cases hs
  have hhigh : (s.raiseFlag c .operatorAbort).firstOf c .high = some .operatorAbort := by
    simp [State.firstOf, Source.all, Source.level, hcand]
  rw [State.toTake_eq, hemergency, hhigh]
  rfl

end

/-- Settles O56. -/
theorem cancelAndAbort : Obligations.CancelAndAbort := by
  refine ⟨fun s dt m c tag ha hsize hc => ?_, fun s dt m c tag => ⟨fun h hc => ?_, fun h hc hq ht => ?_, fun h hc => ?_⟩⟩
  · have hlen : c < (s.arrived dt).ctxs.length := by rw [State.length_ctxs_of_arrived hsize]; exact hc
    refine ⟨fun j h hj => ?_, fun h hq ht hn => ?_, fun h hx hn => ?_, fun h hx => ?_, fun src h hx hn => ?_, fun src h hq ht hn => ?_,
      fun hx hi hh h0 h1 h2 => State.toTake_raiseFlag_operatorAbort hlen hx hi hh h0 h1 h2⟩
    · obtain ⟨htag, hany⟩ := Ctx.hasTag_of_find hj
      have hrun := exec_cancelJob h hc htag
      have hsettle := State.settle_of_nil _ (State.endJob_agenda (c := c) (j := j) .cancelled none 0
        (s := (s.arrived dt).setCtx c { (s.arrived dt).ctx c with queue := ((s.arrived dt).ctx c).queue.filter fun k => k.tag != tag }) ha)
      rw [hany, State.cancel_of_queued hj] at hrun
      exact hrun.trans (congrArg (fun t => Host.Outcome.next (State.answered t m (okay (.cancelled false)))) hsettle)
    · have hrun := exec_cancelJob_running h hc hq ht
      rwa [State.settle_raise (s.arrived dt) c .operatorAbort ha hn ((State.raiseFlag_agenda ..).trans ha)] at hrun
    · have hrun := exec_abort h hc hx
      rwa [State.settle_raise (s.arrived dt) c .operatorAbort ha hn ((State.raiseFlag_agenda ..).trans ha)] at hrun
    · refine (abortRequest_fielded c).refused h rfl ?_
      rw [abortRequest_check hc, hx]
      rfl
    · have hrun := exec_abort h hc hx
      rwa [State.settle_raise_of_some (s := s.arrived dt) ha hn] at hrun
    · have hrun := exec_cancelJob_running h hc hq ht
      rwa [State.settle_raise_of_some (s := s.arrived dt) ha hn] at hrun
  · refine (cancelJobRequest_fielded c tag).refused h rfl ?_
    change firstRefusal [indexFault c Config.contexts, _] = _
    rw [indexFault_of_le (size := Config.contexts) hc, firstRefusal_some]
  · refine (cancelJobRequest_fielded c tag).refused h rfl ?_
    have hctx : (s.arrived dt).ctx c = (s.ctx c).advance dt := State.ctx_arrived s dt c
    have htag : ((s.arrived dt).ctx c).hasTag tag = false := by
      have htag : ((s.ctx c).advance dt).jobTag = (s.ctx c).jobTag := Ctx.jobTag_advance ..
      rw [hctx, Ctx.hasTag, htag, show ((s.ctx c).advance dt).queue = (s.ctx c).queue from rfl, hq, Bool.false_or]
      simpa using ht
    rw [cancelJobRequest_check hc, htag]
    rfl
  · refine (abortRequest_fielded c).refused h rfl ?_
    change firstRefusal [indexFault c Config.contexts, _] = _
    rw [indexFault_of_le (size := Config.contexts) hc, firstRefusal_some]

end Sys2Proof.Machine
end

section
/-!
WRITE_CONTEXT: enable, rewrite and disable of a context, and its checks (R75 to R79).
-/
namespace Sys2Proof.Machine

/-! ### What an answer leaves -/

theorem State.answered_useCounts (s : State) (m : Mailbox) (r : Response) : (s.answered m r).useCounts = s.useCounts := rfl

theorem State.answered_gates (s : State) (m : Mailbox) (r : Response) : (s.answered m r).gates = s.gates := rfl

theorem State.answered_nodes (s : State) (m : Mailbox) (r : Response) : (s.answered m r).nodes = s.nodes := rfl

/-- The holder that an answer fills depends on the part time and the bus period alone (R14). -/
theorem State.answered_holder {s t : State} (m : Mailbox) (r : Response) (hnow : s.now = t.now) (huse : s.inUse = t.inUse) :
    (s.answered m r).holder = (t.answered m r).holder := by
  have h : ∀ u : State, (u.answered m r).holder =
      some { tag := requestTag m.frame, response := r, timer := { start := u.now, dur := 4 * u.inUse.period }, softReset := false } :=
    fun _ => rfl
  rw [h, h, hnow, huse]

theorem enableRequest_fielded (c : Nat) (f : CtxFields) : (enableRequest c f).Fielded := ⟨rfl, Nat.le_refl 1⟩

theorem disableRequest_fielded (c : Nat) (f : CtxFields) : (disableRequest c f).Fielded := ⟨rfl, Nat.le_refl 1⟩

/-! ### Enable and rewrite (R76, R77) -/

/-- A context that takes a configuration with its paths, masks and levels (R76, R77). -/
def Ctx.configured (x : Ctx) (cfg : CtxCfg) (paths : List (List Nat)) : Ctx :=
  { x with cfg := cfg, paths := paths, masks := cfg.masks, highs := cfg.highs }

/-- The state with such a context, its paths counted. -/
def State.configured (s : State) (c : Nat) (cfg : CtxCfg) (paths : List (List Nat)) (counts : List Nat) : State :=
  { s with useCounts := counts }.setCtx c ((s.ctx c).configured cfg paths)

section
variable {s : State} {c : Nat} {cfg : CtxCfg} {paths : List (List Nat)} {counts : List Nat}

theorem State.configured_ctx_self (hc : c < s.ctxs.length) : (s.configured c cfg paths counts).ctx c = (s.ctx c).configured cfg paths :=
  State.ctx_setCtx_self _ _ _ hc

theorem State.configured_ctx_of_ne {d : Nat} (hd : d ≠ c) : (s.configured c cfg paths counts).ctx d = s.ctx d :=
  State.ctx_setCtx_of_ne _ _ hd.symm

theorem State.configured_quiet : (s.configured c cfg paths counts).quiet = s.quiet := rfl

theorem State.length_ctxs_configured : (s.configured c cfg paths counts).ctxs.length = s.ctxs.length := List.length_set ..

theorem State.enable_eq (hv : s.validate c cfg = .ok (paths, counts)) : s.enable c cfg =
    match (s.ctx c).state with
    | .offline => ((s.configured c cfg paths counts).push [.trigger]).idleEntry c
    | .idle => (s.configured c cfg paths counts).idleEntry c
    | _ => s.configured c cfg paths counts := by
  rw [State.enable, hv]
  rfl

/-- An enable of a context that is OFFLINE or IDLE, in a quiet part, with no job queued (R76, R77, R79). -/
theorem State.settle_enable (hv : s.validate c cfg = .ok (paths, counts)) (hquiet : s.quiet = true) (hc : c < s.ctxs.length)
    (hq : (s.ctx c).queue = []) (hs : (s.ctx c).state = .offline ∨ (s.ctx c).state = .idle) :
    (s.enable c cfg).settle = (s.configured c cfg paths counts).idled c := by
  have hc' : c < (s.configured c cfg paths counts).ctxs.length := by rw [State.length_ctxs_configured]; exact hc
  have hq' : ((s.configured c cfg paths counts).ctx c).queue = [] := by rw [State.configured_ctx_self hc]; exact hq
  have hsettle := fun j hj => State.settle_idleEntry j hj (State.configured_quiet.trans hquiet) hc' hq'
  rw [State.enable_eq hv]
  rcases hs with e | e <;> rw [e]
  · exact hsettle 1 (by decide)
  · exact hsettle 0 (by decide)

theorem State.enable_of_rest (hv : s.validate c cfg = .ok (paths, counts))
    (hs : (∃ level, (s.ctx c).state = .parked level) ∨ (s.ctx c).state = .halted) : s.enable c cfg = s.configured c cfg paths counts := by
  rw [State.enable_eq hv]
  rcases hs with ⟨level, e⟩ | e <;> rw [e]

theorem State.configured_idled_points (hc : c < s.ctxs.length) :
    ((s.configured c cfg paths counts).idled c).points = (s.applyRest c cfg.idleStep).points := by
  rw [State.idled_points, State.configured_ctx_self hc]
  exact State.applyRest_congr (s := s.configured c cfg paths counts) (u := s) rfl rfl rfl c cfg.idleStep

theorem enableRequest_check (f : CtxFields) : (enableRequest c f).check s = firstRefusal [s.checkContext c f true, s.checkPaths c (ctxCfgOf f)] := rfl

/-- An enable that passes (R75). -/
theorem exec_enable {dt : Nat} {m : Mailbox} {f : CtxFields} (h : s.executes m 50 = true)
    (hcheck : (s.arrived dt).checkContext c f true = none) (hv : (s.arrived dt).validate c (ctxCfgOf f) = .ok (paths, counts)) :
    exec (.writeContextEnable dt m c f) s = .next (((s.arrived dt).enable c (ctxCfgOf f)).settle.answered m (okay .empty)) := by
  have hpaths : (s.arrived dt).checkPaths c (ctxCfgOf f) = none := by rw [State.checkPaths, hv]
  have hpass : (enableRequest c f).check (s.arrived dt) = none := by rw [enableRequest_check, hcheck, firstRefusal_none, hpaths]; rfl
  exact (enableRequest_fielded c f).passes h rfl hpass

end

/-! ### Disable (R78) -/

section
variable {s : State} {c : Nat} {cfg : CtxCfg}

/-- Reports of discarded jobs in a queue that has room for them (R78). -/
theorem State.reports_reportDiscarded (js : List Job) (hroom : s.reports.length + js.length ≤ 64) : (s.reportDiscarded c js).reports =
    s.reports ++ js.map fun j =>
      ({ ctx := some c, step := none, time := s.now, tag := some j.tag, body := .jobEnd .discarded j.priority j.start 0 } : Report) := by
  induction js generalizing s with
  | nil => simp [State.reportDiscarded]
  | cons j js ih =>
    rw [List.length_cons] at hroom
    have hone := State.reports_report (s := s) (by omega) (some c) none (some j.tag) (.jobEnd .discarded j.priority j.start 0)
    have hnow : (s.report (some c) none (some j.tag) (.jobEnd .discarded j.priority j.start 0)).now = s.now := by simp
    have hstep := ih (s := s.report (some c) none (some j.tag) (.jobEnd .discarded j.priority j.start 0))
      (by rw [hone, List.length_append, List.length_singleton]; omega)
    rw [hone, hnow, List.append_assoc] at hstep
    exact hstep

theorem State.report_only (ctx step : Option Nat) (tag : Option (BitVec 32)) (body : ReportBody) : s.report ctx step tag body =
    { s with reports := (s.report ctx step tag body).reports, lost := (s.report ctx step tag body).lost } := by
  unfold State.report
  split <;> rfl

theorem State.reportDiscarded_only (js : List Job) : s.reportDiscarded c js =
    { s with reports := (s.reportDiscarded c js).reports, lost := (s.reportDiscarded c js).lost } := by
  induction js generalizing s with
  | nil => rfl
  | cons j js ih =>
    have hcons : s.reportDiscarded c (j :: js) =
      (s.report (some c) none (some j.tag) (.jobEnd .discarded j.priority j.start 0)).reportDiscarded c js := rfl
    rw [hcons, ih, State.report_only]

/-- What a disable in a quiet part makes of a context in a state other than OFFLINE (R78). -/
def State.disabled (s : State) (c : Nat) (cfg : CtxCfg) : State :=
  ({ ((s.reportDiscarded c (s.ctx c).queue).releaseForces c).setCtx c ((s.ctx c).disabled cfg) with
      useCounts := (s.ctx c).uncounted s.useCounts }).release c

theorem State.disabled_quiet : (s.disabled c cfg).quiet = s.quiet := by
  rw [State.disabled, State.reportDiscarded_only]
  rfl

theorem State.settle_disable (hquiet : s.quiet = true) (hs : (s.ctx c).state ≠ .offline) : (s.disable c cfg).settle = s.disabled c cfg := by
  rw [State.disable_of_state cfg hs]
  exact State.settle_trigger _ (State.disabled_quiet.trans hquiet)

theorem State.disabled_ctx_self (hc : c < s.ctxs.length) : (s.disabled c cfg).ctx c = (s.ctx c).disabled cfg := by
  refine State.ctx_setCtx_self _ _ _ ?_
  change c < (s.reportDiscarded c (s.ctx c).queue).ctxs.length
  rw [State.ctxs_reportDiscarded]
  exact hc

theorem State.disabled_ctx_of_ne {d : Nat} (hd : d ≠ c) : (s.disabled c cfg).ctx d = s.ctx d := by
  refine (State.ctx_setCtx_of_ne _ _ hd.symm).trans ?_
  rw [State.ctx, State.ctx]
  exact congrArg (fun l : List Ctx => l.getD d Ctx.reset) (State.ctxs_reportDiscarded ..)

theorem State.disabled_useCounts : (s.disabled c cfg).useCounts = (s.ctx c).uncounted s.useCounts := rfl

theorem State.disabled_points : (s.disabled c cfg).points = (s.releaseForces c).points := by
  have h : (s.disabled c cfg).points = ((s.reportDiscarded c (s.ctx c).queue).releaseForces c).points := rfl
  rw [h, State.reportDiscarded_only]
  rfl

theorem State.disabled_reports : (s.disabled c cfg).reports = (s.reportDiscarded c (s.ctx c).queue).reports := rfl

theorem State.disabled_gates : (s.disabled c cfg).gates = s.gates := by
  have h : (s.disabled c cfg).gates = (s.reportDiscarded c (s.ctx c).queue).gates := rfl
  rw [h, State.reportDiscarded_only]

theorem State.disabled_forced {p : Nat} {pc : PointCfg} {r : SetRec} (hp : (s.disabled c cfg).point p = .set pc r)
    (ho : pc.owner = .ctx c) : r.forced = none := by
  rw [State.point, State.disabled_points] at hp
  exact State.releaseForces_forced hp ho

/-- A disable that passes (R75). -/
theorem exec_disable {dt : Nat} {m : Mailbox} {f : CtxFields} (h : s.executes m 50 = true)
    (hcheck : (s.arrived dt).checkContext c f false = none) :
    exec (.writeContextDisable dt m c f) s = .next (((s.arrived dt).disable c (ctxCfgOf f)).settle.answered m (okay .empty)) :=
  (disableRequest_fielded c f).passes h rfl hcheck

end

/-! ### The checks (R75) -/

section
variable {s : State} {c : Nat} {f : CtxFields} {enable : Bool}

/-- Check 5 of R75: a gate of the context bars the write. -/
def State.barred (s : State) (c : Nat) (f : CtxFields) (enable : Bool) : Prop :=
  (s.ctx c).state ≠ .offline ∧ (enable = false ∨ f.pressure ≠ (s.ctx c).cfg.pressure)
    ∧ ∃ g x, s.gate g = some x ∧ (x.cfg.owner = c ∨ x.cfg.partner = c) ∧ x.state ≠ .closed

theorem State.gateStands_iff : s.gateStands c = true ↔
    ∃ g x, s.gate g = some x ∧ (x.cfg.owner = c ∨ x.cfg.partner = c) ∧ x.state ≠ .closed := by
  rw [State.gateStands, State.gatesClosed, List.not_all_eq_any_not, State.any_gates rfl]
  refine exists_congr fun g => exists_congr fun x => and_congr_right fun _ => ?_
  simp only [Bool.not_eq_true', Bool.or_eq_false_iff, Bool.not_eq_false', Bool.or_eq_true, beq_iff_eq, beq_eq_false_iff_ne, ne_eq]

theorem State.bars_iff : ((s.ctx c).state != .offline && s.gateStands c && (!enable || f.pressure != (s.ctx c).cfg.pressure)) = true ↔
    s.barred c f enable := by
  rw [State.barred, ← State.gateStands_iff]
  simp only [Bool.and_eq_true, Bool.or_eq_true, bne_iff_ne, Bool.not_eq_true', and_assoc]
  exact and_congr_right fun _ => and_comm

theorem State.checkContext_eq (hc : c < 6) : s.checkContext c f enable = firstRefusal
    [ fieldFault (some c) (ctxChecks f), fieldFault (some c) (s.ctxPoints c f), refuseIf (s.ctx c).busy (notAllowed c (s.ctx c).state),
      refuseIf ((s.ctx c).state != .offline && s.gateStands c && (!enable || f.pressure != (s.ctx c).cfg.pressure))
        (refusal .inUse (some c) none) ] := by
  have h : s.checkContext c f enable = firstRefusal (indexFault c Config.contexts :: _) := rfl
  rw [h, indexFault_of_lt (size := Config.contexts) hc, firstRefusal_none]

theorem State.ctxPoints_iff : firstFailing (s.ctxPoints c f) = none ↔
    (∀ p, f.pressure = some p → s.reads c p = true ∧ s.quantityOf p = some .pressure)
      ∧ ∀ p, f.plasma = some p → s.reads c p = true ∧ s.quantityOf p = some .signal := by
  have hsamples : ∀ (q : Quantity) (o : Option Nat),
      s.samples c q o = true ↔ ∀ p, o = some p → s.reads c p = true ∧ s.quantityOf p = some q := fun q o => by
    rw [State.samples, Option.all_eq_true]
    simp only [Bool.and_eq_true, beq_iff_eq]
  rw [firstFailing_eq_none, State.ctxPoints, ← hsamples, ← hsamples]
  simp

/-- A refusal of SUBJECT and check position at the first field that fails. -/
theorem fieldFault_eq {subject : Option Nat} {oks : List Bool} {k : Nat} (hk : firstFailing oks = some k) :
    fieldFault subject oks = some (refusal .outOfRange subject (some k)) := by
  rw [fieldFault, hk, Option.map_some]

theorem fieldFault_of_none {subject : Option Nat} {oks : List Bool} (h : firstFailing oks = none) : fieldFault subject oks = none := by
  rw [fieldFault, h, Option.map_none]

/-- Checks 4 and 5 of R75, where the index and the fields pass. -/
theorem State.checkContext_of_inRange (hc : c < 6) (hf : firstFailing (ctxChecks f) = none) (hp : firstFailing (s.ctxPoints c f) = none) :
    s.checkContext c f enable = firstRefusal
      [ refuseIf (s.ctx c).busy (notAllowed c (s.ctx c).state),
        refuseIf ((s.ctx c).state != .offline && s.gateStands c && (!enable || f.pressure != (s.ctx c).cfg.pressure))
          (refusal .inUse (some c) none) ] := by
  rw [State.checkContext_eq hc, fieldFault_of_none hf, firstRefusal_none, fieldFault_of_none hp, firstRefusal_none]

end

/-! ### The obligation -/

section
variable {s : State} {dt c : Nat} {m : Mailbox} {f : CtxFields}

/-- Enable of an OFFLINE or IDLE context: the clause of R76 and R77. -/
theorem exec_enable_idle {paths : List (List Nat)} {counts : List Nat} (h : s.executes m 50 = true) (hquiet : s.quiet = true)
    (hsize : s.sized = true) (hc : c < 6) (hcheck : (s.arrived dt).checkContext c f true = none)
    (hv : (s.arrived dt).validate c (ctxCfgOf f) = .ok (paths, counts)) (hq : (s.ctx c).queue = [])
    (hs : (s.ctx c).state = .offline ∨ (s.ctx c).state = .idle) : exec (.writeContextEnable dt m c f) s =
      .next ((((s.arrived dt).configured c (ctxCfgOf f) paths counts).idled c).answered m (okay .empty)) := by
  have hctx : (s.arrived dt).ctx c = (s.ctx c).advance dt := State.ctx_arrived s dt c
  have hlen : c < (s.arrived dt).ctxs.length := by rw [State.length_ctxs_of_arrived hsize]; exact hc
  rw [exec_enable h hcheck hv, State.settle_enable hv (State.arrived_quiet hquiet) hlen (by rw [hctx]; exact hq) (by rw [hctx]; exact hs)]

theorem lt_of_checkContext {enable : Bool} (h : s.checkContext c f enable = none) : c < 6 := by
  by_contra hc
  have hle : Config.contexts ≤ c := Nat.not_lt.mp hc
  have he : s.checkContext c f enable = firstRefusal (indexFault c Config.contexts :: _) := rfl
  rw [he, indexFault_of_le hle, firstRefusal_some] at h
  cases h

end

/-- Settles O52: an enable is one update of the context before an idle entry, and a disable one of the context and its forces
(`State.settle_enable`, `State.settle_disable`). -/
theorem writeContextEnablesAndDisables : Obligations.WriteContextEnablesAndDisables := by
  refine ⟨fun s dt m c f paths counts hquiet hsize h hcheck hv hq => ?_, fun s dt m c f hquiet hsize h hcheck => ?_, fun s c f enable => ?_,
    fun s dt m c f h => ⟨fun r hr => ?_, fun r hr => (disableRequest_fielded c f).refused h rfl hr, fun p e hcheck hv => ?_⟩⟩
  · have hctx : (s.arrived dt).ctx c = (s.ctx c).advance dt := State.ctx_arrived s dt c
    have hc := lt_of_checkContext hcheck
    have hlen : c < (s.arrived dt).ctxs.length := by rw [State.length_ctxs_of_arrived hsize]; exact hc
    refine ⟨fun hs => ?_, fun hs => ?_⟩
    · have hlen' : c < ((s.arrived dt).configured c (ctxCfgOf f) paths counts).ctxs.length := by rw [State.length_ctxs_configured]; exact hlen
      have hself := State.idled_ctx_self hlen'
      rw [State.configured_ctx_self hlen] at hself
      have honly := State.idled_only ((s.arrived dt).configured c (ctxCfgOf f) paths counts) c
      refine ⟨_, exec_enable_idle h hquiet hsize hc hcheck hv hq hs, ?_, ?_, ?_, ?_, ?_, ?_, ?_, ?_, fun d hd => ?_, ?_, ?_, ?_, ?_, ?_⟩
      · rw [State.answered_ctx, hself, Ctx.idled]
      · rw [State.answered_ctx, hself, Ctx.idled, Ctx.configured]
      · rw [State.answered_ctx, hself, Ctx.idled, Ctx.configured]
      · rw [State.answered_useCounts, honly]
        rfl
      · rw [State.answered_ctx, hself, Ctx.idled, Ctx.configured]
      · rw [State.answered_ctx, hself, Ctx.idled, Ctx.configured]
      · rw [State.answered_ctx, hself, Ctx.idled, Ctx.configured]
      · rw [State.answered_ctx, hself, Ctx.idled, Ctx.configured]
        rfl
      · rw [State.answered_ctx, State.idled_ctx_of_ne hd, State.configured_ctx_of_ne hd]
      · rw [State.answered_reports, State.idled_reports]
        rfl
      · rw [State.answered_gates, honly]
        rfl
      · rw [State.answered_nodes, honly]
        rfl
      · rw [State.answered_points, State.configured_idled_points hlen]
      · exact State.answered_holder m _ (by rw [honly]; rfl) (by rw [honly]; rfl)
    · have hq' : ((s.arrived dt).configured c (ctxCfgOf f) paths counts).agenda = [] := ((State.quiet_iff _).mp (State.arrived_quiet (dt := dt) hquiet)).1
      rw [exec_enable h hcheck hv, State.enable_of_rest hv (by rw [hctx]; exact hs), State.settle_of_nil _ hq']
      rfl
  · have hctx : (s.arrived dt).ctx c = (s.ctx c).advance dt := State.ctx_arrived s dt c
    have hc := lt_of_checkContext hcheck
    have hlen : c < (s.arrived dt).ctxs.length := by rw [State.length_ctxs_of_arrived hsize]; exact hc
    refine ⟨fun hs => ?_, fun hs => ?_⟩
    · have heq : (s.arrived dt).disable c (ctxCfgOf f) = (s.arrived dt).setCtx c { (s.arrived dt).ctx c with cfg := ctxCfgOf f } := by
        rw [State.disable]
        exact if_pos (by rw [hctx]; exact hs)
      have hnil := ((State.quiet_iff _).mp (State.arrived_quiet (dt := dt) hquiet)).1
      rw [exec_disable h hcheck, heq, State.settle_of_nil ((s.arrived dt).setCtx c _) hnil]
    · have hs' : ((s.arrived dt).ctx c).state ≠ .offline := by rw [hctx]; exact hs
      have hrun := exec_disable (m := m) h hcheck
      rw [State.settle_disable (State.arrived_quiet hquiet) hs'] at hrun
      have hself := State.disabled_ctx_self (cfg := ctxCfgOf f) hlen
      refine ⟨_, hrun, ?_, ?_, ?_, ?_, ?_, ?_, ?_, ?_, fun p cfg r hp ho => ?_, ?_, fun hroom => ?_, fun d hd => ?_, ?_⟩
      · rw [State.answered_ctx, hself, Ctx.disabled]
      · rw [State.answered_ctx, hself, Ctx.disabled]
      · rw [State.answered_ctx, hself, Ctx.disabled]
      · rw [State.answered_ctx, hself, Ctx.disabled]
      · rw [State.answered_ctx, hself, Ctx.disabled]
      · rw [State.answered_ctx, hself, Ctx.disabled]
      · rw [State.answered_ctx, hself, Ctx.disabled]
      · rw [State.answered_useCounts, State.disabled_useCounts, hctx]
        rfl
      · rw [State.answered_point] at hp
        exact State.disabled_forced hp ho
      · rw [State.answered_points, State.disabled_points]
      · have hqueue : ((s.arrived dt).ctx c).queue = (s.ctx c).queue := by rw [hctx]; rfl
        rw [State.answered_reports, State.disabled_reports, hqueue, State.reports_reportDiscarded (s := s.arrived dt) _ hroom]
        rfl
      · rw [State.answered_ctx, State.disabled_ctx_of_ne hd]
      · rw [State.answered_gates, State.disabled_gates]
        rfl
  · refine ⟨fun hc => ?_, fun k hc hf => ?_, fun k hc hf hp => ?_, fun ⟨hc, hf, hp⟩ hb => ?_, fun ⟨hc, hf, hp⟩ hb hbar => ?_,
      fun ⟨hc, hf, hp⟩ hb hbar => ?_, State.ctxPoints_iff⟩
    · have he : s.checkContext c f enable = firstRefusal (indexFault c Config.contexts :: _) := rfl
      rw [he, indexFault_of_le (size := Config.contexts) hc, firstRefusal_some]
    · rw [State.checkContext_eq hc, fieldFault_eq hf, firstRefusal_some]
    · rw [State.checkContext_eq hc, fieldFault_of_none hf, firstRefusal_none, fieldFault_eq hp, firstRefusal_some]
    · rw [State.checkContext_of_inRange hc hf hp, hb, refuseIf_true, firstRefusal_some]
    · rw [State.checkContext_of_inRange hc hf hp, hb, refuseIf_false, firstRefusal_none, State.bars_iff.mpr hbar, refuseIf_true, firstRefusal_some]
    · rw [State.checkContext_of_inRange hc hf hp, hb, refuseIf_false, firstRefusal_none,
        Bool.eq_false_iff.mpr fun h => hbar (State.bars_iff.mp h), refuseIf_false, firstRefusal_none, firstRefusal_nil]
  · refine (enableRequest_fielded c f).refused h rfl ?_
    rw [enableRequest_check, hr, firstRefusal_some]
  · refine (enableRequest_fielded c f).refused h rfl ?_
    have hpaths : (s.arrived dt).checkPaths c (ctxCfgOf f) = some (invalidRecipe p e) := by rw [State.checkPaths, hv]
    rw [enableRequest_check, hcheck, firstRefusal_none, hpaths, firstRefusal_some]

end Sys2Proof.Machine
end

section
/-!
SUBMIT_JOB, the start of a job, and the refusals (R82, R83).
-/
namespace Sys2Proof.Machine

theorem submitJobRequest_fielded (c : Nat) (tag : BitVec 32) (start : Nat) (priority : Option Priority) (reportAll : Bool) :
    (submitJobRequest c tag start priority reportAll).Fielded := ⟨rfl, Nat.le_refl 1⟩

/-! ### What an accepted SUBMIT_JOB leaves (R82) -/

/-- The state whose context has a job more at the tail of its queue, its path counted (R82). -/
def State.queued (s : State) (c : Nat) (job : Job) (counts : List Nat) : State :=
  { s with useCounts := counts }.setCtx c { s.ctx c with queue := (s.ctx c).queue ++ [job] }

section
variable {s : State} {c start : Nat} {tag : BitVec 32} {priority : Priority} {reportAll : Bool} {path counts : List Nat} {job : Job}

theorem State.queued_queue (hc : c < s.ctxs.length) : ((s.queued c job counts).ctx c).queue = (s.ctx c).queue ++ [job] :=
  congrArg Ctx.queue (State.ctx_setCtx_self _ _ _ hc)

theorem State.submit_eq (hcount : s.countJob c start = .ok (path, counts))
    (hjob : job = { tag := tag, start := start, priority := priority, reportAll := reportAll, path := path }) :
    s.submit c tag start priority reportAll =
      match (s.ctx c).state with
      | .idle => (s.queued c job counts).startJob c
      | .parked level => if (s.ctx c).cfg.wakeOnJob then (s.queued c job counts).wakeFrom c level else s.queued c job counts
      | _ => s.queued c job counts := by
  subst hjob
  rw [State.submit, hcount]
  rfl

/-- The answer of SUBMIT_JOB on the state that stands at its end (R82). -/
def State.submitAnswer (s : State) (m : Mailbox) (c : Nat) (tag : BitVec 32) : State :=
  s.answered m (okay (.submitted (s.ctx c).queue.length (!(s.ctx c).queue.any fun j => j.tag == tag)))

/-- A SUBMIT_JOB that passes (R82). -/
theorem exec_submitJob {dt : Nat} {m : Mailbox} (h : s.executes m 80 = true)
    (hcheck : (s.arrived dt).checkSubmit c tag start (some priority) = none) :
    exec (.submitJob dt m c tag start (some priority) reportAll) s =
      .next (((s.arrived dt).submit c tag start priority reportAll).settle.submitAnswer m c tag) :=
  (submitJobRequest_fielded c tag start (some priority) reportAll).passes h rfl hcheck

/-- Where no start follows, the answer gives the queue with the job at its tail. -/
theorem State.submitAnswer_queued {m : Mailbox} (hc : c < s.ctxs.length) (hjob : job.tag = tag) :
    (s.queued c job counts).submitAnswer m c tag =
      (s.queued c job counts).answered m (okay (.submitted ((s.ctx c).queue.length + 1) false)) := by
  have hany : ((s.ctx c).queue ++ [job]).any (fun j => j.tag == tag) = true := by simp [hjob]
  rw [State.submitAnswer, State.queued_queue hc, hany, List.length_append, List.length_singleton, Bool.not_true]

end

/-! ### The start of a job (R83) -/

section
variable {s : State} {c : Nat} {j : Job} {rest : List Job}

/-- A context that starts the oldest job of its queue (R83). -/
def Ctx.started (x : Ctx) (j : Job) (rest : List Job) (now : Time) : Ctx :=
  { x with queue := rest, job := some { job := j, startTime := now, runTime := 0 }, autoPark := none, loops := [], cur := some j.start,
           state := .running }

theorem State.startJob_eq (hq : (s.ctx c).queue = j :: rest) : s.startJob c =
    ((s.setCtx c ((s.ctx c).started j rest s.now)).releaseForces c).push [.takeUp c j.start 0, .attempt c] := by
  rw [State.startJob, hq]
  rfl

theorem State.startJob_ctx_self (hc : c < s.ctxs.length) (hq : (s.ctx c).queue = j :: rest) :
    (s.startJob c).ctx c = (s.ctx c).started j rest s.now := by
  rw [State.startJob_eq hq]
  exact State.ctx_setCtx_self _ _ _ hc

theorem State.startJob_forced {p : Nat} {cfg : PointCfg} {r : SetRec} (hq : (s.ctx c).queue = j :: rest)
    (hp : (s.startJob c).point p = .set cfg r) (ho : cfg.owner = .ctx c) : r.forced = none := by
  rw [State.startJob_eq hq] at hp
  exact State.releaseForces_forced (s := s.setCtx c ((s.ctx c).started j rest s.now)) hp ho

end

/-! ### The checks (R82) -/

section
variable {s : State} {c start : Nat} {tag : BitVec 32} {priority : Option Priority}

theorem State.tagHeld_iff : s.tagHeld tag = true ↔
    ∃ x ∈ s.ctxs, (∃ j ∈ x.queue, j.tag = tag) ∨ ∃ j, x.job = some j ∧ j.job.tag = tag := by
  rw [State.tagHeld, List.any_eq_true]
  refine exists_congr fun x => and_congr_right fun _ => ?_
  simp only [Ctx.hasTag, Ctx.jobTag, Bool.or_eq_true, List.any_eq_true, beq_iff_eq, Option.map_eq_some_iff]

/-- The fields of a SUBMIT_JOB are in range (R82). -/
def submitInRange (c : Nat) (tag : BitVec 32) (start : Nat) (priority : Option Priority) : Prop :=
  c < 6 ∧ tag ≠ 0 ∧ start < 2048 ∧ priority ≠ none

theorem State.checkSubmit_of_not_inRange (h : ¬submitInRange c tag start priority) :
    s.checkSubmit c tag start priority = some (refusal .outOfRange (some c) none) := by
  by_cases hc : c < 6
  · have hbad : (tag == 0 || decide (Config.records ≤ start) || priority.isNone) = true := by
      by_contra hgood
      simp only [Bool.or_eq_true, beq_iff_eq, Option.isNone_iff_eq_none, not_or] at hgood
      obtain ⟨⟨ht, hs⟩, hp⟩ := hgood
      exact h ⟨hc, ht, Nat.lt_of_not_le fun hle => hs (decide_eq_true hle), hp⟩
    rw [State.checkSubmit, indexFault_of_lt (size := Config.contexts) hc, firstRefusal_none, hbad, refuseIf_true, firstRefusal_some]
  · rw [State.checkSubmit, indexFault_of_le (size := Config.contexts) (Nat.not_lt.mp hc), firstRefusal_some]

/-- The checks that stand behind the fields' (R82). -/
theorem State.checkSubmit_of_inRange (h : submitInRange c tag start priority) : s.checkSubmit c tag start priority = firstRefusal
    [ refuseIf ((s.ctx c).state == .offline) (notAllowed c .offline),
      refuseIf (s.tagHeld tag) (refusal .duplicateTag (some c) none),
      refuseIf (decide (Config.queue ≤ (s.ctx c).queue.length)) (refusal .queueFull (some c) none),
      match s.countJob c start with
      | .error e => some (invalidRecipe .job e)
      | .ok _ => none ] := by
  obtain ⟨hc, ht, hs, hp⟩ := h
  have hgood : (tag == 0 || decide (Config.records ≤ start) || priority.isNone) = false := by
    rw [beq_false_of_ne ht, decide_eq_false (by simp only [Config.records]; omega), Option.isNone_eq_false_iff.mpr (Option.isSome_iff_ne_none.mpr hp)]
    rfl
  rw [State.checkSubmit, indexFault_of_lt (size := Config.contexts) hc, firstRefusal_none, hgood, refuseIf_false, firstRefusal_none] <;>
    rfl

/-- The walk's check stands last (R82). -/
theorem State.checkSubmit_of_room (h : submitInRange c tag start priority) (hs : (s.ctx c).state ≠ .offline) (ht : s.tagHeld tag = false)
    (hq : (s.ctx c).queue.length < 4) : s.checkSubmit c tag start priority =
      match s.countJob c start with
      | .error e => some (invalidRecipe .job e)
      | .ok _ => none := by
  have hstate : ((s.ctx c).state == .offline) = false := by simpa using hs
  have hroom : decide (Config.queue ≤ (s.ctx c).queue.length) = false := decide_eq_false (Nat.not_le.mpr hq)
  rw [State.checkSubmit_of_inRange h, hstate, refuseIf_false, firstRefusal_none, ht, refuseIf_false, firstRefusal_none, hroom,
    refuseIf_false, firstRefusal_none, firstRefusal_single] <;> rfl

end

section
variable {s : State} {dt c start : Nat} {m : Mailbox} {tag : BitVec 32} {priority : Priority} {reportAll : Bool} {path counts : List Nat}
  {job : Job}

/-- SUBMIT_JOB where no start follows. -/
theorem exec_submitJob_queued (h : s.executes m 80 = true) (ha : s.agenda = []) (hc : c < (s.arrived dt).ctxs.length)
    (hcheck : (s.arrived dt).checkSubmit c tag start (some priority) = none) (hjob : job.tag = tag)
    (hsubmit : (s.arrived dt).submit c tag start priority reportAll = (s.arrived dt).queued c job counts) :
    exec (.submitJob dt m c tag start (some priority) reportAll) s = .next (((s.arrived dt).queued c job counts).answered m
      (okay (.submitted (((s.arrived dt).ctx c).queue.length + 1) false))) := by
  rw [exec_submitJob h hcheck, hsubmit, State.settle_of_nil ((s.arrived dt).queued c job counts) ha, State.submitAnswer_queued hc hjob]

theorem lt_of_checkSubmit {p : Option Priority} (h : s.checkSubmit c tag start p = none) : c < 6 := by
  by_contra hc
  rw [State.checkSubmit_of_not_inRange fun hr => hc hr.1] at h
  cases h

end

/-- Settles O55: an accepted SUBMIT_JOB is one update of the queue and the use counts before what its state adds (`State.submit_eq`). -/
theorem submittedJobsQueueAndStart : Obligations.SubmittedJobsQueueAndStart := by
  refine ⟨fun s dt m c tag start priority reportAll path counts ha hsize h hcheck hcount => ?_, fun s c j rest hsize hc hq => ?_,
    fun s c tag start priority => ?_,
    fun s dt m c tag start priority reportAll r h hr => (submitJobRequest_fielded c tag start priority reportAll).refused h rfl hr⟩
  · have hctx : (s.arrived dt).ctx c = (s.ctx c).advance dt := State.ctx_arrived s dt c
    have hlen : c < (s.arrived dt).ctxs.length := by rw [State.length_ctxs_of_arrived hsize]; exact lt_of_checkSubmit hcheck
    have hqueue : ((s.arrived dt).ctx c).queue = (s.ctx c).queue := by rw [hctx]; rfl
    have hstate : ((s.arrived dt).ctx c).state = (s.ctx c).state := by rw [hctx]; rfl
    have hcfg : ((s.arrived dt).ctx c).cfg = (s.ctx c).cfg := by rw [hctx]; rfl
    have hsubmit := State.submit_eq (tag := tag) (priority := priority) (reportAll := reportAll) hcount rfl
    have hqueued : (s.arrived dt).queued c { tag := tag, start := start, priority := priority, reportAll := reportAll, path := path } counts =
        { s.arrived dt with useCounts := counts }.setCtx c { (s.arrived dt).ctx c with queue := (s.ctx c).queue ++
          [({ tag := tag, start := start, priority := priority, reportAll := reportAll, path := path } : Job)] } := by
      rw [State.queued, hqueue]
    rw [hstate, hcfg] at hsubmit
    have hstays := fun hs => exec_submitJob_queued (m := m) (counts := counts)
      (job := { tag := tag, start := start, priority := priority, reportAll := reportAll, path := path }) h ha hlen hcheck rfl (hsubmit.trans hs)
    rw [hqueue, hqueued] at hstays
    have hrun := exec_submitJob (m := m) (reportAll := reportAll) h hcheck
    rw [hsubmit, hqueued] at hrun
    refine ⟨fun hs => hstays ?_, fun level hs hw => hstays ?_, fun hs => ?_, fun level hs hw => ?_⟩
    · rcases hs with e | e | e | e <;> rw [e]
    · rw [hs]
      dsimp only
      rw [hw, if_neg Bool.false_ne_true]
    · rw [hs] at hrun
      exact hrun
    · rw [hs] at hrun
      dsimp only at hrun
      rw [hw, if_pos rfl] at hrun
      exact hrun
  · have hlen : c < s.ctxs.length := by rw [State.length_ctxs_of_sized hsize]; exact hc
    have hself := State.startJob_ctx_self hlen hq
    have heq := State.startJob_eq hq
    refine ⟨?_, ?_, ?_, ?_, ?_, ?_, ?_, ?_, fun p cfg r hp ho => State.startJob_forced hq hp ho, ?_, ?_⟩
    · rw [hself, Ctx.started]
    · rw [hself, Ctx.started]
    · rw [hself, Ctx.started]
    · rw [hself, Ctx.started]
    · rw [hself, Ctx.started]
    · rw [hself, Ctx.started]
    · rw [heq]
      rfl
    · rw [heq]
      rfl
    · rw [heq]
      rfl
    · rw [heq]
      rfl
  · refine ⟨State.checkSubmit_of_not_inRange, fun hr hs => ?_, fun hr hs hh => ?_, fun hr hs hh hq => ?_, fun e hr hs hh hq he => ?_,
      fun ok hr hs hh hq hok => ?_⟩
    · rw [State.checkSubmit_of_inRange hr, hs, show (CtxState.offline == .offline) = true from rfl, refuseIf_true, firstRefusal_some]
    · have hstate : ((s.ctx c).state == .offline) = false := by simpa using hs
      rw [State.checkSubmit_of_inRange hr, hstate, refuseIf_false, firstRefusal_none, State.tagHeld_iff.mpr hh, refuseIf_true, firstRefusal_some]
    · have hstate : ((s.ctx c).state == .offline) = false := by simpa using hs
      have htag : s.tagHeld tag = false := Bool.eq_false_iff.mpr fun ht => hh (State.tagHeld_iff.mp ht)
      have hfull : decide (Config.queue ≤ (s.ctx c).queue.length) = true := decide_eq_true hq
      rw [State.checkSubmit_of_inRange hr, hstate, refuseIf_false, firstRefusal_none, htag, refuseIf_false, firstRefusal_none, hfull,
        refuseIf_true, firstRefusal_some]
    · rw [State.checkSubmit_of_room hr hs (Bool.eq_false_iff.mpr fun ht => hh (State.tagHeld_iff.mp ht)) hq, he]
    · rw [State.checkSubmit_of_room hr hs (Bool.eq_false_iff.mpr fun ht => hh (State.tagHeld_iff.mp ht)) hq, hok]

end Sys2Proof.Machine
end

section
/-!
Loops (R112, R113), the ramp completion of a step (R97, R132) and the rate of rise (R108 to R110).
-/
namespace Sys2Proof.Machine

/-! ### Loops (R112, R113) -/

section
variable {s : State} {c h credit : Nat} {st : Step}

/-- A context that shows a step that it takes up (R94). -/
def State.shown (s : State) (c h : Nat) : State := s.setCtx c { s.ctx c with cur := some h, step := none }

theorem State.shown_ctx_self (hc : c < s.ctxs.length) : (s.shown c h).ctx c = { s.ctx c with cur := some h, step := none } :=
  State.ctx_setCtx_self _ _ _ hc

theorem State.length_ctxs_shown : (s.shown c h).ctxs.length = s.ctxs.length := List.length_set ..

theorem State.takeUp_of_loopEnd (hs : stepAt s.records h = some st) (ha : (s.ctx c).active = true) (hk : st.head.kind = .loopEnd) :
    s.takeUp c h credit = (s.shown c h).loopEnd c st := by
  rw [State.takeUp_of_active s c h credit st hs ha, State.takeUpStep, hk]
  rfl

theorem State.takeUp_of_loopBegin (hs : stepAt s.records h = some st) (ha : (s.ctx c).active = true) (hk : st.head.kind = .loopBegin) :
    s.takeUp c h credit = (s.shown c h).loopBegin c h st := by
  rw [State.takeUp_of_active s c h credit st hs ha, State.takeUpStep, hk]
  rfl

variable {outer : List LoopLevel} {l : LoopLevel} {b : Step}

/-- A LOOP_END below its count (R113). -/
theorem State.loopEnd_of_lt (hl : (s.ctx c).loops = outer ++ [l]) (hb : stepAt s.records l.begin = some b) (hi : l.iteration < l.count) :
    s.loopEnd c st = (s.setCtx c { s.ctx c with loops := outer ++ [{ l with iteration := l.iteration + 1 }] }).push
      [.takeUp c (b.head.next.target b.after) 0] := by
  unfold State.loopEnd
  dsimp only
  rw [hl, List.getLast?_concat, List.dropLast_concat]
  dsimp only
  rw [if_pos hi, hb]

/-- A LOOP_END at its count (R113). -/
theorem State.loopEnd_of_le (hl : (s.ctx c).loops = outer ++ [l]) (hi : l.count ≤ l.iteration) :
    s.loopEnd c st = (s.setCtx c { s.ctx c with loops := outer }).push [.takeUp c (st.head.next.target st.after) 0] := by
  unfold State.loopEnd
  dsimp only
  rw [hl, List.getLast?_concat, List.dropLast_concat]
  dsimp only
  rw [if_neg (Nat.not_lt.mpr hi)]

/-- A LOOP_BEGIN where fewer than two levels are open (R112). -/
theorem State.loopBegin_of_lt (hl : (s.ctx c).loops.length < 2) : s.loopBegin c h st =
    (s.setCtx c { s.ctx c with loops := (s.ctx c).loops ++ [{ begin := h, count := st.head.loopCount, iteration := 1 }] }).push
      [.takeUp c (st.head.next.target st.after) 0] := by
  unfold State.loopBegin
  dsimp only
  rw [if_pos hl]

end

/-- Settles O36: each of the two steps is one update of the context and the taking up of its successor. -/
theorem loopEndsRepeatOrClose : Obligations.LoopEndsRepeatOrClose := by
  refine ⟨fun s c h credit st b outer l hc ha hs hk hl hb => ?_, fun s c h credit st hc ha hs hk hl => ?_⟩
  · have hself := State.shown_ctx_self (s := s) (h := h) hc
    have hlen : c < (s.shown c h).ctxs.length := by rw [State.length_ctxs_shown]; exact hc
    have hloops : ((s.shown c h).ctx c).loops = outer ++ [l] := by rw [hself]; exact hl
    have heq := State.takeUp_of_loopEnd (credit := credit) hs ha hk
    have hlt := State.loopEnd_of_lt (st := st) hloops (b := b) hb
    have hle := State.loopEnd_of_le (st := st) hloops
    have hget : ∀ x ts, (((s.shown c h).setCtx c x).push ts).ctx c = x := fun x _ => State.ctx_setCtx_self _ _ _ hlen
    refine ⟨fun hi => ⟨?_, ?_⟩, fun hi => ⟨?_, ?_⟩, ?_⟩
    · rw [heq, hlt hi, hget]
    · rw [heq, hlt hi]
      rfl
    · rw [heq, hle hi, hget]
    · rw [heq, hle hi]
      rfl
    · rcases Nat.lt_or_ge l.iteration l.count with hi | hi
      · rw [heq, hlt hi, hget]
        exact ⟨congrArg Ctx.cur hself, rfl, rfl, rfl⟩
      · rw [heq, hle hi, hget]
        exact ⟨congrArg Ctx.cur hself, rfl, rfl, rfl⟩
  · have hself := State.shown_ctx_self (s := s) (h := h) hc
    have hlen : c < (s.shown c h).ctxs.length := by rw [State.length_ctxs_shown]; exact hc
    have hloops : ((s.shown c h).ctx c).loops = (s.ctx c).loops := by rw [hself]
    have hget : ∀ x ts, (((s.shown c h).setCtx c x).push ts).ctx c = x := fun x _ => State.ctx_setCtx_self _ _ _ hlen
    have heq := State.takeUp_of_loopBegin (credit := credit) hs ha hk
    rw [State.loopBegin_of_lt (by rw [hloops]; exact hl), hloops] at heq
    refine ⟨?_, ?_, ?_, ?_, ?_, ?_⟩
    · rw [heq, hget]
    · rw [heq]
      rfl
    · rw [heq, hget]
      exact congrArg Ctx.cur hself
    · rw [heq]
      rfl
    · rw [heq]
      rfl
    · rw [heq]
      rfl

/-! ### Ramp completion (R97, R132) -/

section
variable {s : State} {c : Nat} {st : StepState}

/-- A standing step whose ramps are over (R97). -/
def StepState.rampDone (st : StepState) : StepState := { st with rampEnd := none, phase := if st.phase = .ramp then .hold else st.phase }

theorem State.modStep_of_step (f : StepState → StepState) (hs : (s.ctx c).step = some st) :
    s.modStep c f = s.setCtx c { s.ctx c with step := some (f st) } := by
  rw [State.modStep, hs, Option.map_some]

theorem State.rampCompletion_of_due (hs : (s.ctx c).step = some st) (hd : timerDue st.rampEnd s.now = true) : s.rampCompletion c =
    ((s.setCtx c { s.ctx c with step := some st.rampDone }).lowerReservations c st).triggerIf (s.wouldFall c st) := by
  have hmod := s.modStep_of_step StepState.rampDone hs
  unfold State.rampCompletion
  rw [hs]
  dsimp only
  rw [if_pos hd, ← hmod]
  rfl

/-- On each budget-enabled line the context's reservation becomes the smaller of itself and the demand (R132). -/
theorem State.line_lowerReservations {l : Nat} {x : Supply} (hx : s.lines[l]? = some x) : (s.lowerReservations c st).lines[l]? =
    some (if x.budget = true then { x with reservations := x.reservations.set c (min (x.reserved c) (st.demandOn l)) } else x) := by
  rw [State.lowerReservations, State.setReservations]
  dsimp only
  rw [getElem?_mapFrom, hx, Option.map_some, Nat.zero_add]

end

/-- Settles O31: a ramp completion in a quiet part is one update of the step and of the lines. -/
theorem rampCompletionLowersReservations : Obligations.RampCompletionLowersReservations := by
  intro s dt c st hquiet hc hs hd
  have hlen : c < (s.advance dt).ctxs.length := by simpa [State.advance] using hc
  have hself : ((s.advance dt).setCtx c { (s.advance dt).ctx c with step := some st.rampDone }).ctx c =
      { (s.advance dt).ctx c with step := some st.rampDone } := State.ctx_setCtx_self _ _ _ hlen
  have hrun : exec (.rampCompletion dt c) s =
      .next (((s.advance dt).setCtx c { (s.advance dt).ctx c with step := some st.rampDone }).lowerReservations c st) := by
    have h : exec (.rampCompletion dt c) s = .next ((s.advance dt).rampCompletion c).settle := rfl
    rw [h, State.rampCompletion_of_due hs hd]
    exact congrArg Host.Outcome.next (State.settle_triggerIf _ _ (State.advance_quiet dt hquiet))
  exact ⟨_, hrun, hself, fun l x hx => State.line_lowerReservations hx, rfl, fun d hd => State.ctx_setCtx_of_ne _ _ hd.symm⟩

/-! ### The rate of rise (R108 to R110) -/

section
variable {s : State} {c p : Nat} {st : StepState} {cfg : PointCfg} {x : Sample} {o : Option Nat}

theorem State.pressureSample_of_sample (hp : o = some p) (hx : s.point p = .sample cfg x) : s.pressureSample o = some x := by
  subst hp
  unfold State.pressureSample
  dsimp only
  rw [hx]

theorem State.pressureReading_of_some (h : s.pressureSample o = some x) : s.pressureReading o = (x.f, x.lastFresh, !x.stale) := by
  rw [State.pressureReading, h]

theorem State.pressureReading_of_none (h : s.pressureSample o = none) :
    s.pressureReading o = ((Config.noPressure s.free).toNat, Config.noFreshTime s.free, false) := by
  rw [State.pressureReading, h]

theorem State.settleExpiry_of_due (hs : (s.ctx c).step = some st) (hp : st.phase = .settle) (hd : timerDue st.rorTimer s.now = true) :
    s.settleExpiry c = (s.setCtx c { s.ctx c with step := some (s.takeFirst (s.ctx c).cfg.pressure st) }).afterReading
      (s.ctx c).cfg.pressure := by
  have hdue : (st.phase == .settle && timerDue st.rorTimer s.now) = true := by rw [hp, hd]; rfl
  unfold State.settleExpiry
  rw [hs]
  dsimp only
  rw [if_pos hdue, State.modStep_of_step _ hs]

theorem State.afterReading_of_some {u : State} (h : u.pressureSample o = some x) : u.afterReading o = u := by
  rw [State.afterReading, h]

theorem State.afterReading_of_none {u : State} (h : u.pressureSample o = none) : u.afterReading o = { u with free := u.free + 1 } := by
  rw [State.afterReading, h]

theorem State.pressureSample_setCtx (y : Ctx) : (s.setCtx c y).pressureSample o = s.pressureSample o := rfl

theorem State.measureExpiry_of_due (hs : (s.ctx c).step = some st) (hp : st.phase = .measure) (hd : timerDue st.rorTimer s.now = true) :
    s.measureExpiry c =
      ((s.report (some c) (s.ctx c).cur (s.ctx c).jobTag
        (.rorResult (s.rorOutcome (s.ctx c).cfg.pressure st).1 st.p0 (s.rorOutcome (s.ctx c).cfg.pressure st).2.1
          (s.rorOutcome (s.ctx c).cfg.pressure st).2.2.1 (s.rorOutcome (s.ctx c).cfg.pressure st).2.2.2)).afterReading
          (s.ctx c).cfg.pressure).push
        (.stepEnd c .none :: if (s.rorOutcome (s.ctx c).cfg.pressure st).1 = .pass then [] else [.raise c .leakRate]) := by
  have hdue : (st.phase == .measure && timerDue st.rorTimer s.now) = true := by rw [hp, hd]; rfl
  unfold State.measureExpiry
  dsimp only
  rw [hs]
  dsimp only
  rw [if_pos hdue]

/-- The readings that make a valid result (R109). -/
def State.rorValid (s : State) (o : Option Nat) (st : StepState) : Bool :=
  st.valid0 && (s.pressureReading o).2.2 && decide (0 < ((s.pressureReading o).2.1 - st.t0).toNat)
    && decide (((s.pressureReading o).2.1 - st.t0).toNat ≤ (s.now - st.settleAt).toNat + (st.settleAt - st.t0).toNat)

/-- The truncated rate between the readings (R109). -/
def State.rorRate (s : State) (o : Option Nat) (st : StepState) : Nat :=
  rateOfRise st.p0 (s.pressureReading o).1 ((s.pressureReading o).2.1 - st.t0).toNat

theorem State.rorOutcome_of_valid (h : s.rorValid o st = true) : s.rorOutcome o st =
    (if s.rorRate o st ≤ st.step.head.rorLimit then .pass else .fail, (s.pressureReading o).1, ((s.pressureReading o).2.1 - st.t0).toNat,
      s.rorRate o st) := if_pos h

theorem State.rorOutcome_of_not_valid (h : s.rorValid o st = false) : s.rorOutcome o st =
    (.invalid, (s.pressureReading o).1, ((s.pressureReading o).2.1 - st.t0).toNat, 0) := if_neg (Bool.eq_false_iff.mp h)

/-- The result is INVALID exactly where the readings are (R109). -/
theorem State.rorOutcome_invalid_iff : (s.rorOutcome o st).1 = .invalid ↔ s.rorValid o st = false := by
  cases h : s.rorValid o st with
  | true =>
    rw [State.rorOutcome_of_valid h]
    split <;> simp
  | false => simp [State.rorOutcome_of_not_valid h]

/-- A valid result is PASS exactly where the rate is at most the limit (R109). -/
theorem State.rorOutcome_valid (h : (s.rorOutcome o st).1 ≠ .invalid) :
    (s.rorOutcome o st).2.2.2 = min (((s.rorOutcome o st).2.1 - st.p0) * 60000000 / (s.rorOutcome o st).2.2.1) 4294967295
      ∧ ((s.rorOutcome o st).1 = .pass ↔ (s.rorOutcome o st).2.2.2 ≤ st.step.head.rorLimit) := by
  have hvalid : s.rorValid o st = true := by
    rw [Ne, State.rorOutcome_invalid_iff, Bool.not_eq_false] at h
    exact h
  rw [State.rorOutcome_of_valid hvalid]
  refine ⟨rfl, ?_⟩
  dsimp only
  split
  · next hle => simp [hle]
  · next hlt => simp [hlt]

end

/-- Settles O33. -/
theorem rorStepsReadTwiceAndJudge : Obligations.RorStepsReadTwiceAndJudge := by
  refine ⟨fun s dt c st p cfg x hc hs hph hd hp hx => ?_, fun s dt c st hc hs hph hd hp => ?_, fun s dt c st hs hph hd => ?_⟩
  · have hctx : (s.advance dt).ctx c = (s.ctx c).advance dt := State.ctx_advance s dt c
    have hsample : (s.advance dt).pressureSample ((s.advance dt).ctx c).cfg.pressure = some x :=
      State.pressureSample_of_sample (by rw [hctx]; exact hp) hx
    have hrun : exec (.settleExpiry dt c) s = .next ((s.advance dt).settleExpiry c) := rfl
    rw [hrun, State.settleExpiry_of_due hs hph hd, State.afterReading_of_some (u := (s.advance dt).setCtx c _) hsample, State.takeFirst,
      State.pressureReading_of_some hsample]
  · have hctx : (s.advance dt).ctx c = (s.ctx c).advance dt := State.ctx_advance s dt c
    have hsample : (s.advance dt).pressureSample ((s.advance dt).ctx c).cfg.pressure = none := by rw [hctx]; exact hp
    have hrun : exec (.settleExpiry dt c) s = .next ((s.advance dt).settleExpiry c) := rfl
    rw [hrun, State.settleExpiry_of_due hs hph hd, State.afterReading_of_none (u := (s.advance dt).setCtx c _) hsample, State.takeFirst,
      State.pressureReading_of_none hsample, Bool.false_and]
    rfl
  · have hctx : (s.advance dt).ctx c = (s.ctx c).advance dt := State.ctx_advance s dt c
    refine ⟨?_, fun ho => ?_, fun ho => ?_, fun ho => ?_, fun hnone => ?_, fun p cfg x hp hx => ?_⟩
    · exact congrArg (fun t : State => Host.Outcome.next t.settle) (State.measureExpiry_of_due hs hph hd)
    · obtain ⟨hrate, hpass⟩ := State.rorOutcome_valid (s := s.advance dt) (o := ((s.advance dt).ctx c).cfg.pressure) (st := st)
        (by rw [ho]; simp)
      exact ⟨hrate, hpass.mp ho⟩
    · obtain ⟨hrate, hpass⟩ := State.rorOutcome_valid (s := s.advance dt) (o := ((s.advance dt).ctx c).cfg.pressure) (st := st)
        (by rw [ho]; simp)
      exact ⟨hrate, Nat.lt_of_not_le fun hle => by rw [hpass.mpr hle] at ho; cases ho⟩
    · rw [State.rorOutcome_of_not_valid (State.rorOutcome_invalid_iff.mp ho)]
    · rw [State.rorOutcome_invalid_iff, State.rorValid, State.pressureReading_of_none hnone]
      simp
    · have hsample : (s.advance dt).pressureSample ((s.advance dt).ctx c).cfg.pressure = some x :=
        State.pressureSample_of_sample (by rw [hctx]; exact hp) hx
      have hread := State.pressureReading_of_some hsample
      have hfields : ((s.advance dt).rorOutcome ((s.advance dt).ctx c).cfg.pressure st).2.1 = x.f
          ∧ ((s.advance dt).rorOutcome ((s.advance dt).ctx c).cfg.pressure st).2.2.1 = (x.lastFresh - st.t0).toNat := by
        cases hv : (s.advance dt).rorValid ((s.advance dt).ctx c).cfg.pressure st with
        | true => rw [State.rorOutcome_of_valid hv, hread]; exact ⟨rfl, rfl⟩
        | false => rw [State.rorOutcome_of_not_valid hv, hread]; exact ⟨rfl, rfl⟩
      refine ⟨hfields.1, hfields.2, ?_⟩
      rw [State.rorOutcome_invalid_iff, State.rorValid, hread]
      simp only [Bool.and_eq_false_iff, decide_eq_false_iff_not, Bool.not_eq_false', Nat.not_lt, Nat.not_le, Nat.le_zero, or_assoc]

end Sys2Proof.Machine
end

section
/-!
Ends of steps and of jobs, idle entry and the terminators of handlers (R79, R86, R114, R115, R170 to R173).
-/
namespace Sys2Proof.Machine

/-! ### Points at zero (R128, R146, R164, R172) -/

section
variable {s : State} {c p : Nat} {cfg : PointCfg} {r : SetRec}

theorem State.ctxAtZero_iff : s.ctxAtZero c = true ↔
    ∀ p cfg r, s.point p = .set cfg r → cfg.hot = true → cfg.owner = .ctx c → r.atZero s.now = true := by
  rw [State.ctxAtZero, List.all_eq_true]
  constructor
  · intro h p cfg r hp hhot ho
    have hmem : Point.set cfg r ∈ s.points := List.mem_of_getElem? (State.getElem?_of_point hp (by simp))
    have := h _ hmem
    simpa [hhot, ho] using this
  · intro h q hq
    obtain ⟨p, hp⟩ := List.mem_iff_getElem?.mp hq
    cases q with
    | empty => rfl
    | sample => rfl
    | set cfg r =>
      have := h p cfg r (State.point_of_getElem? hp)
      simp only [Bool.or_eq_true, Bool.not_eq_true', Bool.and_eq_false_iff, beq_eq_false_iff_ne]
      by_cases hhot : cfg.hot = true
      · by_cases ho : cfg.owner = .ctx c
        · exact .inr (this hhot ho)
        · exact .inl (.inr ho)
      · exact .inl (.inl (Bool.eq_false_iff.mpr hhot))

theorem PointCfg.hot_iff : cfg.hot = true ↔ cfg.quantity = .power ∨ cfg.quantity = .flow ∧ cfg.line ≠ none := by
  unfold PointCfg.hot
  cases hq : cfg.quantity <;> simp [Option.isSome_iff_ne_none]

/-- A record brought to 0 with duration 0 is at zero where no force stands (R128). -/
theorem SetRec.atZero_retarget {now : Time} (hf : r.forced = none) : (r.retarget now 0 0).atZero now = true := by
  simp [SetRec.atZero, SetRec.currentValue, SetRec.retarget, SetRec.rampValue, hf]

theorem State.point_map_eq (f : Point → Point) (hf : f .empty = .empty) : (s.points.map f).getD p .empty = f (s.point p) := by
  rw [State.point, List.getD_eq_getElem?_getD, List.getElem?_map, List.getD_eq_getElem?_getD]
  cases s.points[p]? with
  | none => exact hf.symm
  | some q => rfl

theorem State.point_zeroHot_of_set (hp : s.point p = .set cfg r) : (s.zeroHot c).point p =
    .set cfg (if cfg.hot = true ∧ cfg.owner = .ctx c then r.retarget s.now 0 0 else r) := by
  have h : (s.zeroHot c).point p = _ := State.point_map_eq (s := s) (p := p) _ rfl
  rw [h, hp]
  by_cases hk : cfg.hot = true ∧ cfg.owner = .ctx c
  · simp [hk.1, hk.2]
  · rw [if_neg hk]
    have hfalse : (cfg.hot && cfg.owner == .ctx c) = false := by simpa using hk
    simp [hfalse]

theorem State.point_zeroHot_of_not_set (hp : ∀ cfg r, s.point p ≠ .set cfg r) : (s.zeroHot c).point p = s.point p := by
  have h : (s.zeroHot c).point p = _ := State.point_map_eq (s := s) (p := p) _ rfl
  rw [h]
  cases hq : s.point p with
  | empty => rfl
  | sample => rfl
  | set cfg r => exact absurd hq (hp cfg r)

theorem State.zeroHot_unforced (h : s.hotUnforced = true) : (s.zeroHot c).ctxAtZero c = true := by
  rw [State.ctxAtZero_iff]
  intro p cfg r hp hhot ho
  cases hq : s.point p with
  | empty => rw [State.point_zeroHot_of_not_set (by simp [hq]), hq] at hp; cases hp
  | sample => rw [State.point_zeroHot_of_not_set (by simp [hq]), hq] at hp; cases hp
  | set cfg' r' =>
    rw [State.point_zeroHot_of_set hq] at hp
    obtain ⟨rfl, hr⟩ := Point.set.inj hp
    rw [if_pos ⟨hhot, ho⟩] at hr
    subst hr
    refine SetRec.atZero_retarget ?_
    have hmem : Point.set cfg' r' ∈ s.points := List.mem_of_getElem? (State.getElem?_of_point hq (by simp))
    have hall := List.all_eq_true.mp h _ hmem
    have hfp : cfg'.flowOrPower = true := by
      rw [PointCfg.flowOrPower_iff]
      rcases PointCfg.hot_iff.mp hhot with e | e
      · exact .inr e
      · exact .inl e.1
    simpa [hfp] using hall

/-- What a context's points at zero depends on. -/
theorem State.ctxAtZero_congr {u : State} (hp : s.points = u.points) (hn : s.now = u.now) (c : Nat) : s.ctxAtZero c = u.ctxAtZero c := by
  rw [State.ctxAtZero, State.ctxAtZero, hp, hn]

end

/-! ### The end of a job (R86) -/

section
variable {s : State} {c n : Nat} {o : JobOutcome}

theorem State.endRunning_of_none (h : (s.ctx c).job = none) : s.endRunning c o = s := by
  rw [State.endRunning, h]

variable {j : RunningJob}

theorem State.endRunning_eq (h : (s.ctx c).job = some j) (hn : outcomeCounter c o = some n) : s.endRunning c o =
    ({ (s.setCtx c { s.ctx c with job := none }).report (some c) (s.ctx c).cur (some j.job.tag)
        (.jobEnd o j.job.priority j.job.start j.runTime) with useCounts := releasePath s.useCounts j.job.path } : State).count n := by
  rw [State.endRunning, h]
  dsimp only
  rw [State.endJob, hn, State.report_useCounts]
  rfl

/-- What the end of a job touches. -/
theorem State.endRunning_only (hn : outcomeCounter c o = some n) : s.endRunning c o =
    { s with ctxs := (s.endRunning c o).ctxs, useCounts := (s.endRunning c o).useCounts, reports := (s.endRunning c o).reports,
             lost := (s.endRunning c o).lost, counters := (s.endRunning c o).counters } := by
  cases h : (s.ctx c).job with
  | none => rw [State.endRunning_of_none h]
  | some j => rw [State.endRunning_eq h hn, State.report_only]; rfl

theorem State.endRunning_ctxs (hn : outcomeCounter c o = some n) : (s.endRunning c o).ctxs = (s.setCtx c { s.ctx c with job := none }).ctxs := by
  cases h : (s.ctx c).job with
  | none =>
    rw [State.endRunning_of_none h]
    have hself : { s.ctx c with job := none } = s.ctx c := by
      rw [← h]
    rw [hself, State.setCtx_ctx]
  | some j => rw [State.endRunning_eq h hn, State.report_only]; rfl

theorem State.endRunning_useCounts (h : (s.ctx c).job = some j) (hn : outcomeCounter c o = some n) :
    (s.endRunning c o).useCounts = releasePath s.useCounts j.job.path := by
  rw [State.endRunning_eq h hn]; rfl

theorem State.endRunning_reports (h : (s.ctx c).job = some j) (hn : outcomeCounter c o = some n) (hroom : s.reports.length < 64) :
    (s.endRunning c o).reports = s.reports ++
      [{ ctx := some c, step := (s.ctx c).cur, time := s.now, tag := some j.job.tag,
         body := .jobEnd o j.job.priority j.job.start j.runTime }] := by
  rw [State.endRunning_eq h hn]
  exact State.reports_report (s := s.setCtx c { s.ctx c with job := none }) hroom ..

theorem State.endRunning_counter (h : (s.ctx c).job = some j) (hn : outcomeCounter c o = some n) (hlen : n < s.counters.length) :
    (s.endRunning c o).counter n = (s.counter n).count := by
  rw [State.endRunning_eq h hn, State.counter_count_self]
  · rw [State.report_only]; rfl
  · rw [State.report_only]; exact hlen

theorem State.endRunning_ctx_self (hn : outcomeCounter c o = some n) (hc : c < s.ctxs.length) :
    (s.endRunning c o).ctx c = { s.ctx c with job := none } := by
  rw [State.ctx, State.endRunning_ctxs hn]
  exact State.ctx_setCtx_self _ _ _ hc

theorem State.endRunning_ctx_of_ne {d : Nat} (hn : outcomeCounter c o = some n) (hd : d ≠ c) : (s.endRunning c o).ctx d = s.ctx d := by
  rw [State.ctx, State.endRunning_ctxs hn]
  exact State.ctx_setCtx_of_ne _ _ hd.symm

theorem State.length_ctxs_endRunning (hn : outcomeCounter c o = some n) : (s.endRunning c o).ctxs.length = s.ctxs.length := by
  rw [State.endRunning_ctxs hn]
  exact List.length_set ..

end

/-! ### Idle entry (R79) -/

section
variable {s : State} {c : Nat}

theorem State.idleEntry_only (s : State) (c : Nat) : s.idleEntry c = { s.idleRest c with agenda := (s.idleEntry c).agenda } := by
  unfold State.idleEntry State.triggerIf
  dsimp only
  split <;> rfl

theorem State.idleRest_agenda (s : State) (c : Nat) : (s.idleRest c).agenda = s.agenda := by rw [State.idleRest_only]

theorem State.idleEntry_agenda (s : State) (c : Nat) :
    (s.idleEntry c).agenda = .restStart c :: s.agenda ∨ (s.idleEntry c).agenda = .trigger :: .restStart c :: s.agenda := by
  rw [State.idleEntry]
  cases (s.holdsPlant c || s.restBringsZero c (s.ctx c).cfg.idleStep)
  · exact .inl (congrArg _ (State.idleRest_agenda s c))
  · exact .inr (congrArg (fun l => Task.trigger :: Task.restStart c :: l) (State.idleRest_agenda s c))

theorem State.idleEntry_ctx (s : State) (c d : Nat) : (s.idleEntry c).ctx d = (s.idleRest c).ctx d := by rw [State.idleEntry_only]; rfl

theorem State.idleEntry_holdsPlant (s : State) (c : Nat) : (s.idleEntry c).holdsPlant c = false := by
  rw [State.idleEntry_only]
  exact State.holdsPlant_release (s.rest c (s.ctx c).cfg.idleStep .idle) c

theorem State.idleEntry_points (s : State) (c : Nat) : (s.idleEntry c).points = (s.applyRest c (s.ctx c).cfg.idleStep).points := by
  rw [State.idleEntry_only, State.idleRest_only]

theorem State.idleEntry_reports (s : State) (c : Nat) : (s.idleEntry c).reports = s.reports := by
  rw [State.idleEntry_only, State.idleRest_only]

theorem State.idleEntry_lost (s : State) (c : Nat) : (s.idleEntry c).lost = s.lost := by
  rw [State.idleEntry_only, State.idleRest_only]

theorem State.idleEntry_counters (s : State) (c : Nat) : (s.idleEntry c).counters = s.counters := by
  rw [State.idleEntry_only, State.idleRest_only]

theorem State.idleEntry_useCounts (s : State) (c : Nat) : (s.idleEntry c).useCounts = s.useCounts := by
  rw [State.idleEntry_only, State.idleRest_only]

end

/-! ### A step's end (R115) -/

section
variable {s : State} {c : Nat} {st : StepState}

/-- A step's end before its successor is taken up. -/
theorem State.endStep_eq (reason : EndReason) (hs : (s.ctx c).step = some st) : s.endStep c reason =
    (((s.reportStep c st reason).count (8 * c)).setCtx c { s.ctx c with step := none }).push
      [.takeUp c (st.step.head.next.target st.step.after) 0] := by
  have hctx : ((s.reportStep c st reason).count (8 * c)).ctx c = s.ctx c := by
    unfold State.reportStep
    dsimp only
    split
    · rw [State.report_only]; rfl
    · rfl
  rw [State.endStep, hs]
  dsimp only
  rw [hctx]

theorem State.reportStep_only (reason : EndReason) : s.reportStep c st reason =
    { s with reports := (s.reportStep c st reason).reports, lost := (s.reportStep c st reason).lost } := by
  unfold State.reportStep
  dsimp only
  split
  · rw [State.report_only]
  · rfl

theorem State.reportStep_of_unasked (reason : EndReason) (h : (s.ctx c).reportsStep st = false) : s.reportStep c st reason = s := by
  unfold State.reportStep
  dsimp only
  rw [h, if_neg Bool.false_ne_true]

theorem State.reportStep_reports (reason : EndReason) (h : (s.ctx c).reportsStep st = true) (hroom : s.reports.length < 64) :
    (s.reportStep c st reason).reports = s.reports ++
      [{ ctx := some c, step := (s.ctx c).cur, time := s.now, tag := (s.ctx c).jobTag,
         body := .stepEnd reason st.strike (st.bands.map (·.fired)) st.elapsed st.admitWait st.pressure }] := by
  unfold State.reportStep
  dsimp only
  rw [if_pos h, State.reports_report hroom]

end

/-- Settles O30: a step's end, a job's end and idle entry, each by what it touches. -/
theorem stepEndTakesUpTheSuccessor : Obligations.StepEndTakesUpTheSuccessor := by
  refine ⟨fun s c st reason hsize hc hs => ?_, fun s c j hsize hc hj => ?_, fun s c hc hidle => ⟨fun hq => ⟨fun h0 => ?_, fun h0 => ?_⟩, fun hq => ?_⟩,
    fun s c h p cfg r hp => ⟨fun before i after his hi hk => State.point_applyRest_of_named hp his hi hk,
      fun hk => State.point_applyRest_of_unnamed hp hk⟩⟩
  · have hlen : c < s.ctxs.length := by rw [State.length_ctxs_of_sized hsize]; exact hc
    have honly := State.reportStep_only (s := s) (c := c) (st := st) reason
    have heq := State.endStep_eq reason hs
    refine ⟨?_, ?_, ?_, ?_, ?_, ?_, ?_, fun h => ?_, fun h hroom => ?_, fun d hd => ?_⟩
    · rw [heq, honly]; rfl
    · rw [heq]
      have hself : ((s.reportStep c st reason).count (8 * c)).counter (8 * c) = ((s.reportStep c st reason).counter (8 * c)).count :=
        State.counter_count_self (by rw [honly, State.length_counters hsize]; omega)
      refine hself.trans ?_
      rw [honly]
      rfl
    · rw [heq]
      exact congrArg Ctx.step (State.ctx_setCtx_self ((s.reportStep c st reason).count (8 * c)) c _ (by rw [honly]; exact hlen))
    · rw [heq, honly]; rfl
    · rw [heq, honly]; rfl
    · rw [heq, honly]; rfl
    · rw [heq, honly]; rfl
    · rw [heq, State.reportStep_of_unasked reason h]; rfl
    · rw [heq]
      exact State.reportStep_reports reason h hroom
    · rw [heq]
      refine (State.ctx_setCtx_of_ne ((s.reportStep c st reason).count (8 * c)) _ hd.symm).trans ?_
      rw [honly]
      rfl
  · have hlen : c < s.ctxs.length := by rw [State.length_ctxs_of_sized hsize]; exact hc
    have hn : outcomeCounter c .completed = some (8 * c + 1) := rfl
    have heq : s.jobEndStep c = (s.endRunning c .completed).idleEntry c := by rw [State.jobEndStep, hj]
    have hend := State.endRunning_ctx_self hn hlen
    have hlen' : c < (s.endRunning c .completed).ctxs.length := by rw [State.length_ctxs_endRunning hn]; exact hlen
    have hself := State.idleRest_ctx_self hlen'
    rw [hend] at hself
    have honly := State.endRunning_only (s := s) hn
    refine ⟨?_, ?_, ?_, ?_, ?_, ?_, ?_, ?_, ?_, ?_, fun hroom => ?_, ?_, ?_, fun d hd => ?_⟩
    · rw [heq, State.idleEntry_ctx, hself]
    · rw [heq, State.idleEntry_ctx, hself]
    · rw [heq, State.idleEntry_ctx, hself]
    · rw [heq, State.idleEntry_ctx, hself]
    · rw [heq, State.idleEntry_ctx, hself]
    · rw [heq, State.idleEntry_ctx, hself]
    · rw [heq, State.idleEntry_ctx, hself]
    · rw [heq, State.idleEntry_holdsPlant]
    · rw [heq, State.idleEntry_useCounts, State.endRunning_useCounts hj hn]
    · rw [heq, State.counter, State.idleEntry_counters]
      exact State.endRunning_counter hj hn (by rw [State.length_counters hsize]; omega)
    · rw [heq, State.idleEntry_reports, State.endRunning_reports hj hn hroom]
    · rw [heq, State.idleEntry_points, hend]
      exact State.applyRest_congr (by rw [honly]) (by rw [honly]) (by rw [honly]) c _
    · have hagenda : (s.endRunning c .completed).agenda = s.agenda := by rw [honly]
      rw [heq, ← hagenda]
      exact State.idleEntry_agenda ..
    · rw [heq, State.idleEntry_ctx]
      exact (State.rest_ctx_of_ne _ _ hd).trans (State.endRunning_ctx_of_ne hn hd)
  · rw [State.restStart_of_queue hidle hq, autoParkTimer, if_pos h0]
  · rw [State.restStart_of_queue hidle hq, autoParkTimer, if_neg h0]
  · obtain ⟨j, rest, hjs⟩ := List.exists_cons_of_ne_nil hq
    unfold State.restStart
    dsimp only
    rw [if_pos hidle, hjs]

/-! ### Terminators (R170 to R173) -/

section
variable {s : State} {c : Nat}

theorem State.returnStep_eq {below : List ReturnRecord} {r : ReturnRecord} (h : (s.ctx c).stack = below ++ [r]) : s.returnStep c =
    (s.setCtx c { s.ctx c with stack := below, isl := r.level, loops := r.loops, state := if r.level = .none then .running else .diverted }).push
      [.takeUp c r.head (creditOf (stepAt s.records r.head) r.runTime), .attempt c] := by
  unfold State.returnStep
  dsimp only
  rw [h, List.getLast?_concat, List.dropLast_concat]

/-- A context without diversion (R172, R173). -/
def State.undiverted (s : State) (c : Nat) : State := s.setCtx c { s.ctx c with stack := [], isl := .none }

theorem State.undiverted_ctx_self (hc : c < s.ctxs.length) : (s.undiverted c).ctx c = { s.ctx c with stack := [], isl := .none } :=
  State.ctx_setCtx_self _ _ _ hc

theorem State.undiverted_ctx_of_ne {d : Nat} (hd : d ≠ c) : (s.undiverted c).ctx d = s.ctx d := State.ctx_setCtx_of_ne _ _ hd.symm

theorem State.length_ctxs_undiverted : (s.undiverted c).ctxs.length = s.ctxs.length := List.length_set ..

/-- The context of a HALT before its release (R172). -/
def Ctx.halted (x : Ctx) : Ctx := { x with state := .halted, step := none, loops := [], cur := x.lastRest, marker := false }

/-- A HALT before its scan (R172). -/
def State.halted (s : State) (c : Nat) : State :=
  let s2 := ((s.undiverted c).zeroHot c).endRunning c .halted
  (s2.setCtx c (s2.ctx c).halted).release c

theorem State.haltStep_only : s.haltStep c = { s.halted c with agenda := (s.haltStep c).agenda } := by
  unfold State.haltStep State.triggerIf
  dsimp only
  split <;> rfl

theorem State.halted_ctx_self (hc : c < s.ctxs.length) : (s.halted c).ctx c =
    { s.ctx c with stack := [], isl := .none, job := none, state := .halted, step := none, loops := [], cur := (s.ctx c).lastRest,
                   marker := false } := by
  have hn : outcomeCounter c .halted = some (8 * c + 2) := rfl
  have hz : ((s.undiverted c).zeroHot c).ctx c = { s.ctx c with stack := [], isl := .none } := State.undiverted_ctx_self hc
  have hlen : c < ((s.undiverted c).zeroHot c).ctxs.length := by
    change c < (s.undiverted c).ctxs.length
    rw [State.length_ctxs_undiverted]
    exact hc
  have hend := State.endRunning_ctx_self hn hlen
  rw [hz] at hend
  have hself : (s.halted c).ctx c = ((((s.undiverted c).zeroHot c).endRunning c .halted).ctx c).halted :=
    State.ctx_setCtx_self _ _ _ (by rw [State.length_ctxs_endRunning hn]; exact hlen)
  rw [hself, hend, Ctx.halted]

theorem State.halted_ctx_of_ne {d : Nat} (hd : d ≠ c) : (s.halted c).ctx d = s.ctx d := by
  have hn : outcomeCounter c .halted = some (8 * c + 2) := rfl
  refine (State.ctx_setCtx_of_ne _ _ hd.symm).trans ((State.endRunning_ctx_of_ne hn hd).trans ?_)
  exact State.undiverted_ctx_of_ne hd

theorem State.halted_points : (s.halted c).points = (s.zeroHot c).points := by
  have hn : outcomeCounter c .halted = some (8 * c + 2) := rfl
  have h : (s.halted c).points = (((s.undiverted c).zeroHot c).endRunning c .halted).points := rfl
  rw [h, State.endRunning_only hn]
  rfl

theorem State.halted_now : (s.halted c).now = s.now := by
  have hn : outcomeCounter c .halted = some (8 * c + 2) := rfl
  have h : (s.halted c).now = (((s.undiverted c).zeroHot c).endRunning c .halted).now := rfl
  rw [h, State.endRunning_only hn]
  rfl

theorem State.halted_holdsPlant : (s.halted c).holdsPlant c = false := State.holdsPlant_release _ c

theorem State.abandonStep_eq : s.abandonStep c = (((s.undiverted c).endRunning c .aborted).push [.attempt c]).idleEntry c := rfl

/-- What the end of a HALT's or an ABANDON's job leaves: the parts that stand behind it (R86). -/
theorem State.terminated {t u : State} {n : Nat} {o : JobOutcome} (ho : outcomeCounter c o = some n) (huse : t.useCounts = (u.endRunning c o).useCounts)
    (hcount : t.counters = (u.endRunning c o).counters) (hreports : t.reports = (u.endRunning c o).reports)
    (hlost : t.lost = (u.endRunning c o).lost) (hu : u.useCounts = s.useCounts ∧ u.counters = s.counters ∧ u.reports = s.reports
      ∧ u.lost = s.lost ∧ u.now = s.now) (hjob : (u.ctx c).job = (s.ctx c).job) (hcur : (u.ctx c).cur = (s.ctx c).cur)
    (hn : n < s.counters.length) :
    (∀ j, (s.ctx c).job = some j →
      t.useCounts = releasePath s.useCounts j.job.path ∧ t.counter n = (s.counter n).count
        ∧ (s.reports.length < 64 → t.reports = s.reports ++
            [{ ctx := some c, step := (s.ctx c).cur, time := s.now, tag := some j.job.tag,
               body := .jobEnd o j.job.priority j.job.start j.runTime }]))
      ∧ ((s.ctx c).job = none →
          t.useCounts = s.useCounts ∧ t.counters = s.counters ∧ t.reports = s.reports ∧ t.lost = s.lost) := by
  obtain ⟨hu1, hu2, hu3, hu4, hu5⟩ := hu
  refine ⟨fun j hj => ⟨?_, ?_, fun hroom => ?_⟩, fun hnone => ?_⟩
  · rw [huse, State.endRunning_useCounts (hjob.trans hj) ho, hu1]
  · have hcounter := State.endRunning_counter (hjob.trans hj) ho (by rw [hu2]; exact hn)
    rw [State.counter, hcount]
    refine hcounter.trans ?_
    rw [State.counter, State.counter, hu2]
  · rw [hreports, State.endRunning_reports (hjob.trans hj) ho (by rw [hu3]; exact hroom), hu3, hu5, hcur]
  · rw [State.endRunning_of_none (hjob.trans hnone)] at huse hcount hreports hlost
    exact ⟨huse.trans hu1, hcount.trans hu2, hreports.trans hu3, hlost.trans hu4⟩

end

/-- Settles O40: each terminator is one update of the context, its job's end and, of ABANDON, an idle entry. -/
theorem handlersReturnOrHalt : Obligations.HandlersReturnOrHalt := by
  intro s c hsize hc
  have hlen : c < s.ctxs.length := by rw [State.length_ctxs_of_sized hsize]; exact hc
  refine ⟨fun below r hstack => ?_, ?_, ?_, fun t outcome ht => ?_⟩
  · have heq := State.returnStep_eq hstack
    have hget : ∀ x ts, ((s.setCtx c x).push ts).ctx c = x := fun x _ => State.ctx_setCtx_self _ _ _ hlen
    refine ⟨?_, ?_, ?_, ?_, ?_, ?_, ?_, ?_⟩
    · rw [heq, hget]
    · rw [heq, hget]
    · rw [heq, hget]
    · rw [heq, hget]
    · rw [heq]; rfl
    · rw [heq]; rfl
    · rw [heq]; rfl
    · rw [heq]; rfl
  · have honly := State.haltStep_only (s := s) (c := c)
    have hself := State.halted_ctx_self hlen
    have hget : ∀ d, (s.haltStep c).ctx d = (s.halted c).ctx d := fun d => by rw [honly]; rfl
    refine ⟨?_, ?_, ?_, ?_, ?_, ?_, ?_, ?_, fun hun => ?_, ?_, fun d hd => ?_⟩
    · rw [hget, hself]
    · rw [hget, hself]
    · rw [hget, hself]
    · rw [hget, hself]
    · rw [hget, hself]
    · rw [hget, hself]
    · rw [hget, hself]
    · rw [hget, hself]
    · have hpoints : (s.haltStep c).points = (s.zeroHot c).points := by rw [honly]; exact State.halted_points
      have hnow : (s.haltStep c).now = (s.zeroHot c).now := by rw [honly]; exact State.halted_now
      rw [State.ctxAtZero_congr hpoints hnow]
      exact State.zeroHot_unforced hun
    · rw [honly]
      exact State.halted_holdsPlant
    · rw [hget, State.halted_ctx_of_ne hd]
  · have hn : outcomeCounter c .aborted = some (8 * c + 2) := rfl
    have hend : (((s.undiverted c).endRunning c .aborted).push [.attempt c]).ctx c = { s.ctx c with stack := [], isl := .none, job := none } := by
      refine (State.endRunning_ctx_self hn (by rw [State.length_ctxs_undiverted]; exact hlen)).trans ?_
      rw [State.undiverted_ctx_self hlen]
    have hlen' : c < (((s.undiverted c).endRunning c .aborted).push [.attempt c]).ctxs.length := by
      change c < ((s.undiverted c).endRunning c .aborted).ctxs.length
      rw [State.length_ctxs_endRunning hn, State.length_ctxs_undiverted]
      exact hlen
    have hself := State.idleRest_ctx_self hlen'
    rw [hend] at hself
    have honly := State.endRunning_only (s := s.undiverted c) hn
    refine ⟨?_, ?_, ?_, ?_, ?_, ?_, ?_, ?_, ?_, ?_, ?_, ?_, fun d hd => ?_⟩
    · rw [State.abandonStep_eq, State.idleEntry_ctx, hself]
    · rw [State.abandonStep_eq, State.idleEntry_ctx, hself]
    · rw [State.abandonStep_eq, State.idleEntry_ctx, hself]
    · rw [State.abandonStep_eq, State.idleEntry_ctx, hself]
    · rw [State.abandonStep_eq, State.idleEntry_ctx, hself]
    · rw [State.abandonStep_eq, State.idleEntry_ctx, hself]
    · rw [State.abandonStep_eq, State.idleEntry_ctx, hself]
    · rw [State.abandonStep_eq, State.idleEntry_ctx, hself]
    · rw [State.abandonStep_eq, State.idleEntry_ctx, hself]
    · rw [State.abandonStep_eq, State.idleEntry_points, hend]
      exact State.applyRest_congr (s := ((s.undiverted c).endRunning c .aborted).push [.attempt c]) (u := s)
        (by rw [honly]; rfl) (by rw [honly]; rfl) (by rw [honly]; rfl) c _
    · rw [State.abandonStep_eq, State.idleEntry_holdsPlant]
    · have hagenda : (((s.undiverted c).endRunning c .aborted).push [.attempt c]).agenda = .attempt c :: s.agenda := by rw [honly]; rfl
      rw [State.abandonStep_eq, ← hagenda]
      exact State.idleEntry_agenda ..
    · rw [State.abandonStep_eq, State.idleEntry_ctx, State.idleRest]
      refine (State.rest_ctx_of_ne _ _ hd).trans ((State.endRunning_ctx_of_ne hn hd).trans ?_)
      exact State.undiverted_ctx_of_ne hd
  · have hcounters : 8 * c + 2 < s.counters.length := by rw [State.length_counters hsize]; omega
    have hself := State.undiverted_ctx_self hlen
    have hjob : ((s.undiverted c).ctx c).job = (s.ctx c).job := by rw [hself]
    have hcur : ((s.undiverted c).ctx c).cur = (s.ctx c).cur := by rw [hself]
    rcases ht with ⟨rfl, rfl⟩ | ⟨rfl, rfl⟩
    · have honly := State.haltStep_only (s := s) (c := c)
      refine State.terminated (c := c) (o := .halted) (u := (s.undiverted c).zeroHot c) rfl ?_ ?_ ?_ ?_ ⟨rfl, rfl, rfl, rfl, rfl⟩ hjob hcur hcounters <;> rw [honly] <;> rfl
    · refine State.terminated (c := c) (o := .aborted) (u := s.undiverted c) rfl ?_ ?_ ?_ ?_ ⟨rfl, rfl, rfl, rfl, rfl⟩ hjob hcur hcounters
      · exact State.idleEntry_useCounts ..
      · exact State.idleEntry_counters ..
      · exact State.idleEntry_reports ..
      · exact State.idleEntry_lost ..

end Sys2Proof.Machine
end

section
/-!
The taking of a request (R163 to R168).
-/
namespace Sys2Proof.Machine

/-! ### Forces (R34) -/

section
variable {s : State} {c p : Nat} {cfg : PointCfg} {r : SetRec}

theorem State.point_releaseForces_of_set (hp : s.point p = .set cfg r) :
    (s.releaseForces c).point p = .set cfg (if cfg.owner = .ctx c then { r with forced := none } else r) := by
  have h : (s.releaseForces c).point p = _ := State.point_map_eq (s := s) (p := p) _ rfl
  rw [h, hp]
  by_cases ho : cfg.owner = .ctx c
  · simp [ho]
  · have hfalse : (cfg.owner == .ctx c) = false := by simpa using ho
    simp [ho]

theorem State.point_releaseForces_of_not_set (hp : ∀ cfg r, s.point p ≠ .set cfg r) : (s.releaseForces c).point p = s.point p := by
  have h : (s.releaseForces c).point p = _ := State.point_map_eq (s := s) (p := p) _ rfl
  rw [h]
  cases hq : s.point p with
  | empty => rfl
  | sample => rfl
  | set cfg r => exact absurd hq (hp cfg r)

theorem State.ctxAtRest_congr {u : State} (hp : s.points = u.points) (hn : s.now = u.now) (c : Nat) : s.ctxAtRest c = u.ctxAtRest c := by
  rw [State.ctxAtRest, State.ctxAtRest, hp, hn]

theorem State.holdsPlant_congr {u : State} (hl : s.lines = u.lines) (hg : s.groups = u.groups) (c : Nat) : s.holdsPlant c = u.holdsPlant c := by
  rw [State.holdsPlant, State.holdsPlant, hl, hg]

end

/-! ### The stages of a taking (R163) -/

section
variable {s : State} {c : Nat} {src : Source} {level : Level}

/-- Stage 1: the flag is cleared. -/
def State.unflagged (s : State) (c : Nat) (src : Source) : State :=
  s.setCtx c { s.ctx c with flags := (s.ctx c).flags &&& ~~~src.bit }

theorem State.unflagged_ctx_self (hc : c < s.ctxs.length) :
    (s.unflagged c src).ctx c = { s.ctx c with flags := (s.ctx c).flags &&& ~~~src.bit } := State.ctx_setCtx_self _ _ _ hc

theorem State.abandonStanding_of_none (h : (s.ctx c).step = none) : s.abandonStanding c = s := by rw [State.abandonStanding, h]

theorem State.abandonStanding_of_some {st : StepState} (h : (s.ctx c).step = some st) :
    s.abandonStanding c = (s.reportStep c st .aborted).removeEntry c := by rw [State.abandonStanding, h]

/-- Stage 2 touches reports and the wait list alone (R117, R137). -/
theorem State.abandonStanding_only : s.abandonStanding c =
    { s with reports := (s.abandonStanding c).reports, lost := (s.abandonStanding c).lost, waits := (s.abandonStanding c).waits } := by
  cases h : (s.ctx c).step with
  | none => rw [State.abandonStanding_of_none h]
  | some st => rw [State.abandonStanding_of_some h, State.reportStep_only]; rfl

/-- Stage 3 touches points, lines and groups alone (R164). -/
theorem State.emergencyZero_only : s.emergencyZero c level =
    { s with points := (s.emergencyZero c level).points, lines := (s.emergencyZero c level).lines,
             groups := (s.emergencyZero c level).groups } := by
  unfold State.emergencyZero
  split <;> rfl

theorem State.emergencyZero_of_emergency : s.emergencyZero c .emergency = (s.zeroHot c).release c := rfl

theorem State.emergencyZero_of_ne (h : level ≠ .emergency) : s.emergencyZero c level = s := if_neg h

/-- Stages 1 and 2. -/
def State.abandoned (s : State) (c : Nat) (src : Source) : State := (s.unflagged c src).abandonStanding c

theorem State.abandoned_only : s.abandoned c src = { s.unflagged c src with
    reports := (s.abandoned c src).reports, lost := (s.abandoned c src).lost, waits := (s.abandoned c src).waits } :=
  State.abandonStanding_only

/-- The scan that a taking triggers (R136). -/
def State.takeScans (s : State) (c : Nat) (src : Source) : Bool :=
  (s.waits.any fun e => e.ctx == c)
    || (src.level (s.ctx c).highs == .emergency && ((s.abandoned c src).holdsPlant c
      || (s.abandoned c src).cameToZero ((s.abandoned c src).emergencyZero c (src.level (s.ctx c).highs)) c))

/-- The context that a taking leaves (R163, R165 to R167). -/
def Ctx.taken (x : Ctx) (src : Source) : Ctx :=
  { x with flags := x.flags &&& ~~~src.bit, isl := src.level x.highs, state := .diverted, loops := [], step := none, autoPark := none,
           wakeDelay := none, stack := x.stack ++ x.returnRecord.toList }

/-- The FAULT_TAKEN report of a taking (R168). -/
def Ctx.faultTaken (x : Ctx) (src : Source) : ReportBody :=
  .faultTaken src (src.level x.highs) x.state x.isl x.phase (x.stack ++ x.returnRecord.toList).length (x.cfg.handler (src.level x.highs))
    (x.step.map StepState.ran)

/-- Stages 1 to 4 of R163. -/
def State.faulted (s : State) (c : Nat) (src : Source) : State :=
  (((s.abandoned c src).emergencyZero c (src.level (s.ctx c).highs)).report (some c) ((s.ctx c).step.bind fun _ => (s.ctx c).cur)
    (s.ctx c).jobTag ((s.ctx c).faultTaken src)).count (diversionCounter c (src.level (s.ctx c).highs))

theorem State.faulted_only : s.faulted c src = { s.unflagged c src with
    points := (s.faulted c src).points, lines := (s.faulted c src).lines, groups := (s.faulted c src).groups,
    waits := (s.faulted c src).waits, reports := (s.faulted c src).reports, lost := (s.faulted c src).lost,
    counters := (s.faulted c src).counters } := by
  rw [State.faulted, State.report_only, State.emergencyZero_only, State.abandoned_only]
  rfl

theorem State.take_eq (hc : c < s.ctxs.length) : s.take c src =
    (((s.faulted c src).releaseForces c).setCtx c ((s.ctx c).taken src)).push
      ((if s.takeScans c src then [.trigger] else []) ++ [.takeUp c ((s.ctx c).cfg.handler (src.level (s.ctx c).highs)) 0]) := by
  have hctx : ((s.faulted c src).releaseForces c).ctx c = { s.ctx c with flags := (s.ctx c).flags &&& ~~~src.bit } := by
    rw [State.faulted_only]
    exact State.unflagged_ctx_self hc
  have htaken : (s.ctx c).taken src = { ((s.faulted c src).releaseForces c).ctx c with
      stack := (s.ctx c).stack ++ (s.ctx c).returnRecord.toList, isl := src.level (s.ctx c).highs, state := .diverted, loops := [],
      step := none, autoPark := none, wakeDelay := none } := by
    rw [hctx]; rfl
  rw [htaken]
  rfl

theorem State.take_ctx_self (hc : c < s.ctxs.length) : (s.take c src).ctx c = (s.ctx c).taken src := by
  rw [State.take_eq hc]
  refine State.ctx_setCtx_self _ _ _ ?_
  rw [State.faulted_only]
  change c < (s.ctxs.set c _).length
  rw [List.length_set]
  exact hc

theorem State.take_ctx_of_ne {d : Nat} (hc : c < s.ctxs.length) (hd : d ≠ c) : (s.take c src).ctx d = s.ctx d := by
  rw [State.take_eq hc]
  refine (State.ctx_setCtx_of_ne ((s.faulted c src).releaseForces c) _ hd.symm).trans ?_
  rw [State.faulted_only]
  exact State.ctx_setCtx_of_ne _ _ hd.symm

theorem State.take_agenda (hc : c < s.ctxs.length) : (s.take c src).agenda =
    (if s.takeScans c src then [.trigger] else []) ++ .takeUp c ((s.ctx c).cfg.handler (src.level (s.ctx c).highs)) 0 :: s.agenda := by
  rw [State.take_eq hc, State.push, State.faulted_only]
  exact List.append_assoc ..

theorem State.takeScans_iff : s.takeScans c src = true ↔ (∃ e ∈ s.waits, e.ctx = c)
    ∨ (src.level (s.ctx c).highs = .emergency ∧ (s.holdsPlant c = true ∨ s.cameToZero (s.zeroHot c) c = true)) := by
  have hplant : (s.abandoned c src).holdsPlant c = s.holdsPlant c := by
    rw [State.abandoned_only]
    exact State.holdsPlant_congr rfl rfl c
  have hrest : (s.abandoned c src).ctxAtRest c = s.ctxAtRest c := by
    rw [State.abandoned_only]
    exact State.ctxAtRest_congr rfl rfl c
  have hzero : ((s.abandoned c src).emergencyZero c .emergency).ctxAtRest c = (s.zeroHot c).ctxAtRest c := by
    rw [State.emergencyZero_of_emergency, State.abandoned_only]
    exact State.ctxAtRest_congr rfl rfl c
  rw [State.takeScans, hplant, State.cameToZero, hrest, Bool.or_eq_true, List.any_eq_true, Bool.and_eq_true, beq_iff_eq, Bool.or_eq_true]
  simp only [beq_iff_eq]
  refine or_congr Iff.rfl (and_congr_right fun h => ?_)
  rw [h, hzero, State.cameToZero]

/-- The points of a taking (R34, R164). -/
theorem State.take_points (hc : c < s.ctxs.length) :
    (s.take c src).points = ((s.emergencyZero c (src.level (s.ctx c).highs)).releaseForces c).points := by
  have hzero : ((s.abandoned c src).emergencyZero c (src.level (s.ctx c).highs)).points =
      (s.emergencyZero c (src.level (s.ctx c).highs)).points := by
    rw [State.abandoned_only]
    unfold State.emergencyZero
    split <;> rfl
  have hfault : (s.faulted c src).points = ((s.abandoned c src).emergencyZero c (src.level (s.ctx c).highs)).points := by
    rw [State.faulted, State.report_only]; rfl
  have hnow : (s.faulted c src).now = (s.emergencyZero c (src.level (s.ctx c).highs)).now := by
    rw [State.faulted_only, State.emergencyZero_only]; rfl
  rw [State.take_eq hc]
  change ((s.faulted c src).releaseForces c).points = _
  rw [State.releaseForces, State.releaseForces]
  dsimp only
  rw [hfault, hzero]

/-- What the last stages of a taking leave (R34, R163). -/
theorem State.diverted_fields (u : State) (c : Nat) (x : Ctx) (ts : List Task) :
    (((u.releaseForces c).setCtx c x).push ts).lines = u.lines ∧ (((u.releaseForces c).setCtx c x).push ts).groups = u.groups
      ∧ (((u.releaseForces c).setCtx c x).push ts).waits = u.waits ∧ (((u.releaseForces c).setCtx c x).push ts).reports = u.reports
      ∧ (((u.releaseForces c).setCtx c x).push ts).counters = u.counters := ⟨rfl, rfl, rfl, rfl, rfl⟩

theorem State.abandoned_lines : (s.abandoned c src).lines = s.lines := by rw [State.abandoned_only]; rfl

theorem State.abandoned_groups : (s.abandoned c src).groups = s.groups := by rw [State.abandoned_only]; rfl

theorem State.emergencyZero_lines_congr {u : State} (h : s.lines = u.lines) : (s.emergencyZero c level).lines = (u.emergencyZero c level).lines := by
  by_cases he : level = .emergency
  · subst he
    change s.lines.map _ = u.lines.map _
    rw [h]
  · rw [State.emergencyZero_of_ne he, State.emergencyZero_of_ne he, h]

theorem State.emergencyZero_groups_congr {u : State} (h : s.groups = u.groups) :
    (s.emergencyZero c level).groups = (u.emergencyZero c level).groups := by
  by_cases he : level = .emergency
  · subst he
    change s.groups.map _ = u.groups.map _
    rw [h]
  · rw [State.emergencyZero_of_ne he, State.emergencyZero_of_ne he, h]

theorem State.faulted_lines : (s.faulted c src).lines = (s.emergencyZero c (src.level (s.ctx c).highs)).lines :=
  (State.report_lines ..).trans (State.emergencyZero_lines_congr State.abandoned_lines)

theorem State.faulted_groups : (s.faulted c src).groups = (s.emergencyZero c (src.level (s.ctx c).highs)).groups :=
  (State.report_groups ..).trans (State.emergencyZero_groups_congr State.abandoned_groups)

theorem State.faulted_waits : (s.faulted c src).waits = (s.abandoned c src).waits :=
  (State.report_waits ..).trans (by rw [State.emergencyZero_only])

theorem State.take_lines (hc : c < s.ctxs.length) : (s.take c src).lines = (s.emergencyZero c (src.level (s.ctx c).highs)).lines := by
  rw [State.take_eq hc, (State.diverted_fields _ c _ _).1, State.faulted_lines]

theorem State.take_groups (hc : c < s.ctxs.length) : (s.take c src).groups = (s.emergencyZero c (src.level (s.ctx c).highs)).groups := by
  rw [State.take_eq hc, (State.diverted_fields _ c _ _).2.1, State.faulted_groups]

theorem State.take_now (hc : c < s.ctxs.length) : (s.take c src).now = s.now := by
  rw [State.take_eq hc, State.faulted_only]; rfl

theorem State.take_waits (hc : c < s.ctxs.length) : (s.take c src).waits = (s.abandoned c src).waits := by
  rw [State.take_eq hc, (State.diverted_fields _ c _ _).2.2.1, State.faulted_waits]

theorem State.faulted_reports (hroom : (s.abandoned c src).reports.length < 64) : (s.faulted c src).reports =
    (s.abandoned c src).reports ++ [{ ctx := some c, step := (s.ctx c).step.bind fun _ => (s.ctx c).cur, time := s.now,
                                      tag := (s.ctx c).jobTag, body := (s.ctx c).faultTaken src }] := by
  have hsame : ((s.abandoned c src).emergencyZero c (src.level (s.ctx c).highs)).reports = (s.abandoned c src).reports := by
    rw [State.emergencyZero_only]
  have hnow : ((s.abandoned c src).emergencyZero c (src.level (s.ctx c).highs)).now = s.now := by
    rw [State.emergencyZero_only, State.abandoned_only]; rfl
  have hreport := State.reports_report (s := (s.abandoned c src).emergencyZero c (src.level (s.ctx c).highs)) (by rw [hsame]; exact hroom)
    (some c) ((s.ctx c).step.bind fun _ => (s.ctx c).cur) (s.ctx c).jobTag ((s.ctx c).faultTaken src)
  rw [hsame, hnow] at hreport
  exact hreport

theorem State.take_reports (hc : c < s.ctxs.length) (hroom : (s.abandoned c src).reports.length < 64) : (s.take c src).reports =
    (s.abandoned c src).reports ++ [{ ctx := some c, step := (s.ctx c).step.bind fun _ => (s.ctx c).cur, time := s.now,
                                      tag := (s.ctx c).jobTag, body := (s.ctx c).faultTaken src }] := by
  rw [State.take_eq hc, (State.diverted_fields _ c _ _).2.2.2.1, State.faulted_reports hroom]

/-- A counter is counted once where the counters before it are another state's. -/
theorem State.counter_count_of_counters {u : State} {n : Nat} (h : u.counters = s.counters) (hn : n < s.counters.length) :
    (u.count n).counter n = (s.counter n).count := by
  rw [State.counter_count_self (by rw [h]; exact hn), State.counter, h, State.counter]

theorem State.take_counter (hc : c < s.ctxs.length) (hn : diversionCounter c (src.level (s.ctx c).highs) < s.counters.length) :
    (s.take c src).counter (diversionCounter c (src.level (s.ctx c).highs)) =
      (s.counter (diversionCounter c (src.level (s.ctx c).highs))).count := by
  have hsame : ((s.abandoned c src).emergencyZero c (src.level (s.ctx c).highs)).counters = s.counters := by
    rw [State.emergencyZero_only, State.abandoned_only]; rfl
  have hcounters : (s.take c src).counters = (s.faulted c src).counters := by
    rw [State.take_eq hc, (State.diverted_fields _ c _ _).2.2.2.2]
  have hfault : (s.faulted c src).counter (diversionCounter c (src.level (s.ctx c).highs)) = _ :=
    State.counter_count_of_counters ((State.report_counters ..).trans hsame) hn
  rw [State.counter, hcounters]
  exact hfault

end

/-! ### What the reports say -/

section
variable {s : State} {c : Nat} {src : Source} {st : StepState}

theorem Ctx.reportsStep_iff (x : Ctx) (st : StepState) : x.reportsStep st = true ↔
    st.step.head.report = true ∨ (x.isl = .none ∧ ∃ j, x.job = some j ∧ j.job.reportAll = true) := by
  rw [Ctx.reportsStep, Bool.or_eq_true, Bool.and_eq_true, beq_iff_eq, Option.any_eq_true]

theorem State.abandoned_reports (hc : c < s.ctxs.length) (hroom : s.reports.length < 64) : (s.abandoned c src).reports =
    s.reports ++ match (s.ctx c).step with
      | some st =>
        if st.step.head.report = true ∨ ((s.ctx c).isl = .none ∧ ∃ j, (s.ctx c).job = some j ∧ j.job.reportAll = true) then
          [({ ctx := some c, step := (s.ctx c).cur, time := s.now, tag := (s.ctx c).jobTag,
              body := .stepEnd .aborted st.strike (st.bands.map (·.fired)) st.elapsed st.admitWait st.pressure } : Report)]
        else []
      | none => [] := by
  have hself := State.unflagged_ctx_self (src := src) hc
  cases hs : (s.ctx c).step with
  | none =>
    rw [State.abandoned, State.abandonStanding_of_none (by rw [hself]; exact hs)]
    exact (List.append_nil _).symm
  | some st =>
    rw [State.abandoned, State.abandonStanding_of_some (st := st) (by rw [hself]; exact hs)]
    change ((s.unflagged c src).reportStep c st .aborted).reports = _
    dsimp only
    simp only [← Ctx.reportsStep_iff]
    have hasks : ((s.unflagged c src).ctx c).reportsStep st = (s.ctx c).reportsStep st := by rw [hself]; rfl
    cases hask : (s.ctx c).reportsStep st with
    | true =>
      rw [State.reportStep_reports (s := s.unflagged c src) .aborted (hasks.trans hask) hroom, hself]
      rfl
    | false =>
      rw [State.reportStep_of_unasked (s := s.unflagged c src) .aborted (hasks.trans hask)]
      exact (List.append_nil _).symm

theorem StepState.ran_eq (st : StepState) :
    st.ran = if st.phase = .waiting then st.credit else min (st.credit + st.elapsed) 3600000000 := by
  unfold StepState.ran
  cases st.phase <;> rfl

theorem State.abandoned_waits_of_none (hc : c < s.ctxs.length) (hs : (s.ctx c).step = none) : (s.abandoned c src).waits = s.waits := by
  rw [State.abandoned, State.abandonStanding_of_none (by rw [State.unflagged_ctx_self hc]; exact hs)]
  rfl

theorem State.abandoned_waits_of_some (hc : c < s.ctxs.length) (hs : (s.ctx c).step ≠ none) :
    (s.abandoned c src).waits = s.waits.filter fun e => e.ctx != c := by
  obtain ⟨st, hst⟩ := Option.ne_none_iff_exists'.mp hs
  rw [State.abandoned, State.abandonStanding_of_some (st := st) (by rw [State.unflagged_ctx_self hc]; exact hst), State.reportStep_only]
  rfl

theorem diversionCounter_lt (hc : c < 6) (l : Level) : diversionCounter c l < 117 := by
  cases l <;> simp only [diversionCounter] <;> omega

end

/-- Each SET point of the context has its force released, and at EMERGENCY level a budgeted FLOW or a POWER point goes to 0 (R34, R164). -/
theorem State.take_point {s : State} {c p : Nat} {src : Source} (hc : c < s.ctxs.length) : (s.take c src).point p =
    match s.point p with
    | .set cfg r =>
      if cfg.owner = .ctx c then
        .set cfg { (if src.level (s.ctx c).highs = .emergency ∧ (cfg.quantity = .power ∨ (cfg.quantity = .flow ∧ cfg.line ≠ none))
          then r.retarget s.now 0 0 else r) with forced := none }
      else .set cfg r
    | q => q := by
  have hpoint : (s.take c src).point p = ((s.emergencyZero c (src.level (s.ctx c).highs)).releaseForces c).point p := by
    rw [State.point, State.take_points hc]; rfl
  rw [hpoint]
  by_cases he : src.level (s.ctx c).highs = .emergency
  · rw [he, State.emergencyZero_of_emergency]
    have hzero : ((s.zeroHot c).release c).point p = (s.zeroHot c).point p := rfl
    cases hq : s.point p with
    | empty =>
      have hsame := State.point_zeroHot_of_not_set (c := c) (s := s) (p := p) (by simp [hq])
      rw [State.point_releaseForces_of_not_set (by rw [hzero, hsame, hq]; simp), hzero, hsame, hq]
    | sample =>
      have hsame := State.point_zeroHot_of_not_set (c := c) (s := s) (p := p) (by simp [hq])
      rw [State.point_releaseForces_of_not_set (by rw [hzero, hsame, hq]; simp), hzero, hsame, hq]
    | set cfg r =>
      rw [State.point_releaseForces_of_set (hzero.trans (State.point_zeroHot_of_set hq))]
      by_cases ho : cfg.owner = .ctx c
      · simp only [ho, PointCfg.hot_iff, if_true, and_true, true_and]
      · simp only [ho, and_false, if_false]
  · rw [State.emergencyZero_of_ne he]
    cases hq : s.point p with
    | empty => rw [State.point_releaseForces_of_not_set (by rw [hq]; simp), hq]
    | sample => rw [State.point_releaseForces_of_not_set (by rw [hq]; simp), hq]
    | set cfg r =>
      rw [State.point_releaseForces_of_set hq]
      by_cases ho : cfg.owner = .ctx c
      · simp only [ho, he, if_true, if_false, false_and]
      · simp only [ho, if_false]

/-- After a taking at EMERGENCY level the context's budgeted FLOW and POWER points are at zero (R164). -/
theorem State.take_atZero {s : State} {c : Nat} {src : Source} (hc : c < s.ctxs.length) (he : src.level (s.ctx c).highs = .emergency) :
    (s.take c src).ctxAtZero c = true := by
  rw [State.ctxAtZero_iff]
  intro p cfg r hp hhot ho
  rw [State.take_point hc] at hp
  cases hq : s.point p with
  | empty => rw [hq] at hp; cases hp
  | sample => rw [hq] at hp; cases hp
  | set cfg' r' =>
    rw [hq] at hp
    dsimp only at hp
    by_cases ho' : cfg'.owner = .ctx c
    · rw [if_pos ho'] at hp
      obtain ⟨rfl, hr⟩ := Point.set.inj hp
      rw [if_pos ⟨he, PointCfg.hot_iff.mp hhot⟩] at hr
      subst hr
      rw [State.take_now hc]
      simp [SetRec.atZero, SetRec.currentValue, SetRec.retarget, SetRec.rampValue]
    · rw [if_neg ho'] at hp
      obtain ⟨rfl, -⟩ := Point.set.inj hp
      exact absurd ho ho'

/-- Settles O39: a taking is one update for each part of the state that R163's stages touch. -/
theorem takingDiverts : Obligations.TakingDiverts := by
  intro s c src hsize hc
  have hlen : c < s.ctxs.length := by rw [State.length_ctxs_of_sized hsize]; exact hc
  have hself := State.take_ctx_self (src := src) hlen
  have hlines := State.take_lines (src := src) hlen
  have hgroups := State.take_groups (src := src) hlen
  refine ⟨?_, ⟨s.takeScans c src, State.take_agenda hlen, State.takeScans_iff⟩, fun p => ?_, fun he => ⟨State.take_atZero hlen he, ?_, ?_, ?_⟩,
    fun he => ⟨?_, ?_⟩, State.take_counter hlen (by rw [State.length_counters hsize]; exact diversionCounter_lt hc _), fun hs => ?_, fun hs => ?_,
    fun hroom => ?_, fun d hd => State.take_ctx_of_ne hlen hd⟩
  · refine hself.trans ?_
    rw [Ctx.taken, Ctx.returnRecord]
    cases hs : (s.ctx c).step <;> cases hcur : (s.ctx c).cur <;> rfl
  · refine (State.take_point hlen).trans ?_
    cases s.point p <;> rfl
  · rw [State.holdsPlant_congr (u := (s.zeroHot c).release c) (by rw [hlines, he]; rfl) (by rw [hgroups, he]; rfl)]
    exact State.holdsPlant_release ..
  · rw [hlines, he]; rfl
  · rw [hgroups, he]; rfl
  · rw [hlines, State.emergencyZero_of_ne he]
  · rw [hgroups, State.emergencyZero_of_ne he]
  · rw [State.take_waits hlen, State.abandoned_waits_of_none hlen hs]
  · rw [State.take_waits hlen, State.abandoned_waits_of_some hlen hs]
  · have habandoned := State.abandoned_reports (src := src) hlen (by omega)
    have hroom' : (s.abandoned c src).reports.length < 64 := by
      rw [habandoned, List.length_append]
      cases (s.ctx c).step with
      | none => simp only [List.length_nil]; omega
      | some st =>
        dsimp only
        split <;> simp only [List.length_nil, List.length_singleton] <;> omega
    have hran : (s.ctx c).step.map StepState.ran = (s.ctx c).step.map fun st =>
        if st.phase = .waiting then st.credit else min (st.credit + st.elapsed) 3600000000 := by
      cases (s.ctx c).step with
      | none => rfl
      | some st => exact congrArg some st.ran_eq
    rw [State.take_reports hlen hroom', habandoned, hself, Ctx.faultTaken, hran] <;> rfl

end Sys2Proof.Machine
end

section
/-!
Conditions, bands, strike and the timers of a step (R98 to R107, R138).
-/
namespace Sys2Proof.Machine

/-! ### The end mode (R101) -/

section
variable {all : Bool} {old new : List Cond}

/-- The end mode is met by the flags of an evaluation (R101). -/
def endModeMet (all : Bool) (new : List Cond) : Prop := new ≠ [] ∧ if all = true then ∀ k ∈ new, k.met = true else ∃ k ∈ new, k.met = true

/-- The evaluation set the flag of condition j (R101). -/
def setsFlag (old new : List Cond) (j : Nat) : Prop :=
  ∃ o k : Cond, old[j]? = some o ∧ new[j]? = some k ∧ o.met = false ∧ k.met = true

theorem endModeMet_iff : (new.isEmpty || !(if all then new.all (·.met) else new.any (·.met))) = false ↔ endModeMet all new := by
  rw [endModeMet, Bool.or_eq_false_iff, Bool.not_eq_false', List.isEmpty_eq_false_iff]
  cases all <;> simp

theorem setsFlag_iff {j : Nat} : (∃ p, (old.zip new)[j]? = some p ∧ (!p.1.met && p.2.met) = true) ↔ setsFlag old new j := by
  simp only [setsFlag, Prod.exists, List.getElem?_zip_eq_some, Bool.and_eq_true, Bool.not_eq_true', and_assoc]

/-- The reason where the end mode is met: the lowest flag that the evaluation set, or else the lowest set (R101). -/
theorem endReason_of_met (h : endModeMet all new) :
    endReason all old new = ((old.zip new).findIdx? fun p => !p.1.met && p.2.met).or (new.findIdx? (·.met)) := by
  rw [endReason, if_neg (Bool.eq_false_iff.mp (endModeMet_iff.mpr h)), Option.orElse_eq_or]

theorem endReason_of_not_met (h : ¬endModeMet all new) : endReason all old new = none := by
  rw [endReason, if_pos]
  rw [← endModeMet_iff, Bool.not_eq_false] at h
  exact h

/-- The lowest index at which a test holds. -/
theorem findIdx?_eq_some_of_first {α : Type} {f : α → Bool} {l : List α} {r : Nat} {x : α} (hx : l[r]? = some x) (hf : f x = true)
    (hbefore : ∀ j y, j < r → l[j]? = some y → f y = false) : l.findIdx? f = some r := by
  obtain ⟨hlt, hget⟩ := List.getElem?_eq_some_iff.mp hx
  rw [List.findIdx?_eq_some_iff_getElem]
  refine ⟨hlt, by rw [hget]; exact hf, fun j hj => ?_⟩
  rw [hbefore j l[j] hj (List.getElem?_eq_getElem _)]
  simp

theorem findIdx?_sets_of_first {r : Nat} (hr : setsFlag old new r) (hbefore : ∀ j, j < r → ¬setsFlag old new j) :
    ((old.zip new).findIdx? fun p => !p.1.met && p.2.met) = some r := by
  obtain ⟨p, hp, hset⟩ := setsFlag_iff.mpr hr
  refine findIdx?_eq_some_of_first hp hset fun j y hj hy => ?_
  rw [Bool.eq_false_iff]
  exact fun hs => hbefore j hj (setsFlag_iff.mp ⟨y, hy, hs⟩)

theorem findIdx?_sets_of_none (h : ∀ j, ¬setsFlag old new j) : ((old.zip new).findIdx? fun p => !p.1.met && p.2.met) = none := by
  rw [List.findIdx?_eq_none_iff]
  intro p hp
  obtain ⟨j, hj⟩ := List.mem_iff_getElem?.mp hp
  rw [Bool.eq_false_iff]
  exact fun hs => h j (setsFlag_iff.mp ⟨p, hj, hs⟩)

theorem endReason_eq_none : endReason all old new = none ↔ ¬endModeMet all new := by
  constructor
  · intro h hmet
    rw [endReason_of_met hmet, Option.or_eq_none_iff, List.findIdx?_eq_none_iff] at h
    obtain ⟨-, hnone⟩ := h
    rw [List.findIdx?_eq_none_iff] at hnone
    obtain ⟨hne, hends⟩ := hmet
    cases all with
    | true =>
      obtain ⟨k, rest, rfl⟩ := List.exists_cons_of_ne_nil hne
      have := hnone k (List.mem_cons_self ..)
      rw [if_pos rfl] at hends
      rw [hends k (List.mem_cons_self ..)] at this
      cases this
    | false =>
      rw [if_neg Bool.false_ne_true] at hends
      obtain ⟨k, hk, hm⟩ := hends
      have := hnone k hk
      rw [hm] at this
      cases this
  · exact endReason_of_not_met

end

/-! ### Evaluations -/

section
variable {s : State} {c image len : Nat} {st : StepState}

theorem State.evaluateEnd_of_some {new : List Cond} {i : Nat} (hs : (s.ctx c).step = some st) (u : StepState)
    (h : endReason u.step.head.endAll u.conds new = some i) :
    s.evaluateEnd c u new = (s.setCtx c { s.ctx c with step := some { st with conds := new } }).push [.stepEnd c (.condition i)] := by
  unfold State.evaluateEnd
  dsimp only
  rw [h, State.modStep_of_step _ hs]

theorem State.evaluateEnd_of_none {new : List Cond} (hs : (s.ctx c).step = some st) (u : StepState)
    (h : endReason u.step.head.endAll u.conds new = none) :
    s.evaluateEnd c u new = s.setCtx c { s.ctx c with step := some { st with conds := new } } := by
  unfold State.evaluateEnd
  dsimp only
  rw [h, State.modStep_of_step _ hs]

theorem State.timeExpiry_of_due {i : Nat} {k : Cond} (hs : (s.ctx c).step = some st) (hk : st.conds[i]? = some k)
    (hd : timerDue k.timer s.now = true) :
    s.timeExpiry c i = s.evaluateEnd c st (st.conds.set i { k with met := true, timer := none }) := by
  unfold State.timeExpiry
  rw [hs]
  dsimp only
  rw [hk]
  dsimp only
  rw [if_pos hd, Cond.expire, if_pos hd]

/-- An INPUT condition at a collection of its point (R100). -/
theorem State.evalCond_input {p : Nat} {b fresh : Bool} {k : Cond} (hk : k.item = .input p b) (hc : s.collected image len p = some fresh) :
    s.evalCond image len k = { k with met := fresh && ((s.fOf p == 1) == b) } := by
  simp [State.evalCond, hk, EndItem.point, hc]

theorem State.evalCond_input_of_not_collected {p : Nat} {b : Bool} {k : Cond} (hk : k.item = .input p b) (hc : s.collected image len p = none) :
    s.evalCond image len k = k := State.evalCond_of_not_collected (by rw [hk]; rfl) hc

/-- The conditions whose point a pass does not collect stand (R99, R100). -/
theorem State.evalCond_of_untouched {k : Cond} (h : (k.item.point.bind (s.collected image len)).isSome = false) : s.evalCond image len k = k := by
  rw [State.evalCond, Option.isSome_eq_false_iff.mp h |> Option.isNone_iff_eq_none.mp]

end

/-! ### Collections (R102) -/

section
variable {s : State} {cfg : CtxCfg} {c image len : Nat} {st : StepState}

theorem State.seePressure_only : s.seePressure cfg image len st = { st with pressure := (s.seePressure cfg image len st).pressure } := by
  unfold State.seePressure
  split
  · rfl
  · split <;> rfl

theorem State.evalPlasma_only : (s.evalPlasma cfg image len st).1 =
    { st with strike := (s.evalPlasma cfg image len st).1.strike, strikeTimer := (s.evalPlasma cfg image len st).1.strikeTimer,
              lostRaised := (s.evalPlasma cfg image len st).1.lostRaised } := by
  unfold State.evalPlasma
  split
  · rfl
  · split
    · split
      · split <;> rfl
      · split <;> rfl
      · rfl
    · rfl

/-- The step's pressure extremes and strike state after a collection (R102, R106, R107). -/
def State.seen (s : State) (cfg : CtxCfg) (image len : Nat) (st : StepState) : StepState × Bool :=
  s.evalPlasma cfg image len (s.seePressure cfg image len st)

/-- Pressure and plasma leave the step, its conditions and its bands. -/
theorem State.seen_only : (s.seen cfg image len st).1.step = st.step ∧ (s.seen cfg image len st).1.conds = st.conds
    ∧ (s.seen cfg image len st).1.bands = st.bands := by
  rw [State.seen, State.evalPlasma_only, State.seePressure_only]
  exact ⟨rfl, rfl, rfl⟩

/-- The sources that a collection raises (R105, R107). -/
def State.seenRaises (s : State) (cfg : CtxCfg) (image len : Nat) (st : StepState) : List Source :=
  (if (s.seen cfg image len st).2 = true then [Source.plasmaLost] else [])
    ++ firedSources st.bands (st.bands.map (s.evalBand image len st.elapsed))

/-- A step after stages 1 to 3 of a collection. -/
def State.seenStep (s : State) (cfg : CtxCfg) (image len : Nat) (st : StepState) : StepState :=
  { (s.seen cfg image len st).1 with bands := st.bands.map (s.evalBand image len st.elapsed) }

/-- Stages 1 to 3, with the raises left as work. -/
def State.noticed (s : State) (c image len : Nat) (st : StepState) : State :=
  (s.setCtx c { s.ctx c with step := some (s.seenStep (s.ctx c).cfg image len st) }).push
    ((s.seenRaises (s.ctx c).cfg image len st).map fun src => .raise c src)

/-- A condition's point was collected in the pass. -/
def State.touches (s : State) (image len : Nat) (st : StepState) : Bool :=
  st.conds.any fun k => (k.item.point.bind (s.collected image len)).isSome

theorem State.touches_iff : s.touches image len st = true ↔
    ∃ k ∈ st.conds, ∃ p fresh, k.item.point = some p ∧ s.collected image len p = some fresh := by
  rw [State.touches, List.any_eq_true]
  simp only [Option.isSome_iff_exists, Option.bind_eq_some_iff]
  refine exists_congr fun k => and_congr_right fun _ => ?_
  exact exists_comm.trans (exists_congr fun p => exists_congr fun fresh => Iff.rfl) |>.trans (by simp)

theorem State.notifyCtx_of_no_step (h : (s.ctx c).step = none ∨ (s.ctx c).active = false) : s.notifyCtx c image len = s := by
  unfold State.notifyCtx
  dsimp only
  split
  · rfl
  · next st hst =>
    rcases h with h | h
    · rw [hst] at h; cases h
    · rw [h, Bool.not_false, Bool.true_or, if_pos rfl]

theorem State.notifyCtx_of_waiting (hs : (s.ctx c).step = some st) (hp : st.phase = .waiting) : s.notifyCtx c image len = s := by
  unfold State.notifyCtx
  dsimp only
  rw [hs]
  dsimp only
  have h : (st.phase == .waiting) = true := by rw [hp]; rfl
  rw [h, Bool.or_true, if_pos rfl]

theorem State.notifyCtx_of_standing (hs : (s.ctx c).step = some st) (ha : (s.ctx c).active = true) (hp : st.phase ≠ .waiting) :
    s.notifyCtx c image len = if s.touches image len st = true then
        (s.noticed c image len st).evaluateEnd c (s.seenStep (s.ctx c).cfg image len st) (st.conds.map (s.evalCond image len))
      else s.noticed c image len st := by
  have hphase : (st.phase == .waiting) = false := by simpa using hp
  obtain ⟨-, -, hbands⟩ := State.seen_only (s := s) (cfg := (s.ctx c).cfg) (image := image) (len := len) (st := st)
  unfold State.notifyCtx
  dsimp only
  rw [hs]
  dsimp only
  rw [ha, hphase, Bool.not_true, Bool.or_self, if_neg Bool.false_ne_true, State.noticed, State.seenStep, State.seenRaises, ← hbands]
  rfl

/-- Settles O29: a TIME expiry and a collection, each by one update of the step and what is left as work. -/
theorem timeExpiryMeetsItsCondition : Obligations.TimeExpiryMeetsItsCondition := by
  refine ⟨fun s dt c i st k hc hs hk hd => ?_, fun all old new hlen => ?_, fun s image len p b k hk => ⟨fun fresh hcol => ?_, fun hcol => ?_⟩,
    fun s c image len hc => ⟨State.notifyCtx_of_no_step, fun st hs hp => State.notifyCtx_of_waiting hs hp, fun st hs ha hp => ?_⟩⟩
  · have hrun : exec (.timeExpiry dt c i) s = .next ((s.advance dt).timeExpiry c i).settle := rfl
    rw [State.timeExpiry_of_due hs hk hd] at hrun
    refine ⟨fun hagenda hr => ?_, fun r hr => ?_⟩
    · rw [State.evaluateEnd_of_none hs st hr] at hrun
      exact hrun.trans (congrArg Host.Outcome.next (State.settle_of_nil _ hagenda))
    · rwa [State.evaluateEnd_of_some hs st hr] at hrun
  · refine ⟨endReason_eq_none, fun r hends hr hbefore => ?_, fun r k hends hnone hk hm hbefore => ?_⟩
    · rw [endReason_of_met hends, findIdx?_sets_of_first hr hbefore, Option.some_or]
    · rw [endReason_of_met hends, findIdx?_sets_of_none hnone, Option.none_or]
      exact findIdx?_eq_some_of_first hk hm hbefore
  · refine ⟨_, State.evalCond_input hk hcol, ?_⟩
    have hbit : ((s.fOf p == 1) == b) = true ↔ (s.fOf p = 1 ↔ b = true) := by
      rw [beq_iff_eq, Bool.eq_iff_iff, beq_iff_eq]
    rw [Bool.and_eq_true, hbit]
  · exact State.evalCond_input_of_not_collected hk hcol
  · have heq := State.notifyCtx_of_standing (image := image) (len := len) hs ha hp
    obtain ⟨hstep, hconds, -⟩ := State.seen_only (s := s) (cfg := (s.ctx c).cfg) (image := image) (len := len) (st := st)
    have hself : (s.noticed c image len st).ctx c = { s.ctx c with step := some (s.seenStep (s.ctx c).cfg image len st) } :=
      State.ctx_setCtx_self _ _ _ hc
    have hlen : c < (s.noticed c image len st).ctxs.length := by
      change c < (s.ctxs.set c _).length
      rw [List.length_set]
      exact hc
    have hother : ∀ d, d ≠ c → (s.noticed c image len st).ctx d = s.ctx d := fun d hd => State.ctx_setCtx_of_ne _ _ hd.symm
    have hreason : ∀ new, endReason (s.seenStep (s.ctx c).cfg image len st).step.head.endAll (s.seenStep (s.ctx c).cfg image len st).conds new =
        endReason st.step.head.endAll st.conds new := fun new => by
      rw [State.seenStep, hstep, hconds]
    have hnotice : ((s.noticed c image len st).ctx c).step = some (s.seenStep (s.ctx c).cfg image len st) := congrArg Ctx.step hself
    rw [← State.touches_iff]
    cases htouch : s.touches image len st with
    | true =>
      rw [htouch, if_pos rfl] at heq
      cases hr : endReason st.step.head.endAll st.conds (st.conds.map (s.evalCond image len)) with
      | some r =>
        rw [State.evaluateEnd_of_some hnotice _ ((hreason _).trans hr)] at heq
        rw [heq]
        refine ⟨congrArg Ctx.step (State.ctx_setCtx_self _ _ _ hlen), fun d hd => (State.ctx_setCtx_of_ne _ _ hd.symm).trans (hother d hd),
          fun k _ hk => ?_, fun h => ?_⟩
        · obtain rfl := Option.some.inj (hr.symm.trans hk)
          rfl
        · rcases h with h | h
          · exact absurd rfl h
          · exact absurd (hr.symm.trans h) (Option.some_ne_none r)
      | none =>
        rw [State.evaluateEnd_of_none hnotice _ ((hreason _).trans hr)] at heq
        rw [heq]
        refine ⟨congrArg Ctx.step (State.ctx_setCtx_self _ _ _ hlen), fun d hd => (State.ctx_setCtx_of_ne _ _ hd.symm).trans (hother d hd),
          fun k _ hk => ?_, fun _ => rfl⟩
        exact absurd (hk.symm.trans hr) (Option.some_ne_none k)
    | false =>
      rw [htouch, if_neg Bool.false_ne_true] at heq
      have hsame : st.conds.map (s.evalCond image len) = st.conds := by
        have hid : st.conds.map (s.evalCond image len) = st.conds.map id := List.map_congr_left fun k hk => by
          refine State.evalCond_of_untouched (Bool.eq_false_iff.mpr fun h => ?_)
          rw [State.touches, List.any_eq_false] at htouch
          exact htouch k hk h
        rw [hid, List.map_id]
      rw [heq, hsame]
      refine ⟨hnotice.trans ?_, hother, fun r h => absurd h Bool.false_ne_true, fun _ => rfl⟩
      have hkeep : { (s.seen (s.ctx c).cfg image len st).1 with bands := st.bands.map (s.evalBand image len st.elapsed), conds := st.conds } =
          s.seenStep (s.ctx c).cfg image len st := by
        rw [← hconds]
        rfl
      exact congrArg some hkeep.symm

end

end Sys2Proof.Machine
end

section
/-!
The timers of a step and of a wait-list entry that raise requests, and bands, strike and loss of plasma (R103 to R107, R138).
-/
namespace Sys2Proof.Machine

/-! ### Timers (R103, R106, R138) -/

section
variable {s : State} {c : Nat} {st : StepState}

theorem State.maxTimeExpiry_of_due (hs : (s.ctx c).step = some st) (hd : timerDue st.maxTimer s.now = true) : s.maxTimeExpiry c =
    (s.modStep c fun st => { st with maxTimer := none, timeoutRaised := true }).push [.raise c .stepTimeout] := by
  unfold State.maxTimeExpiry
  rw [hs]
  dsimp only
  rw [if_pos hd]

theorem State.strikeExpiry_of_due (hs : (s.ctx c).step = some st) (hd : timerDue st.strikeTimer s.now = true) (hu : st.strike = .unstruck) :
    s.strikeExpiry c = (s.modStep c fun st => { st with strikeTimer := none, strike := .failed }).push [.raise c .strikeFail] := by
  have hdue : (timerDue st.strikeTimer s.now && st.strike == .unstruck) = true := by rw [hd, hu]; rfl
  unfold State.strikeExpiry
  rw [hs]
  dsimp only
  rw [if_pos hdue]

/-- The wait list with the entry of a context marked as raised (R138). -/
def State.admitRaised (s : State) (c : Nat) : State :=
  { s with waits := s.waits.map fun (e : WaitEntry) => if e.ctx = c then { e with timer := none, raised := true } else e }

theorem State.admitExpiry_of_due {e : WaitEntry} (he : (s.waits.find? fun e => e.ctx == c) = some e) (hd : timerDue e.timer s.now = true) :
    s.admitExpiry c = (s.admitRaised c).push [.raise c .admitTimeout] := by
  unfold State.admitExpiry
  rw [he]
  dsimp only
  rw [if_pos hd]
  rfl

/-- A raise that no taking follows is all (R157, R160). -/
theorem State.settle_raised {src : Source} (ha : s.agenda = []) (hn : (s.raiseFlag c src).toTake c = none) :
    (s.push [.raise c src]).settle = s.raiseFlag c src :=
  s.settle_raise c src ha hn ((State.raiseFlag_agenda s c src).trans ha)

end

/-! ### Bands (R104, R105) -/

section
variable {s : State} {image len elapsed : Nat} {b : Band}

theorem State.evalBand_of_skipped
    (h : s.collected image len b.item.point = none ∨ b.fired = true ∨ elapsed < b.item.settle * 1000) : s.evalBand image len elapsed b = b := by
  unfold State.evalBand
  split
  · rfl
  · next fresh hc =>
    rcases h with h | h | h
    · rw [hc] at h; cases h
    · rw [if_pos (by rw [h]; rfl)]
    · rw [if_pos (by rw [decide_eq_true h, Bool.or_true])]

/-- A band at a collection behind its settle time that has not fired (R105). -/
theorem State.evalBand_of_collected {fresh : Bool} (hc : s.collected image len b.item.point = some fresh) (hf : b.fired = false)
    (hs : b.item.settle * 1000 ≤ elapsed) : s.evalBand image len elapsed b =
      if (!fresh || (decide (b.low ≤ (s.fOf b.item.point : Int)) && decide ((s.fOf b.item.point : Int) ≤ b.high))) = true
      then { b with outStart := none }
      else match b.outStart with
        | none => { b with outStart := some s.now, fired := b.item.persist == 0 }
        | some t => { b with fired := decide (b.item.persist * 1000 ≤ (s.now - t).toNat) } := by
  have hskip : (b.fired || decide (elapsed < b.item.settle * 1000)) = false := by
    rw [hf, decide_eq_false (Nat.not_lt.mpr hs)]; rfl
  unfold State.evalBand
  rw [hc]
  dsimp only
  rw [hskip, if_neg Bool.false_ne_true] <;> rfl

/-- A band within its limits, or of a stale sample (R105). -/
theorem State.evalBand_of_inside {fresh : Bool} (hc : s.collected image len b.item.point = some fresh) (hf : b.fired = false)
    (hs : b.item.settle * 1000 ≤ elapsed)
    (h : fresh = false ∨ (b.low ≤ (s.fOf b.item.point : Int) ∧ (s.fOf b.item.point : Int) ≤ b.high)) :
    s.evalBand image len elapsed b = { b with outStart := none } := by
  rw [State.evalBand_of_collected hc hf hs, if_pos]
  rcases h with rfl | ⟨hl, hh⟩
  · rfl
  · rw [decide_eq_true hl, decide_eq_true hh]
    simp

/-- A band out of its limits (R105). -/
theorem State.evalBand_of_outside (hc : s.collected image len b.item.point = some true) (hf : b.fired = false)
    (hs : b.item.settle * 1000 ≤ elapsed) (h : (s.fOf b.item.point : Int) < b.low ∨ b.high < (s.fOf b.item.point : Int)) :
    s.evalBand image len elapsed b = { b with
      outStart := some (b.outStart.getD s.now), fired := decide (b.item.persist * 1000 ≤ (s.now - b.outStart.getD s.now).toNat) } := by
  have hout : ¬(!true || (decide (b.low ≤ (s.fOf b.item.point : Int)) && decide ((s.fOf b.item.point : Int) ≤ b.high))) = true := by
    simp only [Bool.not_true, Bool.false_or, Bool.and_eq_true, decide_eq_true_eq]
    omega
  rw [State.evalBand_of_collected hc hf hs, if_neg hout]
  cases ho : b.outStart with
  | none => simp [Bool.beq_eq_decide_eq]
  | some t => rfl

theorem bandAt_absolute {sets : List SetItem} {i : BandItem} (h : i.mode = .absolute) :
    (bandAt sets i).low = max 0 i.low ∧ (bandAt sets i).high = i.high := by
  simp [bandAt, h]

theorem bandAt_relative {sets : List SetItem} {i : BandItem} {x : SetItem} (h : i.mode = .relative)
    (hx : (sets.find? fun x => x.point == i.reference) = some x) :
    (bandAt sets i).low = max 0 ((x.target : Int) + i.low) ∧ (bandAt sets i).high = (x.target : Int) + i.high := by
  simp [bandAt, h, hx]

theorem mem_firedSources {old new : List Band} {src : Source} : src ∈ firedSources old new ↔
    ∃ (j : Nat) (o k : Band), old[j]? = some o ∧ new[j]? = some k ∧ o.fired = false ∧ k.fired = true ∧ src = bandRequest k.item.source := by
  rw [firedSources, List.mem_filterMap]
  constructor
  · rintro ⟨⟨o, k⟩, hp, hif⟩
    obtain ⟨j, hj⟩ := List.mem_iff_getElem?.mp hp
    obtain ⟨ho, hk⟩ := List.getElem?_zip_eq_some.mp hj
    split at hif
    · next hfired =>
      rw [Bool.and_eq_true, Bool.not_eq_true'] at hfired
      exact ⟨j, o, k, ho, hk, hfired.1, hfired.2, (Option.some.inj hif).symm⟩
    · cases hif
  · rintro ⟨j, o, k, ho, hk, hof, hkf, rfl⟩
    refine ⟨(o, k), List.mem_of_getElem? (List.getElem?_zip_eq_some.mpr ⟨ho, hk⟩), ?_⟩
    rw [if_pos (by rw [hof, hkf]; rfl)]

end

/-! ### Plasma and pressure (R102, R106, R107) -/

section
variable {s : State} {cfg : CtxCfg} {image len p : Nat} {st : StepState}

theorem State.evalPlasma_of_fresh (hp : cfg.plasma = some p) (hf : s.collectedFresh image len p = true) : s.evalPlasma cfg image len st =
    match st.strike with
    | .unstruck =>
      if cfg.strike ≤ s.fOf p then ({ st with strike := .struck, strikeTimer := none }, false) else (st, false)
    | .struck =>
      if s.fOf p < cfg.lost ∧ !st.lostRaised then ({ st with lostRaised := true }, true) else (st, false)
    | _ => (st, false) := by
  unfold State.evalPlasma
  rw [hp]
  dsimp only
  rw [if_pos hf] <;> rfl

theorem State.evalPlasma_of_not_fresh (h : ∀ p, cfg.plasma = some p → s.collectedFresh image len p = false) :
    s.evalPlasma cfg image len st = (st, false) := by
  unfold State.evalPlasma
  split
  · rfl
  · next p hp => rw [if_neg (Bool.eq_false_iff.mp (h p hp))]

theorem State.seePressure_of_fresh (hp : cfg.pressure = some p) (hf : s.collectedFresh image len p = true) :
    s.seePressure cfg image len st = { st with pressure := extremes st.pressure (s.fOf p) } := by
  unfold State.seePressure
  rw [hp]
  dsimp only
  rw [if_pos hf]

theorem State.seePressure_of_not_fresh (h : ∀ p, cfg.pressure = some p → s.collectedFresh image len p = false) :
    s.seePressure cfg image len st = st := by
  unfold State.seePressure
  split
  · rfl
  · next p hp => rw [if_neg (Bool.eq_false_iff.mp (h p hp))]

end

/-- Settles O32: each expiry is one update before its raise, and each evaluation is its rule's table. -/
theorem stepTimersRaiseRequests : Obligations.StepTimersRaiseRequests := by
  refine ⟨fun s dt c ha => ⟨fun st hs hd hn => ?_, fun st hs hd hu hn => ?_, fun e he hd hn => ?_⟩,
    fun sets i => ⟨rfl, rfl, rfl, bandAt_absolute, fun x h hx => bandAt_relative h hx⟩,
    fun s image len elapsed b => ⟨State.evalBand_of_skipped, fun fresh hc hf hs => ⟨State.evalBand_of_inside hc hf hs, fun hfresh hout => ?_⟩⟩,
    fun old new src => ?_, fun s cfg image len st => ⟨fun p hp hf => ?_, State.evalPlasma_of_not_fresh⟩,
    fun s cfg image len st => ⟨fun p hp hf => ⟨fun hnone => ?_, fun lo hi hsome => ?_⟩, State.seePressure_of_not_fresh⟩⟩
  · have hrun : exec (.maxTimeExpiry dt c) s = .next ((s.advance dt).maxTimeExpiry c).settle := rfl
    rw [State.maxTimeExpiry_of_due hs hd] at hrun
    exact hrun.trans (congrArg Host.Outcome.next
      (State.settle_raised (s := (s.advance dt).modStep c fun st => { st with maxTimer := none, timeoutRaised := true }) ha hn))
  · have hrun : exec (.strikeWindowExpiry dt c) s = .next ((s.advance dt).strikeExpiry c).settle := rfl
    rw [State.strikeExpiry_of_due hs hd hu] at hrun
    exact hrun.trans (congrArg Host.Outcome.next
      (State.settle_raised (s := (s.advance dt).modStep c fun st => { st with strikeTimer := none, strike := .failed }) ha hn))
  · have hrun : exec (.admitTimeoutExpiry dt c) s = .next ((s.advance dt).admitExpiry c).settle := rfl
    rw [State.admitExpiry_of_due he hd] at hrun
    exact hrun.trans (congrArg Host.Outcome.next (State.settle_raised (s := (s.advance dt).admitRaised c) ha hn))
  · subst hfresh
    have heq := State.evalBand_of_outside hc hf hs hout
    refine ⟨?_, ?_, ?_, ?_, ?_⟩
    · rw [heq]
    · rw [heq]
    · rw [heq]
    · rw [heq]
    · rw [heq]
      exact decide_eq_true_iff
  · refine mem_firedSources.trans ?_
    refine exists_congr fun j => exists_congr fun o => exists_congr fun k => ?_
    refine and_congr_right fun _ => and_congr_right fun _ => and_congr_right fun _ => and_congr_right fun _ => ?_
    cases k.item.source <;> exact Iff.rfl
  · have heq := State.evalPlasma_of_fresh (st := st) hp hf
    refine ⟨fun hu hle => ?_, fun hu hlt => ?_, fun hst hlt hl => ?_, fun hst hor => ?_, fun hst => ?_⟩
    · rw [hu] at heq
      exact heq.trans (if_pos hle)
    · rw [hu] at heq
      exact heq.trans (if_neg (Nat.not_le.mpr hlt))
    · rw [heq, hst]
      have hraise : s.fOf p < cfg.lost ∧ (!st.lostRaised) = true := ⟨hlt, by rw [hl]; rfl⟩
      exact if_pos hraise
    · rw [hst] at heq
      refine heq.trans (if_neg ?_)
      rintro ⟨hlt, hl⟩
      rcases hor with h | h
      · omega
      · rw [h] at hl; cases hl
    · rcases hst with h | h <;> rw [h] at heq <;> exact heq
  · rw [State.seePressure_of_fresh hp hf, hnone, extremes]
  · rw [State.seePressure_of_fresh hp hf, hsome, extremes]

end Sys2Proof.Machine
end

section
/-!
Gates: switch readings, changes of state and their handing on, and the watch on an open gate (R144 to R151).
-/
namespace Sys2Proof.Machine

/-! ### What zeroing and retargets leave (R25, R146) -/

section
variable {s u : State} {c d p : Nat} {cfg : PointCfg} {r : SetRec}

/-- Two states have the same SAMPLE points. -/
def SameSamples (s u : State) : Prop := ∀ p cfg x, s.point p = .sample cfg x ↔ u.point p = .sample cfg x

theorem SameSamples.refl (s : State) : SameSamples s s := fun _ _ _ => Iff.rfl

theorem SameSamples.trans {v : State} (h : SameSamples s u) (h' : SameSamples u v) : SameSamples s v :=
  fun p cfg x => (h p cfg x).trans (h' p cfg x)

theorem SameSamples.freshF (h : SameSamples s u) (o : Option Nat) : s.freshF o = u.freshF o := by
  have hsample : s.sampleAt o = u.sampleAt o := by
    cases o with
    | none => rfl
    | some p =>
      unfold State.sampleAt
      dsimp only
      cases hs : s.point p with
      | sample cfg x => rw [(h p cfg x).mp hs]
      | empty =>
        cases hu : u.point p with
        | sample cfg x => rw [(h p cfg x).mpr hu] at hs; cases hs
        | empty => rfl
        | set => rfl
      | set =>
        cases hu : u.point p with
        | sample cfg x => rw [(h p cfg x).mpr hu] at hs; cases hs
        | empty => rfl
        | set => rfl
  rw [State.freshF, State.freshF, hsample]

/-- Each SET point becomes a SET point of the same configuration and force, and no other point changes. -/
def Retargets (s u : State) : Prop :=
  (∀ p cfg r, s.point p = .set cfg r → ∃ r', u.point p = .set cfg r' ∧ r'.forced = r.forced ∧ (r.t = 0 → r'.t = 0)
      ∧ (r' = r ∨ r' = r.retarget s.now 0 0))
    ∧ (∀ p, (∀ cfg r, s.point p ≠ .set cfg r) → u.point p = s.point p) ∧ u.now = s.now

theorem Retargets.sameSamples (h : Retargets s u) : SameSamples s u := by
  intro p cfg x
  obtain ⟨hset, hother, -⟩ := h
  by_cases hp : ∀ cfg r, s.point p ≠ .set cfg r
  · rw [hother p hp]
  · push Not at hp
    obtain ⟨cfg', r, hr⟩ := hp
    obtain ⟨r', hu, -⟩ := hset p cfg' r hr
    rw [hr, hu]
    simp

theorem Retargets.hotUnforced (h : Retargets s u) (hun : s.hotUnforced = true) : u.hotUnforced = true := by
  obtain ⟨hset, hother, -⟩ := h
  rw [State.hotUnforced, List.all_eq_true] at hun ⊢
  intro q hq
  obtain ⟨p, hp⟩ := List.mem_iff_getElem?.mp hq
  have hu := State.point_of_getElem? hp
  by_cases hs : ∀ cfg r, s.point p ≠ .set cfg r
  · rw [hother p hs] at hu
    cases q with
    | empty => rfl
    | sample => rfl
    | set cfg r => exact absurd hu (hs cfg r)
  · push Not at hs
    obtain ⟨cfg, r, hr⟩ := hs
    obtain ⟨r', hu', hforced, -⟩ := hset p cfg r hr
    have hmem : Point.set cfg r ∈ s.points := List.mem_of_getElem? (State.getElem?_of_point hr (by simp))
    obtain rfl := hu.symm.trans hu'
    have := hun _ hmem
    dsimp only at this ⊢
    rw [hforced]
    exact this

theorem Retargets.targetOf (h : Retargets s u) (ht : s.targetOf p = 0) : u.targetOf p = 0 := by
  obtain ⟨hset, hother, -⟩ := h
  by_cases hs : ∀ cfg r, s.point p ≠ .set cfg r
  · rw [State.targetOf, hother p hs]
    exact ht
  · push Not at hs
    obtain ⟨cfg, r, hr⟩ := hs
    obtain ⟨r', hu', -, hzero, -⟩ := hset p cfg r hr
    rw [State.targetOf, hr] at ht
    rw [State.targetOf, hu']
    exact hzero ht

/-- Points at zero stay so where no force stands. -/
theorem Retargets.ctxAtZero (h : Retargets s u) (hun : s.hotUnforced = true) (hz : s.ctxAtZero c = true) : u.ctxAtZero c = true := by
  obtain ⟨hset, hother, hnow⟩ := h
  rw [State.ctxAtZero_iff] at hz ⊢
  intro p cfg r hp hhot ho
  by_cases hs : ∀ cfg r, s.point p ≠ .set cfg r
  · rw [hother p hs] at hp
    exact absurd hp (hs cfg r)
  · push Not at hs
    obtain ⟨cfg', r', hr⟩ := hs
    obtain ⟨r'', hu', -, -, hcase⟩ := hset p cfg' r' hr
    obtain ⟨rfl, rfl⟩ := Point.set.inj (hp.symm.trans hu')
    have hrest := hz p cfg r' hr hhot ho
    rw [hnow]
    rcases hcase with rfl | rfl
    · exact hrest
    · have hmem : Point.set cfg r' ∈ s.points := List.mem_of_getElem? (State.getElem?_of_point hr (by simp))
      have hall := List.all_eq_true.mp hun _ hmem
      have hfp : cfg.flowOrPower = true := by
        rw [PointCfg.flowOrPower_iff]
        rcases PointCfg.hot_iff.mp hhot with e | e
        · exact .inr e
        · exact .inl e.1
      refine SetRec.atZero_retarget ?_
      simpa [hfp] using hall

theorem State.retargets_retarget (s : State) (k : Nat) : Retargets s (s.retarget k 0 0) := by
  refine ⟨fun p cfg r hp => ?_, fun p hp => ?_, by simp⟩
  · by_cases hk : k = p
    · subst hk
      exact ⟨_, State.point_retarget_self hp, rfl, fun _ => rfl, .inr rfl⟩
    · exact ⟨r, (State.point_retarget_of_ne hk).trans hp, rfl, id, .inl rfl⟩
  · by_cases hk : k = p
    · subst hk
      unfold State.retarget
      split
      · next cfg r hr => exact absurd hr (hp cfg r)
      · rfl
    · exact State.point_retarget_of_ne hk

theorem State.retargets_zeroHot (s : State) (c : Nat) : Retargets s (s.zeroHot c) := by
  refine ⟨fun p cfg r hp => ⟨_, State.point_zeroHot_of_set hp, ?_, fun ht => ?_, ?_⟩, fun p hp => State.point_zeroHot_of_not_set hp, rfl⟩
  · split <;> rfl
  · split
    · rfl
    · exact ht
  · split
    · exact .inr rfl
    · exact .inl rfl

theorem State.targetOf_retarget (s : State) (p : Nat) : (s.retarget p 0 0).targetOf p = 0 := by
  cases hp : s.point p with
  | set cfg r => rw [State.targetOf, State.point_retarget_self hp]; rfl
  | empty =>
    have hsame : s.retarget p 0 0 = s := by rw [State.retarget, hp]
    rw [hsame, State.targetOf, hp]
  | sample cfg x =>
    have hsame : s.retarget p 0 0 = s := by rw [State.retarget, hp]
    rw [hsame, State.targetOf, hp]

end

/-! ### A change of state and its report (R151) -/

section
variable {s : State} {g : Nat} {x x' : Gate} {cause : GateCause} {reading : Option Reading}

/-- The GATE report of a change of state (R151). -/
def State.gateBody (s : State) (g : Nat) (x : Gate) (after : GateState) (cause : GateCause) (reading : Option Reading) : ReportBody :=
  .gate g x.state after cause reading (s.freshF (s.ctx x.cfg.owner).cfg.pressure) (s.freshF (s.ctx x.cfg.partner).cfg.pressure)

theorem State.lt_of_gate {y : Gate} (h : s.gate g = some y) : g < s.gates.length := by
  by_contra hlen
  rw [State.gate, List.getD_eq_default _ _ (Nat.not_lt.mp hlen)] at h
  cases h

theorem State.changeGate_eq : s.changeGate g x x' cause reading =
    ((s.setGate g (some x')).report (some x.cfg.owner) (s.ctx x.cfg.owner).cur (s.ctx x.cfg.owner).jobTag
      (s.gateBody g x x'.state cause reading)).push [.tellSequencer g, .tellUnit g (s.hold x.cfg.owner), .trigger] := rfl

theorem State.changeGate_gates : (s.changeGate g x x' cause reading).gates = s.gates.set g (some x') :=
  State.report_gates ..

theorem State.changeGate_gate_self (hg : g < s.gates.length) : (s.changeGate g x x' cause reading).gate g = some x' := by
  rw [State.gate, State.changeGate_gates]
  exact State.gate_setGate_self s g _ hg

theorem State.changeGate_gate_of_ne {k : Nat} (hk : k ≠ g) : (s.changeGate g x x' cause reading).gate k = s.gate k := by
  rw [State.gate, State.changeGate_gates]
  exact State.gate_setGate_of_ne s _ hk.symm

theorem State.changeGate_agenda : (s.changeGate g x x' cause reading).agenda =
    .tellSequencer g :: .tellUnit g (s.hold x.cfg.owner) :: .trigger :: s.agenda := by
  have h : ((s.setGate g (some x')).report (some x.cfg.owner) (s.ctx x.cfg.owner).cur (s.ctx x.cfg.owner).jobTag
      (s.gateBody g x x'.state cause reading)).agenda = s.agenda := State.report_agenda ..
  rw [State.changeGate_eq, State.push, h]
  rfl

theorem State.changeGate_points : (s.changeGate g x x' cause reading).points = s.points := State.report_points ..

theorem State.changeGate_now : (s.changeGate g x x' cause reading).now = s.now := State.report_now ..

theorem State.changeGate_reports (hroom : s.reports.length < 64) : (s.changeGate g x x' cause reading).reports = s.reports ++
    [{ ctx := some x.cfg.owner, step := (s.ctx x.cfg.owner).cur, time := s.now, tag := (s.ctx x.cfg.owner).jobTag,
       body := s.gateBody g x x'.state cause reading }] :=
  State.reports_report (s := s.setGate g (some x')) hroom ..

end

/-! ### Entry into FAULT (R146) -/

section
variable {s : State} {g : Nat} {x : Gate} {cause : GateCause} {reading : Option Reading}

/-- The output of a gate that enters FAULT driven to 0 (R146). -/
def State.outputOff (s : State) (x : Gate) : State := if s.targetOf x.cfg.openOut = 0 then s else s.retarget x.cfg.openOut 0 0

/-- Stages 1 to 3 of an entry into FAULT (R146). -/
def State.faultPlant (s : State) (x : Gate) : State :=
  if x.state = .closed then
    ((((s.outputOff x).zeroHot x.cfg.owner).zeroHot x.cfg.partner).reformNeeds x.cfg.owner).reformNeeds x.cfg.partner
  else s.outputOff x

theorem State.enterFault_eq : s.enterFault g x cause reading = (s.faultPlant x).changeGate g x
    { x with state := .fault, timer := none, last := reading.orElse fun _ => x.last } cause reading := rfl

theorem State.retargets_refl (s : State) : Retargets s s := ⟨fun _ _ r h => ⟨r, h, rfl, id, .inl rfl⟩, fun _ _ => rfl, rfl⟩

theorem State.retargets_outputOff (s : State) (x : Gate) : Retargets s (s.outputOff x) := by
  unfold State.outputOff
  split
  · exact s.retargets_refl
  · exact s.retargets_retarget _

theorem State.targetOf_outputOff (s : State) (x : Gate) : (s.outputOff x).targetOf x.cfg.openOut = 0 := by
  unfold State.outputOff
  split
  · assumption
  · exact s.targetOf_retarget _

theorem State.reformNeeds_points (s : State) (c : Nat) : (s.reformNeeds c).points = s.points := rfl

/-- Two states whose contexts differ in their standing steps alone. -/
def SameContexts (s u : State) : Prop := ∀ c, (u.ctx c).cur = (s.ctx c).cur ∧ (u.ctx c).job = (s.ctx c).job ∧ (u.ctx c).cfg = (s.ctx c).cfg

theorem State.sameContexts_modStep (s : State) (c : Nat) (f : StepState → StepState) : SameContexts s (s.modStep c f) := by
  intro d
  by_cases hd : c = d
  · subst hd
    by_cases hc : c < s.ctxs.length
    · rw [State.modStep, State.ctx_setCtx_self _ _ _ hc]
      exact ⟨rfl, rfl, rfl⟩
    · rw [State.modStep, State.ctx_setCtx_of_length_le _ (Nat.not_lt.mp hc)]
      exact ⟨rfl, rfl, rfl⟩
  · rw [State.modStep, State.ctx_setCtx_of_ne _ _ hd]
    exact ⟨rfl, rfl, rfl⟩

theorem SameContexts.trans {s u v : State} (h : SameContexts s u) (h' : SameContexts u v) : SameContexts s v := fun c => by
  obtain ⟨h1, h2, h3⟩ := h c
  obtain ⟨k1, k2, k3⟩ := h' c
  exact ⟨k1.trans h1, k2.trans h2, k3.trans h3⟩

theorem SameContexts.of_ctxs {s u : State} (h : u.ctxs = s.ctxs) : SameContexts s u := fun c => by
  rw [State.ctx, h]
  exact ⟨rfl, rfl, rfl⟩

theorem State.retarget_only (s : State) (p t d : Nat) : s.retarget p t d = { s with points := (s.retarget p t d).points } := by
  unfold State.retarget
  split <;> rfl

theorem State.outputOff_only (s : State) (x : Gate) : s.outputOff x = { s with points := (s.outputOff x).points } := by
  unfold State.outputOff
  split
  · rfl
  · rw [State.retarget_only]

/-- What an entry into FAULT touches before the gate itself. -/
theorem State.faultPlant_only (s : State) (x : Gate) :
    s.faultPlant x = { s with points := (s.faultPlant x).points, ctxs := (s.faultPlant x).ctxs } := by
  unfold State.faultPlant
  split
  · rw [State.outputOff_only]
    rfl
  · rw [State.outputOff_only]

theorem State.sameContexts_zeroHot (s : State) (c : Nat) : SameContexts s (s.zeroHot c) := .of_ctxs rfl

theorem State.sameContexts_reformNeeds (s : State) (c : Nat) : SameContexts s (s.reformNeeds c) := State.sameContexts_modStep _ _ _

theorem State.sameContexts_faultPlant (s : State) (x : Gate) : SameContexts s (s.faultPlant x) := by
  have hoff : SameContexts s (s.outputOff x) := .of_ctxs (by rw [State.outputOff_only])
  unfold State.faultPlant
  split
  · exact (((hoff.trans (State.sameContexts_zeroHot _ _)).trans (State.sameContexts_zeroHot _ _)).trans
      (State.sameContexts_reformNeeds _ _)).trans (State.sameContexts_reformNeeds _ _)
  · exact hoff

theorem SameSamples.of_points {s u : State} (h : u.points = s.points) : SameSamples s u := fun p cfg x => by
  have hp : u.point p = s.point p := congrArg (fun l : List Point => l.getD p .empty) h
  rw [hp]

theorem State.sameSamples_reformNeeds (s : State) (c : Nat) : SameSamples s (s.reformNeeds c) := .of_points rfl

theorem State.sameSamples_faultPlant (s : State) (x : Gate) : SameSamples s (s.faultPlant x) := by
  have hoff := (s.retargets_outputOff x).sameSamples
  unfold State.faultPlant
  split
  · exact (((hoff.trans (State.retargets_zeroHot _ _).sameSamples).trans (State.retargets_zeroHot _ _).sameSamples).trans
      (State.sameSamples_reformNeeds _ _)).trans (State.sameSamples_reformNeeds _ _)
  · exact hoff

theorem State.targetOf_congr {s u : State} (h : u.points = s.points) (p : Nat) : u.targetOf p = s.targetOf p := by
  rw [State.targetOf, State.targetOf, State.point, State.point, h]

theorem State.targetOf_faultPlant (s : State) (x : Gate) : (s.faultPlant x).targetOf x.cfg.openOut = 0 := by
  have hoff := s.targetOf_outputOff x
  unfold State.faultPlant
  split
  · have hzero := (State.retargets_zeroHot ((s.outputOff x).zeroHot x.cfg.owner) x.cfg.partner).targetOf
      ((State.retargets_zeroHot (s.outputOff x) x.cfg.owner).targetOf hoff)
    exact (State.targetOf_congr (s := ((s.outputOff x).zeroHot x.cfg.owner).zeroHot x.cfg.partner) rfl _).trans hzero
  · exact hoff

/-- A CLOSED gate's FAULT brings the points of owner and partner to zero (R146). -/
theorem State.ctxAtZero_faultPlant (hx : x.state = .closed) (hun : s.hotUnforced = true) :
    (s.faultPlant x).ctxAtZero x.cfg.owner = true ∧ (s.faultPlant x).ctxAtZero x.cfg.partner = true := by
  have hoff := (s.retargets_outputOff x).hotUnforced hun
  have howner := (State.retargets_zeroHot (s.outputOff x) x.cfg.owner).hotUnforced hoff
  have hplant : s.faultPlant x =
      ((((s.outputOff x).zeroHot x.cfg.owner).zeroHot x.cfg.partner).reformNeeds x.cfg.owner).reformNeeds x.cfg.partner := if_pos hx
  have hcongr : ∀ c, (s.faultPlant x).ctxAtZero c = (((s.outputOff x).zeroHot x.cfg.owner).zeroHot x.cfg.partner).ctxAtZero c := fun c => by
    rw [hplant]
    exact State.ctxAtZero_congr rfl rfl c
  rw [hcongr, hcongr]
  exact ⟨(State.retargets_zeroHot _ _).ctxAtZero howner (State.zeroHot_unforced hoff), State.zeroHot_unforced howner⟩

theorem SameContexts.jobTag {s u : State} (h : SameContexts s u) (c : Nat) : (u.ctx c).jobTag = (s.ctx c).jobTag := by
  rw [Ctx.jobTag, Ctx.jobTag, (h c).2.1]

theorem State.gateBody_congr {s u : State} {after : GateState} (hc : SameContexts s u) (hs : SameSamples s u) :
    u.gateBody g x after cause reading = s.gateBody g x after cause reading := by
  obtain ⟨-, -, ho⟩ := hc x.cfg.owner
  obtain ⟨-, -, hp⟩ := hc x.cfg.partner
  rw [State.gateBody, State.gateBody, ho, hp, ← hs.freshF, ← hs.freshF]

theorem State.hold_congr {s u : State} (h : u.gates = s.gates) (c : Nat) : u.hold c = s.hold c := by
  rw [State.hold, State.hold, h]

theorem State.enterFault_gate_self (hg : s.gate g = some x) : (s.enterFault g x cause reading).gate g =
    some { x with state := .fault, timer := none, last := reading.orElse fun _ => x.last } := by
  rw [State.enterFault_eq]
  exact State.changeGate_gate_self (by rw [State.faultPlant_only]; exact State.lt_of_gate hg)

theorem State.enterFault_gate_of_ne {k : Nat} (hk : k ≠ g) : (s.enterFault g x cause reading).gate k = s.gate k := by
  rw [State.enterFault_eq, State.changeGate_gate_of_ne hk, State.faultPlant_only]
  rfl

theorem State.enterFault_agenda : (s.enterFault g x cause reading).agenda =
    .tellSequencer g :: .tellUnit g (s.hold x.cfg.owner) :: .trigger :: s.agenda := by
  have hplant := s.faultPlant_only x
  rw [State.enterFault_eq, State.changeGate_agenda, State.hold_congr (s := s) (by rw [hplant])]
  rw [hplant]

theorem State.enterFault_reports (hroom : s.reports.length < 64) : (s.enterFault g x cause reading).reports = s.reports ++
    [{ ctx := some x.cfg.owner, step := (s.ctx x.cfg.owner).cur, time := s.now, tag := (s.ctx x.cfg.owner).jobTag,
       body := s.gateBody g x .fault cause reading }] := by
  have hplant := s.faultPlant_only x
  have hctx := s.sameContexts_faultPlant x
  have hreports : (s.faultPlant x).reports = s.reports := by rw [hplant]
  have hnow : (s.faultPlant x).now = s.now := by rw [hplant]
  rw [State.enterFault_eq, State.changeGate_reports (by rw [hreports]; exact hroom), hreports, hnow, (hctx x.cfg.owner).1, hctx.jobTag,
    State.gateBody_congr hctx (s.sameSamples_faultPlant x)]

theorem State.enterFault_targetOf : (s.enterFault g x cause reading).targetOf x.cfg.openOut = 0 := by
  rw [State.enterFault_eq, State.targetOf_congr State.changeGate_points]
  exact s.targetOf_faultPlant x

theorem State.enterFault_ctxAtZero (hx : x.state = .closed) (hun : s.hotUnforced = true) :
    (s.enterFault g x cause reading).ctxAtZero x.cfg.owner = true ∧ (s.enterFault g x cause reading).ctxAtZero x.cfg.partner = true := by
  rw [State.enterFault_eq, State.ctxAtZero_congr State.changeGate_points State.changeGate_now,
    State.ctxAtZero_congr State.changeGate_points State.changeGate_now]
  exact State.ctxAtZero_faultPlant hx hun

end

end Sys2Proof.Machine
end

section
/-!
The readings of gates, the handing on of their changes, and the watch on an open gate (R144, R145, R150, R151).
-/
namespace Sys2Proof.Machine

/-! ### A reading (R144, Table 8-4) -/

section
variable {s : State} {g image len : Nat} {x : Gate} {r : Reading}

theorem State.readGate_of_none (hg : s.gate g = some x) (hr : s.formReading x image len = some r) (hm : readingMoves x.state r = none) :
    s.readGate g image len = s.setGate g (some { x with last := some r }) := by
  unfold State.readGate
  rw [hg]
  dsimp only
  rw [hr]
  dsimp only
  rw [hm]

theorem State.readGate_of_fault (hg : s.gate g = some x) (hr : s.formReading x image len = some r)
    (hm : readingMoves x.state r = some .fault) : s.readGate g image len = s.enterFault g x .reading (some r) := by
  unfold State.readGate
  rw [hg]
  dsimp only
  rw [hr]
  dsimp only
  rw [hm]

theorem State.readGate_of_moves {after : GateState} (hg : s.gate g = some x) (hr : s.formReading x image len = some r)
    (hm : readingMoves x.state r = some after) (hf : after ≠ .fault) : s.readGate g image len =
      s.changeGate g x { x with state := after, timer := none, last := some r } .reading (some r) := by
  unfold State.readGate
  rw [hg]
  dsimp only
  rw [hr]
  dsimp only
  rw [hm]
  cases after with
  | fault => exact absurd rfl hf
  | _ => rfl

/-- A gate that a reading leaves in its state keeps all but the reading. -/
theorem State.readGate_cases (hg : s.gate g = some x) (hr : s.formReading x image len = some r) :
    (∃ after, (s.readGate g image len).gate g = some { x with state := after, timer := none, last := some r }
        ∧ readingMoves x.state r = some after
        ∧ (s.readGate g image len).agenda = .tellSequencer g :: .tellUnit g (s.hold x.cfg.owner) :: .trigger :: s.agenda
        ∧ (s.reports.length < 64 → (s.readGate g image len).reports = s.reports ++
            [{ ctx := some x.cfg.owner, step := (s.ctx x.cfg.owner).cur, time := s.now, tag := (s.ctx x.cfg.owner).jobTag,
               body := s.gateBody g x after .reading (some r) }])
        ∧ ∀ k, k ≠ g → (s.readGate g image len).gate k = s.gate k)
      ∨ (s.readGate g image len = s.setGate g (some { x with last := some r }) ∧ readingMoves x.state r = none) := by
  cases hm : readingMoves x.state r with
  | none => exact .inr ⟨State.readGate_of_none hg hr hm, rfl⟩
  | some after =>
    refine .inl ⟨after, ?_⟩
    by_cases hf : after = .fault
    · subst hf
      rw [State.readGate_of_fault hg hr hm]
      exact ⟨State.enterFault_gate_self hg, rfl, State.enterFault_agenda, State.enterFault_reports, fun k => State.enterFault_gate_of_ne⟩
    · rw [State.readGate_of_moves hg hr hm hf]
      exact ⟨State.changeGate_gate_self (State.lt_of_gate hg), rfl, State.changeGate_agenda, State.changeGate_reports,
        fun k => State.changeGate_gate_of_ne⟩

theorem readingMoves_fault_iff {st : GateState} : readingMoves st r = some .fault ↔
    (st = .closed ∧ r ≠ .closedSw) ∨ (st = .open ∧ r ≠ .openSw) ∨ ((st = .opening ∨ st = .closing) ∧ r = .both) := by
  cases st <;> cases r <;> decide

theorem readingMoves_none_iff {st : GateState} : readingMoves st r = none ↔
    (st = .closed ∧ r = .closedSw) ∨ (st = .opening ∧ (r = .closedSw ∨ r = .mid)) ∨ (st = .open ∧ r = .openSw)
      ∨ (st = .closing ∧ (r = .openSw ∨ r = .mid)) ∨ (st = .fault ∧ r ≠ .closedSw) := by
  cases st <;> cases r <;> decide

theorem readingMoves_ne {st after : GateState} (h : readingMoves st r = some after) : after ≠ st := by
  cases st <;> cases r <;> simp only [readingMoves, Option.some.injEq, reduceCtorEq] at h <;> subst h <;> decide

theorem State.readGate_faults (hg : s.gate g = some x) (hr : s.formReading x image len = some r)
    (hm : readingMoves x.state r = some .fault) : (s.readGate g image len).gate g = some { x with state := .fault, timer := none, last := some r }
      ∧ (s.readGate g image len).targetOf x.cfg.openOut = 0 := by
  rw [State.readGate_of_fault hg hr hm]
  exact ⟨State.enterFault_gate_self hg, State.enterFault_targetOf⟩

theorem State.readGate_completes {after : GateState} (hg : s.gate g = some x) (hr : s.formReading x image len = some r)
    (hm : readingMoves x.state r = some after) (hf : after ≠ .fault) :
    (s.readGate g image len).gate g = some { x with state := after, timer := none, last := some r } := by
  rw [State.readGate_of_moves hg hr hm hf]
  exact State.changeGate_gate_self (State.lt_of_gate hg)

/-! ### How a reading is formed (R144) -/

theorem State.freshF_eq_some {o : Option Nat} {f : Nat} : s.freshF o = some f ↔
    ∃ p cfg y, o = some p ∧ s.point p = .sample cfg y ∧ y.stale = false ∧ y.f = f := by
  unfold State.freshF State.sampleAt
  cases o with
  | none => simp
  | some p =>
    dsimp only
    cases hp : s.point p with
    | empty => simp [hp]
    | set => simp [hp]
    | sample cfg y =>
      dsimp only
      cases hy : y.stale with
      | true => simp [hp, hy]
      | false => simp [hp, hy]

theorem readingOf_eq (k o : Nat) : readingOf (k == 1) (o == 1) =
    if k = 1 then (if o = 1 then .both else .closedSw) else if o = 1 then .openSw else .mid := by
  cases hk : k == 1 <;> cases ho : o == 1 <;> simp only [beq_iff_eq, beq_eq_false_iff_ne] at hk ho <;> simp [hk, ho, readingOf]

theorem State.formReading_iff : s.formReading x image len = some r ↔
    (s.collectedFresh image len x.cfg.closedSw = true ∨ s.collectedFresh image len x.cfg.openSw = true)
      ∧ ∃ kc k oc o, s.point x.cfg.closedSw = .sample kc k ∧ s.point x.cfg.openSw = .sample oc o ∧ k.stale = false ∧ o.stale = false
          ∧ r = if k.f = 1 then (if o.f = 1 then .both else .closedSw) else if o.f = 1 then .openSw else .mid := by
  unfold State.formReading
  by_cases hcol : (s.collectedFresh image len x.cfg.openSw || s.collectedFresh image len x.cfg.closedSw) = true
  · rw [if_pos hcol]
    rw [Bool.or_eq_true] at hcol
    constructor
    · intro h
      refine ⟨hcol.symm, ?_⟩
      split at h
      · next k o hk ho =>
        obtain ⟨_, kc, y, hkp, hkpoint, hks, rfl⟩ := State.freshF_eq_some.mp hk
        obtain ⟨_, oc, z, hop, hopoint, hos, rfl⟩ := State.freshF_eq_some.mp ho
        obtain rfl := Option.some.inj hkp
        obtain rfl := Option.some.inj hop
        exact ⟨kc, y, oc, z, hkpoint, hopoint, hks, hos, by rw [← readingOf_eq]; exact (Option.some.inj h).symm⟩
      · cases h
    · rintro ⟨-, kc, k, oc, o, hk, ho, hks, hos, rfl⟩
      rw [State.freshF_eq_some.mpr ⟨_, kc, k, rfl, hk, hks, rfl⟩, State.freshF_eq_some.mpr ⟨_, oc, o, rfl, ho, hos, rfl⟩]
      dsimp only
      rw [readingOf_eq]
  · rw [if_neg hcol]
    rw [Bool.or_eq_true] at hcol
    exact ⟨fun h => absurd h (Option.some_ne_none r).symm, fun ⟨h, _⟩ => absurd h.symm hcol⟩

end

/-! ### Handing on (R151) -/

section
variable {s : State} {g : Nat} {x : Gate}

/-- The owner's gate step awaits the state that the gate is in (R111). -/
def State.awaits (s : State) (g : Nat) (x : Gate) : Prop :=
  ∃ st, (s.ctx x.cfg.owner).step = some st ∧ st.phase = .motion ∧ st.step.head.gate = some g
    ∧ ((st.step.head.kind = .gateOpen ∧ x.state = .open) ∨ (st.step.head.kind = .gateClose ∧ x.state = .closed))

theorem awaited_iff {kind : StepKind} {st : GateState} : (match kind with
      | .gateOpen => st == .open
      | .gateClose => st == .closed
      | _ => false) = true ↔ (kind = .gateOpen ∧ st = .open) ∨ (kind = .gateClose ∧ st = .closed) := by
  cases kind <;> simp

theorem State.tellSequencer_of_awaits (hg : s.gate g = some x) (h : s.awaits g x) :
    s.tellSequencer g = s.push [.stepEnd x.cfg.owner .none] := by
  obtain ⟨st, hs, hp, hgate, hk⟩ := h
  unfold State.tellSequencer
  rw [hg]
  dsimp only
  rw [hs]
  dsimp only
  rw [if_pos]
  rw [hp, hgate]
  rcases hk with ⟨hk, hx⟩ | ⟨hk, hx⟩ <;> rw [hk, hx] <;> simp

theorem State.tellSequencer_of_not_awaits (hg : s.gate g = some x) (h : ¬s.awaits g x) : s.tellSequencer g = s := by
  unfold State.tellSequencer
  rw [hg]
  dsimp only
  split
  · rfl
  · next st hs =>
    rw [if_neg]
    intro hall
    refine h ⟨st, hs, ?_⟩
    rw [Bool.and_eq_true, Bool.and_eq_true, beq_iff_eq, beq_iff_eq] at hall
    obtain ⟨⟨hp, hgate⟩, hawait⟩ := hall
    refine ⟨hp, hgate, ?_⟩
    cases hk : st.step.head.kind <;> rw [hk] at hawait <;> simp at hawait <;> simp [hawait]

theorem State.hold_iff {c : Nat} : s.hold c = true ↔ ∃ k y, s.gate k = some y ∧ y.cfg.owner = c ∧ (y.state = .opening ∨ y.state = .closing) := by
  rw [State.hold, State.any_gates rfl]
  simp only [Bool.and_eq_true, Bool.or_eq_true, beq_iff_eq]

theorem State.tellUnit_eq (held : Bool) (hg : s.gate g = some x) : s.tellUnit g held =
    if x.state = .fault then (s.raiseFlag x.cfg.owner .gateMotion).attempt x.cfg.owner
    else if (held && !s.hold x.cfg.owner) = true then s.attempt x.cfg.owner else s := by
  unfold State.tellUnit
  rw [hg]

theorem State.attempt_of_some {c : Nat} {src : Source} (h : s.toTake c = some src) : s.attempt c = s.take c src := by rw [State.attempt, h]

theorem State.attempt_of_none {c : Nat} (h : s.toTake c = none) : s.attempt c = s := by rw [State.attempt, h]

end

/-! ### The watch on an open gate (R150) -/

section
variable {s : State} {g image len : Nat} {x : Gate}

/-- An OPEN gate trips (R150). -/
def State.trips (s : State) (image len : Nat) (x : Gate) : Prop :=
  x.state = .open ∧ x.tripRaised = false
    ∧ (∃ p, ((s.ctx x.cfg.owner).cfg.pressure = some p ∨ (s.ctx x.cfg.partner).cfg.pressure = some p) ∧ s.collectedFresh image len p = true)
    ∧ ∃ fa fb, s.freshF (s.ctx x.cfg.owner).cfg.pressure = some fa ∧ s.freshF (s.ctx x.cfg.partner).cfg.pressure = some fb
        ∧ (fa + x.cfg.tripDelta < fb ∨ fb + x.cfg.tripDelta < fa)

theorem matched_iff {a b delta : Nat} : matched a b delta = true ↔ a ≤ b + delta ∧ b ≤ a + delta := by
  rw [matched, decide_eq_true_iff]
  omega

theorem seen_iff {f : Nat → Bool} {a b : Option Nat} : (a.any f || b.any f) = true ↔ ∃ p, (a = some p ∨ b = some p) ∧ f p = true := by
  rw [Bool.or_eq_true, Option.any_eq_true, Option.any_eq_true]
  constructor
  · rintro (⟨p, hp, hf⟩ | ⟨p, hp, hf⟩)
    · exact ⟨p, .inl hp, hf⟩
    · exact ⟨p, .inr hp, hf⟩
  · rintro ⟨p, hp | hp, hf⟩
    · exact .inl ⟨p, hp, hf⟩
    · exact .inr ⟨p, hp, hf⟩

theorem trips_bool_iff {fa fb : Nat} {seen : Bool} : (x.state == .open && seen && !x.tripRaised && !matched fa fb x.cfg.tripDelta) = true ↔
    x.state = .open ∧ x.tripRaised = false ∧ seen = true ∧ (fa + x.cfg.tripDelta < fb ∨ fb + x.cfg.tripDelta < fa) := by
  have hm : (!matched fa fb x.cfg.tripDelta) = true ↔ fa + x.cfg.tripDelta < fb ∨ fb + x.cfg.tripDelta < fa := by
    rw [Bool.not_eq_true', Bool.eq_false_iff, Ne, matched_iff]
    omega
  rw [Bool.and_eq_true, Bool.and_eq_true, Bool.and_eq_true, beq_iff_eq, hm, Bool.not_eq_true']
  tauto

theorem State.compareGate_of_trips (hg : s.gate g = some x) (h : s.trips image len x) : s.compareGate g image len =
    (s.setGate g (some { x with tripRaised := true })).push
      [.raise x.cfg.owner .gatePressure, .raise x.cfg.partner .gatePressure] := by
  obtain ⟨hx, ht, hseen, fa, fb, hfa, hfb, hdiff⟩ := h
  unfold State.compareGate
  rw [hg]
  dsimp only
  rw [hfa, hfb]
  dsimp only
  rw [if_pos (trips_bool_iff.mpr ⟨hx, ht, seen_iff.mpr hseen, hdiff⟩)]

theorem State.compareGate_of_not_trips (hg : s.gate g = some x) (h : ¬s.trips image len x) : s.compareGate g image len = s := by
  unfold State.compareGate
  rw [hg]
  dsimp only
  split
  · next fa fb hfa hfb =>
    rw [if_neg]
    intro hall
    obtain ⟨hx, ht, hseen, hdiff⟩ := trips_bool_iff.mp hall
    exact h ⟨hx, ht, seen_iff.mp hseen, fa, fb, hfa, hfb, hdiff⟩
  · rfl

end

/-- Settles O41: a reading is Table 8-4's row, and each receiver of a change has its lemma. -/
theorem readingsMoveGates : Obligations.ReadingsMoveGates := by
  refine ⟨fun s g image len x r hsize hg hr => ?_, fun s x image len r => State.formReading_iff, fun s g x hg => ?_,
    fun s g image len x hg => ⟨State.compareGate_of_trips hg, State.compareGate_of_not_trips hg⟩⟩
  · have hfaults := State.readGate_faults hg hr
    refine ⟨fun hx hr' => ?_, fun hx hr' => ?_, fun hx hr' => ?_, fun hx hr' => ?_, fun hx hr' => ?_, fun hx hr' => ?_, fun h => ?_,
      fun y hy hne => ?_, fun k hk => ?_⟩
    · exact State.readGate_completes hg hr (by rw [hx, hr']; rfl) (by decide)
    · exact State.readGate_completes hg hr (by rw [hx, hr']; rfl) (by decide)
    · exact State.readGate_completes hg hr (by rw [hx, hr']; rfl) (by decide)
    · have hm := readingMoves_fault_iff.mpr (.inl ⟨hx, hr'⟩)
      obtain ⟨hgate, htarget⟩ := hfaults hm
      refine ⟨hgate, htarget, fun hun => ?_⟩
      rw [State.readGate_of_fault hg hr hm]
      exact State.enterFault_ctxAtZero hx hun
    · exact hfaults (readingMoves_fault_iff.mpr (.inr (.inl ⟨hx, hr'⟩)))
    · exact hfaults (readingMoves_fault_iff.mpr (.inr (.inr ⟨hx, hr'⟩)))
    · exact State.readGate_of_none hg hr (readingMoves_none_iff.mpr h)
    · rcases State.readGate_cases hg hr with ⟨after, hgate, -, hagenda, hreports, -⟩ | ⟨heq, -⟩
      · obtain rfl := Option.some.inj (hgate.symm.trans hy)
        exact ⟨hagenda, hreports⟩
      · rw [heq, State.gate_setGate_self _ _ _ (State.lt_of_gate hg)] at hy
        obtain rfl := Option.some.inj hy
        exact absurd rfl hne
    · rcases State.readGate_cases hg hr with ⟨after, -, -, -, -, hother⟩ | ⟨heq, -⟩
      · exact hother k hk
      · rw [heq]
        exact State.gate_setGate_of_ne s _ hk.symm
  · refine ⟨State.tellSequencer_of_awaits hg, State.tellSequencer_of_not_awaits hg, State.hold_iff, fun held hx => ?_, fun hx hh => ?_,
      fun held hx hh => ?_, fun src => State.attempt_of_some, State.attempt_of_none⟩
    · rw [State.tellUnit_eq held hg, if_pos hx]
    · have hhold : s.hold x.cfg.owner = false := Bool.eq_false_iff.mpr fun h => hh (State.hold_iff.mp h)
      rw [State.tellUnit_eq true hg, if_neg hx, hhold, if_pos (by rfl)]
    · have hno : (held && !s.hold x.cfg.owner) = false := by
        rcases hh with h | h
        · rw [State.hold_iff.mpr h, Bool.not_true, Bool.and_false]
        · rw [h, Bool.false_and]
      rw [State.tellUnit_eq held hg, if_neg hx, hno, if_neg Bool.false_ne_true]

end Sys2Proof.Machine
end

section
/-!
Gates in a quiet part: the motion timeout (R148) and GATE_REQUEST (R147, R149, R152), and the gate steps that are admitted (R111).
-/
namespace Sys2Proof.Machine

/-! ### The handing on of a change in a quiet part (R151) -/

section
variable {s : State} {c g : Nat} {x : Gate} {src : Source} {t : Task} {ts : List Task}

theorem runFor_push (k : Nat) : runFor (k + 1) (s.push (t :: ts)) = runFor k (doTask t (s.push ts)) :=
  runFor_cons k (s.push (t :: ts)) rfl

theorem State.toTake_push : (s.push ts).toTake c = s.toTake c := rfl

theorem State.raiseFlag_push : (s.push ts).raiseFlag c src = (s.raiseFlag c src).push ts := by
  by_cases h : (s.ctx c).state = .offline
  · rw [State.raiseFlag_of_offline h, State.raiseFlag_of_offline (s := s.push ts) h]
  · rw [State.raiseFlag_of_not_offline h, State.raiseFlag_of_not_offline (s := s.push ts) h]
    unfold State.report
    by_cases hroom : s.reports.length < Config.reports
    · rw [if_pos (show (s.setCtx c _).reports.length < Config.reports from hroom),
        if_pos (show ((s.push ts).setCtx c _).reports.length < Config.reports from hroom)]
      rfl
    · rw [if_neg (show ¬(s.setCtx c _).reports.length < Config.reports from hroom),
        if_neg (show ¬((s.push ts).setCtx c _).reports.length < Config.reports from hroom)]
      rfl

theorem State.raiseFlag_quiet : (s.raiseFlag c src).quiet = s.quiet := by
  simp [State.quiet]

theorem State.tellSequencer_push (hg : s.gate g = some x) (h : ¬s.awaits g x) : (s.push ts).tellSequencer g = s.push ts :=
  State.tellSequencer_of_not_awaits (s := s.push ts) hg h

theorem State.awaits_state (h : s.awaits g x) : x.state = .open ∨ x.state = .closed := by
  obtain ⟨st, -, -, -, hk | hk⟩ := h
  · exact .inl hk.2
  · exact .inr hk.2

theorem State.quiet_push_nil (hquiet : s.quiet = true) : runFor 2 (s.push [.trigger]) = s := by
  obtain ⟨ha, hw, hs, hg⟩ := s.quiet_iff.mp hquiet
  have hpush : (s.push [.trigger]).agenda = .trigger :: [] := by rw [State.push, ha]; rfl
  have hself : { s.push [.trigger] with agenda := [] } = s := by cases s; simp only at ha; subst ha; rfl
  have hrun := runFor_trigger (s := s.push [.trigger]) 0 hpush hw hs hg
  rw [hself] at hrun
  exact hrun

/-- A change into FAULT that no taking follows, in a quiet part (R146, R151). -/
theorem State.settle_told_fault (held : Bool) (hquiet : s.quiet = true) (hg : s.gate g = some x) (hx : x.state = .fault)
    (hn : (s.raiseFlag x.cfg.owner .gateMotion).toTake x.cfg.owner = none) :
    (s.push [.tellSequencer g, .tellUnit g held, .trigger]).settle = s.raiseFlag x.cfg.owner .gateMotion := by
  have hnot : ¬s.awaits g x := fun h => by rcases State.awaits_state h with e | e <;> rw [hx] at e <;> cases e
  have hunit : (s.push [.trigger]).tellUnit g held = (s.raiseFlag x.cfg.owner .gateMotion).push [.trigger] := by
    rw [State.tellUnit_eq (s := s.push [.trigger]) held hg, if_pos hx, State.raiseFlag_push]
    exact State.attempt_of_none hn
  have hrun : runFor 4 (s.push [.tellSequencer g, .tellUnit g held, .trigger]) = s.raiseFlag x.cfg.owner .gateMotion := by
    rw [runFor_push, doTask, State.tellSequencer_push hg hnot, runFor_push, doTask, hunit]
    exact State.quiet_push_nil (State.raiseFlag_quiet.trans hquiet)
  rw [State.settle_of_run _ 4 (by decide) (by rw [hrun]; exact ((State.quiet_iff _).mp (State.raiseFlag_quiet.trans hquiet)).1), hrun]

/-- A change into a motion, which no gate step awaits and which holds the takings back, in a quiet part (R151, R162). -/
theorem State.settle_told_motion (held : Bool) (hquiet : s.quiet = true) (hg : s.gate g = some x) (hx : x.state = .opening ∨ x.state = .closing) :
    (s.push [.tellSequencer g, .tellUnit g held, .trigger]).settle = s := by
  have hnot : ¬s.awaits g x := fun h => by
    rcases State.awaits_state h with e | e <;> rcases hx with h | h <;> rw [h] at e <;> cases e
  have hfault : x.state ≠ .fault := fun e => by rcases hx with h | h <;> rw [h] at e <;> cases e
  have hhold : s.hold x.cfg.owner = true := State.hold_iff.mpr ⟨g, x, hg, rfl, hx⟩
  have hunit : (s.push [.trigger]).tellUnit g held = s.push [.trigger] := by
    have h : (held && !(s.push [.trigger]).hold x.cfg.owner) = false := by
      rw [show (s.push [.trigger]).hold x.cfg.owner = true from hhold, Bool.not_true, Bool.and_false]
    rw [State.tellUnit_eq (s := s.push [.trigger]) held hg, if_neg hfault, h, if_neg Bool.false_ne_true]
  have hrun : runFor 4 (s.push [.tellSequencer g, .tellUnit g held, .trigger]) = s := by
    rw [runFor_push, doTask, State.tellSequencer_push hg hnot, runFor_push, doTask, hunit]
    exact State.quiet_push_nil hquiet
  rw [State.settle_of_run _ 4 (by decide) (by rw [hrun]; exact ((State.quiet_iff _).mp hquiet).1), hrun]

end

/-! ### A gate's change of state, without its handing on -/

section
variable {s : State} {g p t d : Nat} {x x' : Gate} {cause : GateCause}

/-- A change of state with the report of the state before (R151). -/
def State.changed (s u : State) (g : Nat) (x x' : Gate) (cause : GateCause) : State :=
  (u.setGate g (some x')).report (some x.cfg.owner) (s.ctx x.cfg.owner).cur (s.ctx x.cfg.owner).jobTag (s.gateBody g x x'.state cause none)

theorem State.changed_gate {u : State} (hg : g < u.gates.length) : (s.changed u g x x' cause).gate g = some x' := by
  rw [State.changed, State.gate, State.report_gates]
  exact State.gate_setGate_self u g _ hg

theorem State.changed_quiet {u : State} : (s.changed u g x x' cause).quiet = u.quiet := by
  simp [State.changed, State.quiet]

/-- A change from a state that differs from s in its SET points alone. -/
theorem State.changeGate_eq_changed {u : State} (hc : SameContexts s u) (hs : SameSamples s u) (hgates : u.gates = s.gates) :
    u.changeGate g x x' cause none =
      (s.changed u g x x' cause).push [.tellSequencer g, .tellUnit g (s.hold x.cfg.owner), .trigger] := by
  obtain ⟨hcur, -, -⟩ := hc x.cfg.owner
  rw [State.changeGate_eq, State.changed, State.gateBody_congr hc hs, hcur, hc.jobTag, State.hold_congr hgates]

theorem State.sameSamples_retarget (s : State) (p t d : Nat) : SameSamples s (s.retarget p t d) := by
  intro k cfg y
  by_cases hk : p = k
  · subst hk
    cases hp : s.point p with
    | set cfg' r => simp [State.point_retarget_self hp]
    | empty => rw [State.retarget, hp, hp]
    | sample => rw [State.retarget, hp, hp]
  · rw [State.point_retarget_of_ne hk]

theorem State.sameContexts_retarget (s : State) (p t d : Nat) : SameContexts s (s.retarget p t d) := .of_ctxs (State.retarget_ctxs ..)

/-- An opening (R147). -/
def Gate.opened (x : Gate) (now : Time) : Gate :=
  { x with state := .opening, timer := some { start := now, dur := x.cfg.motionTimeout * 1000 }, tripRaised := false }

/-- A closing (R149). -/
def Gate.closed (x : Gate) (now : Time) : Gate :=
  { x with state := .closing, timer := some { start := now, dur := x.cfg.motionTimeout * 1000 } }

theorem State.openGate_eq : s.openGate g x cause = (s.changed (s.retarget x.cfg.openOut 1 0) g x (x.opened s.now) cause).push
    [.tellSequencer g, .tellUnit g (s.hold x.cfg.owner), .trigger] :=
  State.changeGate_eq_changed (s.sameContexts_retarget _ _ _) (s.sameSamples_retarget _ _ _) (State.retarget_gates ..)

theorem State.closeGate_eq (h : x.state = .open ∨ x.state = .opening ∨ x.state = .fault) : s.closeGate g x cause =
    (s.changed (s.retarget x.cfg.openOut 0 0) g x (x.closed s.now) cause).push
      [.tellSequencer g, .tellUnit g (s.hold x.cfg.owner), .trigger] := by
  have hclose : s.closeGate g x cause = (s.retarget x.cfg.openOut 0 0).changeGate g x (x.closed s.now) cause none := by
    rcases h with h | h | h <;> simp only [State.closeGate, h] <;> rfl
  rw [hclose]
  exact State.changeGate_eq_changed (s.sameContexts_retarget _ _ _) (s.sameSamples_retarget _ _ _) (State.retarget_gates ..)

theorem State.closeGate_of_idle (h : x.state = .closing ∨ x.state = .closed) : s.closeGate g x cause = s := by
  rcases h with h | h <;> simp only [State.closeGate, h]

end

/-! ### The motion timeout (R148) -/

section
variable {s : State} {g : Nat} {x : Gate}

theorem State.motionExpiry_of_due (hg : s.gate g = some x) (hx : x.state = .opening ∨ x.state = .closing) (hd : timerDue x.timer s.now = true) :
    s.motionExpiry g = s.enterFault g x .timeout none := by
  have hdue : (timerDue x.timer s.now && (x.state == .opening || x.state == .closing)) = true := by
    rcases hx with h | h <;> rw [hd, h] <;> rfl
  unfold State.motionExpiry
  rw [hg]
  dsimp only
  rw [if_pos hdue]

/-- Entry into FAULT of a gate that is not CLOSED (R146). -/
theorem State.enterFault_of_motion (hx : x.state = .opening ∨ x.state = .closing) : s.enterFault g x .timeout none =
    (s.changed (s.outputOff x) g x { x with state := .fault, timer := none } .timeout).push
      [.tellSequencer g, .tellUnit g (s.hold x.cfg.owner), .trigger] := by
  have hne : ¬x.state = .closed := fun e => by rcases hx with h | h <;> rw [h] at e <;> cases e
  have hplant : s.faultPlant x = s.outputOff x := if_neg hne
  rw [State.enterFault_eq, hplant]
  exact State.changeGate_eq_changed (.of_ctxs (by rw [State.outputOff_only])) (s.retargets_outputOff x).sameSamples (by rw [State.outputOff_only])

end

/-- Settles O42: a timeout's change into FAULT, handed on in a quiet part (`State.settle_told_fault`). -/
theorem motionTimeoutFaultsTheGate : Obligations.MotionTimeoutFaultsTheGate := by
  intro s dt g x hquiet hsize hg hx hd a c b hn
  have hrun : exec (.motionTimerExpiry dt g) s = .next ((s.advance dt).motionExpiry g).settle := rfl
  rw [State.motionExpiry_of_due (s := s.advance dt) hg hx hd, State.enterFault_of_motion hx] at hrun
  have hlen : g < ((s.advance dt).outputOff x).gates.length := by
    rw [State.outputOff_only]
    exact State.lt_of_gate (s := s.advance dt) hg
  have hquiet' : ((s.advance dt).changed ((s.advance dt).outputOff x) g x { x with state := .fault, timer := none } .timeout).quiet = true := by
    rw [State.changed_quiet, State.outputOff_only]
    exact State.advance_quiet dt hquiet
  have hsettle := State.settle_told_fault ((s.advance dt).hold x.cfg.owner) hquiet' (State.changed_gate hlen) rfl hn
  rw [hsettle] at hrun
  exact hrun

/-! ### GATE_REQUEST (R152) -/

theorem gateOpenRequest_fielded (g : Nat) (listed : Bool) : (gateOpenRequest g listed).Fielded := ⟨rfl, Nat.le_refl 1⟩

theorem gateCloseRequest_fielded (g : Nat) (listed : Bool) : (gateCloseRequest g listed).Fielded := ⟨rfl, Nat.le_refl 1⟩

section
variable {s : State} {dt g : Nat} {m : Mailbox} {x : Gate} {listed : Bool}

theorem State.checkGateRequest_of_range (check : Gate → Option Response) (h : 8 ≤ g ∨ listed = false) :
    s.checkGateRequest g listed check = some (refusal .outOfRange (some g) none) := by
  have hbad : (decide (Config.gates ≤ g) || !listed) = true := by
    rcases h with h | h
    · rw [decide_eq_true (show Config.gates ≤ g from h), Bool.true_or]
    · rw [h, Bool.not_false, Bool.or_true]
  rw [State.checkGateRequest]
  exact if_pos (by simpa using hbad)

theorem State.checkGateRequest_of_inRange (check : Gate → Option Response) (hg : g < 8) : s.checkGateRequest g true check =
    match s.gate g with
    | none => some (refusal .notFound (some g) none)
    | some x => check x := by
  have hok : ¬(Config.gates ≤ g ∨ (!true) = true) := by
    rintro (h | h)
    · exact absurd hg (Nat.not_lt.mpr h)
    · cases h
  rw [State.checkGateRequest, if_neg (by simpa using hok)] <;> rfl

theorem gateOpenRequest_check (hg : g < 8) (hx : s.gate g = some x) : (gateOpenRequest g true).check s =
    (firstFailing (s.requestConditions x)).map fun k => refusal .notAllowedInState (some g) (some k) := by
  refine (State.checkGateRequest_of_inRange _ hg).trans ?_
  rw [hx]

theorem gateCloseRequest_check (hg : g < 8) (hx : s.gate g = some x) : (gateCloseRequest g true).check s =
    refuseIf (s.gateStepStands g x) (notAllowed g (s.ctx x.cfg.owner).state) := by
  refine (State.checkGateRequest_of_inRange _ hg).trans ?_
  rw [hx]

theorem gateRequest_check_of_none (hg : g < 8) (hx : s.gate g = none) : (gateOpenRequest g true).check s = some (refusal .notFound (some g) none)
    ∧ (gateCloseRequest g true).check s = some (refusal .notFound (some g) none) := by
  constructor
  · refine (State.checkGateRequest_of_inRange _ hg).trans ?_
    rw [hx]
  · refine (State.checkGateRequest_of_inRange _ hg).trans ?_
    rw [hx]

theorem gateOpenRequest_effect (hx : s.gate g = some x) : (gateOpenRequest g listed).effect s = s.openGate g x .request := by
  change (match s.gate g with | some x => s.openGate g x .request | none => s) = _
  rw [hx]

theorem gateCloseRequest_effect (hx : s.gate g = some x) : (gateCloseRequest g listed).effect s = s.closeGate g x .request := by
  change (match s.gate g with | some x => s.closeGate g x .request | none => s) = _
  rw [hx]

theorem State.changed_retarget_quiet {t : Nat} {x' : Gate} {cause : GateCause} (hquiet : s.quiet = true) :
    (s.changed (s.retarget x.cfg.openOut t 0) g x x' cause).quiet = true := by
  rw [State.changed_quiet, State.retarget_only]
  exact hquiet

theorem State.changed_retarget_gate {t : Nat} {x' : Gate} {cause : GateCause} (hx : s.gate g = some x) :
    (s.changed (s.retarget x.cfg.openOut t 0) g x x' cause).gate g = some x' :=
  State.changed_gate (by rw [State.retarget_gates]; exact State.lt_of_gate hx)

/-- GATE_REQUEST to open, where its conditions stand, in a quiet part (R147, R152). -/
theorem exec_gateRequestOpen (h : s.executes m 40 = true) (hquiet : s.quiet = true) (hg : g < 8) (hx : s.gate g = some x)
    (hok : ((s.arrived dt).requestConditions x).all id = true) : exec (.gateRequestOpen dt m g true) s =
      .next (((s.arrived dt).changed ((s.arrived dt).retarget x.cfg.openOut 1 0) g x (x.opened (s.arrived dt).now) .request).answered m
        (okay .empty)) := by
  have hcheck : (gateOpenRequest g true).check (s.arrived dt) = none := by
    have hnone : firstFailing ((s.arrived dt).requestConditions x) = none := firstFailing_eq_none.mpr (by simpa using hok)
    rw [gateOpenRequest_check (s := s.arrived dt) hg hx, hnone, Option.map_none]
  have hrun := (gateOpenRequest_fielded g true).passes h rfl hcheck
  rw [gateOpenRequest_effect (s := s.arrived dt) hx, State.openGate_eq, State.settle_told_motion _
    (State.changed_retarget_quiet (State.arrived_quiet hquiet)) (State.changed_retarget_gate (s := s.arrived dt) hx) (.inl rfl)] at hrun
  exact hrun

/-- GATE_REQUEST to close a gate that is not closed or closing, in a quiet part (R149, R152). -/
theorem exec_gateRequestClose (h : s.executes m 40 = true) (hquiet : s.quiet = true) (hg : g < 8) (hx : s.gate g = some x)
    (hfree : (s.arrived dt).gateStepStands g x = false) (hst : x.state = .open ∨ x.state = .opening ∨ x.state = .fault) :
    exec (.gateRequestClose dt m g true) s =
      .next (((s.arrived dt).changed ((s.arrived dt).retarget x.cfg.openOut 0 0) g x (x.closed (s.arrived dt).now) .request).answered m
        (okay .empty)) := by
  have hcheck : (gateCloseRequest g true).check (s.arrived dt) = none := by
    rw [gateCloseRequest_check (s := s.arrived dt) hg hx, hfree, refuseIf_false]
  have hrun := (gateCloseRequest_fielded g true).passes h rfl hcheck
  rw [gateCloseRequest_effect (s := s.arrived dt) hx, State.closeGate_eq hst, State.settle_told_motion _
    (State.changed_retarget_quiet (State.arrived_quiet hquiet)) (State.changed_retarget_gate (s := s.arrived dt) hx) (.inr rfl)] at hrun
  exact hrun

/-- GATE_REQUEST to close a gate that is closed or closing (R152). -/
theorem exec_gateRequestClose_of_idle (h : s.executes m 40 = true) (hquiet : s.quiet = true) (hg : g < 8) (hx : s.gate g = some x)
    (hfree : (s.arrived dt).gateStepStands g x = false) (hst : x.state = .closing ∨ x.state = .closed) :
    exec (.gateRequestClose dt m g true) s = .next ((s.arrived dt).answered m (okay .empty)) := by
  have hcheck : (gateCloseRequest g true).check (s.arrived dt) = none := by
    rw [gateCloseRequest_check (s := s.arrived dt) hg hx, hfree, refuseIf_false]
  have hrun := (gateCloseRequest_fielded g true).passes h rfl hcheck
  rw [gateCloseRequest_effect (s := s.arrived dt) hx, State.closeGate_of_idle hst,
    State.settle_of_nil _ ((State.quiet_iff _).mp (State.arrived_quiet hquiet)).1] at hrun
  exact hrun

/-- The conditions of R152 hold of a CLOSED gate alone. -/
theorem State.closed_of_requestConditions (h : (s.requestConditions x).all id = true) : x.state = .closed := by
  rw [List.all_eq_true] at h
  have hmem : (x.state == .closed) ∈ s.requestConditions x := by simp [State.requestConditions, State.openConditions]
  exact beq_iff_eq.mp (h _ hmem)

theorem firstFailing_of_first {oks : List Bool} {k : Nat} (hk : oks[k]? = some false) (hbefore : ∀ j, j < k → oks[j]? = some true) :
    firstFailing oks = some k :=
  findIdx?_eq_some_of_first hk rfl fun j y hj hy => by
    rw [hbefore j hj] at hy
    obtain rfl := Option.some.inj hy
    rfl

theorem State.gateStart_of_open {c : Nat} (hx : s.gate g = some x) : s.gateStart c g true = s.openGate g x .step := by
  rw [State.gateStart, hx]
  rfl

theorem State.gateStart_of_close {c : Nat} (hx : s.gate g = some x) (h : x.state ≠ .closed) : s.gateStart c g false = s.closeGate g x .step := by
  rw [State.gateStart, hx]
  dsimp only
  rw [if_neg Bool.false_ne_true, if_neg h]

theorem State.gateStart_of_closed {c : Nat} (hx : s.gate g = some x) (h : x.state = .closed) :
    s.gateStart c g false = s.push [.stepEnd c .none] := by
  rw [State.gateStart, hx]
  dsimp only
  rw [if_neg Bool.false_ne_true, if_pos h]

theorem State.gateStepStands_iff : s.gateStepStands g x = true ↔ ∃ st, (s.ctx x.cfg.owner).step = some st ∧ st.phase = .motion
    ∧ (st.step.head.kind = .gateOpen ∨ st.step.head.kind = .gateClose) ∧ st.step.head.gate = some g := by
  have hkind : ∀ k : StepKind, k.gate = true ↔ k = .gateOpen ∨ k = .gateClose := fun k => by cases k <;> decide
  rw [State.gateStepStands, Option.any_eq_true]
  simp only [Bool.and_eq_true, beq_iff_eq, hkind, and_assoc]

end

/-- Settles O43: a request and a gate step make the same opening or closing (`State.openGate_eq`, `State.closeGate_eq`), and in a quiet part
its handing on does nothing (`State.settle_told_motion`). -/
theorem gateRequestsMoveGates : Obligations.GateRequestsMoveGates := by
  refine ⟨fun s dt m g x hquiet h hsize hg hx hok hstep => ?_, fun s dt m g x hquiet h hsize hg hx hfree => ⟨fun hst => ?_, fun hst => ?_⟩,
    fun s dt m g h => ⟨fun listed hr => ⟨?_, ?_⟩, fun hg hx => ⟨?_, ?_⟩, fun x k hg hx hk hbefore => ?_, fun x hg hx hs => ?_⟩,
    fun s c g x hx => ⟨?_, fun hst => ?_, fun hst => ?_, fun hst => ?_⟩, fun s g x => ?_⟩
  · have hrun := exec_gateRequestOpen h hquiet hg hx hok
    rw [State.changed, State.gateBody, State.closed_of_requestConditions hok] at hrun
    exact hrun
  · exact exec_gateRequestClose h hquiet hg hx hfree hst
  · exact exec_gateRequestClose_of_idle h hquiet hg hx hfree hst
  · exact (gateOpenRequest_fielded g listed).refused h rfl (State.checkGateRequest_of_range _ hr)
  · exact (gateCloseRequest_fielded g listed).refused h rfl (State.checkGateRequest_of_range _ hr)
  · exact (gateOpenRequest_fielded g true).refused h rfl (gateRequest_check_of_none (s := s.arrived dt) hg hx).1
  · exact (gateCloseRequest_fielded g true).refused h rfl (gateRequest_check_of_none (s := s.arrived dt) hg hx).2
  · refine (gateOpenRequest_fielded g true).refused h rfl ?_
    rw [gateOpenRequest_check (s := s.arrived dt) hg hx, firstFailing_of_first hk hbefore, Option.map_some]
  · refine (gateCloseRequest_fielded g true).refused h rfl ?_
    rw [gateCloseRequest_check (s := s.arrived dt) hg hx, hs, refuseIf_true]
  · exact (State.gateStart_of_open hx).trans State.openGate_eq
  · have hne : x.state ≠ .closed := fun e => by rcases hst with h | h | h <;> rw [h] at e <;> cases e
    exact (State.gateStart_of_close hx hne).trans (State.closeGate_eq hst)
  · exact State.gateStart_of_closed hx hst
  · have hne : x.state ≠ .closed := fun e => by rw [hst] at e; cases e
    exact (State.gateStart_of_close hx hne).trans (State.closeGate_of_idle (.inl hst))
  · refine ⟨rfl, ?_, ?_, ?_, ?_, fun u v hu hv => ?_, ?_, State.gateStepStands_iff⟩
    · simp [State.requestConditions]
    · simp [State.requestConditions, State.openConditions]
    · simp [State.requestConditions, State.openConditions]
    · simp [State.requestConditions, State.openConditions, Option.isSome_iff_ne_none]
    · simp [State.requestConditions, State.openConditions, hu, hv, matched_iff]
    · simp [State.requestConditions, State.openConditions]

end Sys2Proof.Machine
end

section
/-!
The arbiter's tests: what needs are met (R125 to R128), what a waiting step blocks (R124, R129), and how a scan goes on (R135, R136).
-/
namespace Sys2Proof.Machine

section
variable {s : State} {c g l w : Nat} {st sw : StepState}

/-! ### Needs (R124 to R128) -/

theorem State.contestsLine_iff : s.contestsLine c st l = true ↔ (s.line l).budget = true ∧ (s.line l).reserved c < st.demandOn l := by
  rw [State.contestsLine, Bool.and_eq_true, decide_eq_true_iff]

theorem State.lineUnmet_iff : s.lineUnmet c st l = true ↔ (s.line l).budget = true ∧ (s.line l).reserved c < st.demandOn l
    ∧ (s.line l).capacity < (s.line l).reservations.sum - (s.line l).reserved c + st.demandOn l := by
  rw [State.lineUnmet, Bool.and_eq_true, State.contestsLine_iff, decide_eq_true_iff, and_assoc]

theorem State.groupUnmet_iff : s.groupUnmet c g = true ↔ ∃ h, (s.group g).holder = some h ∧ h ≠ c := by
  unfold State.groupUnmet
  split
  · next h hh => simp [hh]
  · next hn => simp [hn]

theorem StepState.claim_eq_some : st.claim = some g ↔ st.step.head.kind = .pump ∧ st.step.head.group = some g := by
  unfold StepState.claim
  split
  · next hk => simp [hk]
  · next hk => simp [hk]

theorem State.gatesClosed_iff : s.gatesClosed c = true ↔
    ∀ g x, s.gate g = some x → x.cfg.owner = c ∨ x.cfg.partner = c → x.state = .closed := by
  rw [← not_iff_not, Bool.not_eq_true, ← Bool.not_eq_true', ← State.gateStands, State.gateStands_iff]
  simp only [not_forall, exists_prop]

theorem State.closedMet_iff : s.closedUnmet c st = false ↔ ((∃ p v, (p, v) ∈ st.targets ∧ 0 < v ∧ s.hotPoint p = true) →
    ∀ g x, s.gate g = some x → x.cfg.owner = c ∨ x.cfg.partner = c → x.state = .closed) := by
  rw [← State.gatesClosed_iff, State.closedUnmet, Bool.and_eq_false_imp, Bool.not_eq_false', List.any_eq_true]
  simp only [Prod.exists, Bool.and_eq_true, decide_eq_true_eq]

theorem State.openConditions_iff {x : Gate} : (s.openConditions x).all id = true ↔
    ∃ a b, x.state = .closed ∧ (s.ctx x.cfg.partner).state ≠ .offline
      ∧ s.freshF (s.ctx x.cfg.owner).cfg.pressure = some a ∧ s.freshF (s.ctx x.cfg.partner).cfg.pressure = some b
      ∧ a ≤ b + x.cfg.openDelta ∧ b ≤ a + x.cfg.openDelta
      ∧ s.ctxAtZero x.cfg.owner = true ∧ s.ctxAtZero x.cfg.partner = true := by
  rw [State.openConditions]
  cases s.freshF (s.ctx x.cfg.owner).cfg.pressure with
  | none => simp
  | some a =>
    cases s.freshF (s.ctx x.cfg.partner).cfg.pressure with
    | none => simp
    | some b => simp [matched_iff, and_assoc]

theorem State.openMet_iff : s.openUnmet st = false ↔ (st.step.head.kind = .gateOpen →
    ∃ g x a b, st.step.head.gate = some g ∧ s.gate g = some x ∧ x.state = .closed
      ∧ (s.ctx x.cfg.partner).state ≠ .offline
      ∧ s.freshF (s.ctx x.cfg.owner).cfg.pressure = some a ∧ s.freshF (s.ctx x.cfg.partner).cfg.pressure = some b
      ∧ a ≤ b + x.cfg.openDelta ∧ b ≤ a + x.cfg.openDelta
      ∧ s.ctxAtZero x.cfg.owner = true ∧ s.ctxAtZero x.cfg.partner = true) := by
  rw [State.openUnmet, Bool.and_eq_false_imp, beq_iff_eq]
  refine imp_congr_right fun _ => ?_
  cases hg : st.step.head.gate with
  | none => simp
  | some g =>
    cases hx : s.gate g with
    | none => simp [hx]
    | some x =>
      simp only [Option.bind_some, hx, Bool.not_eq_false', State.openConditions_iff, Option.some.injEq]
      exact ⟨fun ⟨a, b, h⟩ => ⟨g, x, a, b, rfl, hx, h⟩, fun ⟨_, _, a, b, hg', hx', h⟩ => by
        subst hg'
        obtain rfl : x = _ := Option.some.inj (hx.symm.trans hx')
        exact ⟨a, b, h⟩⟩

theorem State.needsMet_iff : s.needsMet c st = true ↔
    (∀ l, l < 12 → (s.line l).budget = true → (s.line l).reserved c < st.demandOn l →
        (s.line l).reservations.sum - (s.line l).reserved c + st.demandOn l ≤ (s.line l).capacity)
      ∧ (∀ g h, st.step.head.kind = .pump → st.step.head.group = some g → (s.group g).holder = some h → h = c)
      ∧ s.closedUnmet c st = false ∧ s.openUnmet st = false := by
  have hlines : ((List.range Config.lines).all fun l => !s.lineUnmet c st l) = true ↔
      ∀ l, l < 12 → (s.line l).budget = true → (s.line l).reserved c < st.demandOn l →
        (s.line l).reservations.sum - (s.line l).reserved c + st.demandOn l ≤ (s.line l).capacity := by
    rw [List.all_eq_true]
    refine forall_congr' fun l => imp_congr List.mem_range ?_
    rw [Bool.not_eq_true', ← Bool.not_eq_true, State.lineUnmet_iff, not_and, not_and, Nat.not_lt]
  have hclaim : st.claim.all (fun g => !s.groupUnmet c g) = true ↔
      ∀ g h, st.step.head.kind = .pump → st.step.head.group = some g → (s.group g).holder = some h → h = c := by
    rw [Option.all_eq_true]
    refine forall_congr' fun g => ?_
    rw [StepState.claim_eq_some, Bool.not_eq_true', ← Bool.not_eq_true, State.groupUnmet_iff]
    simp only [not_exists, not_and, not_not, and_imp]
    exact ⟨fun h k hk hg => h hk hg k, fun h hk hg k => h k hk hg⟩
  rw [State.needsMet, Bool.and_eq_true, Bool.and_eq_true, Bool.and_eq_true, hlines, hclaim, Bool.not_eq_true', Bool.not_eq_true', and_assoc,
    and_assoc]

/-! ### Blocking (R124, R129) -/

theorem State.blocks_iff : s.blocks w c st = true ↔
    ∃ sw, (s.ctx w).step = some sw
      ∧ ((∃ l, l < 12 ∧ (s.line l).budget = true ∧ (s.line l).reserved c < st.demandOn l
            ∧ (s.line l).reserved w < sw.demandOn l
            ∧ (s.line l).capacity < (s.line l).reservations.sum - (s.line l).reserved w + sw.demandOn l)
        ∨ ∃ g h, st.step.head.kind = .pump ∧ st.step.head.group = some g ∧ sw.step.head.kind = .pump
            ∧ sw.step.head.group = some g ∧ (s.group g).holder = some h ∧ h ≠ c ∧ h ≠ w) := by
  unfold State.blocks
  split
  · next hn => simp [hn]
  · next sw hsw =>
    simp only [hsw, Option.some.injEq, exists_eq_left', Bool.or_eq_true]
    refine or_congr ?_ ?_
    · rw [List.any_eq_true]
      refine exists_congr fun l => and_congr List.mem_range ?_
      rw [Bool.and_eq_true, State.contestsLine_iff, State.lineUnmet_iff]
      exact ⟨fun ⟨⟨hb, hd⟩, _, h⟩ => ⟨hb, hd, h⟩, fun ⟨hb, hd, h⟩ => ⟨⟨hb, hd⟩, hb, h⟩⟩
    · simp only [← and_assoc, ← StepState.claim_eq_some (st := st)]
      simp only [and_assoc, ← StepState.claim_eq_some (st := sw)]
      split
      · next g g' hg hg' =>
        simp only [hg, hg', Option.some.injEq, Bool.and_eq_true, beq_iff_eq, bne_iff_ne, State.groupUnmet_iff]
        constructor
        · rintro ⟨⟨rfl, hc⟩, h, hh, hw⟩
          exact ⟨g, h, rfl, rfl, hh, fun e => hc (by rw [hh, e]), hw⟩
        · rintro ⟨_, h, rfl, rfl, hh, hc, hw⟩
          exact ⟨⟨rfl, fun e => hc (by rw [hh] at e; exact Option.some.inj e)⟩, h, hh, hw⟩
      · next hno => exact ⟨fun h => absurd h Bool.false_ne_true, fun ⟨g, _, hg, hg', _⟩ => absurd hg' (hno g g hg)⟩

/-! ### Scans (R135, R136) -/

/-- The test of the next entry of a scan. -/
theorem State.scanOn_of_next {left : List Nat} {e : WaitEntry} (hn : s.scanNext left = some e) (hs : (s.ctx e.ctx).step = some st) :
    s.scanOn left =
      if s.needsMet e.ctx st && !(left.any fun w => s.blocks w e.ctx st) then (s.push [.scan left]).admitStep e.ctx st false
      else s.push [.scan (e.ctx :: left)] := by
  simp only [State.scanOn, hn, hs]

theorem State.scanOn_of_end {left : List Nat} (hn : s.scanNext left = none) :
    s.scanOn left = if s.scanAgain then { s with scanAgain := false }.push [.scan []] else { s with scanning := false } := by
  simp only [State.scanOn, hn]

theorem not_any_iff {α : Type} {l : List α} {f : α → Bool} : (!l.any f) = true ↔ ∀ a ∈ l, f a = false := by
  rw [Bool.not_eq_true', List.any_eq_false]
  simp only [Bool.not_eq_true]

end
end Sys2Proof.Machine
end

section
/-!
The start of an admitted step (R96 to R98, R104, R106, R108), its end at admission (R98, R101) and presentation (R129, R131, R134, R138).
-/
namespace Sys2Proof.Machine

/-! ### The longest ramp (R97) -/

theorem le_foldl_max {l : List Nat} {m : Nat} : m ≤ l.foldl max m ∧ ∀ x ∈ l, x ≤ l.foldl max m := by
  induction l generalizing m with
  | nil => exact ⟨Nat.le_refl m, fun x hx => absurd hx List.not_mem_nil⟩
  | cons a l ih =>
    obtain ⟨hm, hl⟩ := ih (m := max m a)
    rw [List.foldl_cons]
    refine ⟨Nat.le_trans (Nat.le_max_left m a) hm, fun x hx => ?_⟩
    rcases List.mem_cons.mp hx with rfl | hx
    · exact Nat.le_trans (Nat.le_max_right m x) hm
    · exact hl x hx

theorem foldl_max_mem {l : List Nat} {m : Nat} : l.foldl max m = m ∨ l.foldl max m ∈ l := by
  induction l generalizing m with
  | nil => exact .inl rfl
  | cons a l ih =>
    rw [List.foldl_cons]
    rcases ih (m := max m a) with h | h
    · rcases Nat.le_total m a with hle | hle
      · exact .inr (List.mem_cons.mpr (.inl (h.trans (Nat.max_eq_right hle))))
      · exact .inl (h.trans (Nat.max_eq_left hle))
    · exact .inr (List.mem_cons_of_mem a h)

theorem Step.ramp_le_longestRamp {st : Step} {x : SetItem} (hx : x ∈ st.sets) : x.ramp ≤ st.longestRamp :=
  le_foldl_max.2 _ (List.mem_map.mpr ⟨x, hx, rfl⟩)

theorem Step.exists_ramp_eq_longestRamp {st : Step} (h : st.longestRamp ≠ 0) : ∃ x ∈ st.sets, x.ramp = st.longestRamp :=
  List.mem_map.mp ((foldl_max_mem (m := 0)).resolve_left h)

/-! ### The step state at admission (R96, R98, R104, R106, R108) -/

section
variable {st : StepState} {now : Time}

theorem StepKind.conditioned_iff {k : StepKind} : k.conditioned = true ↔ k = .process ∨ k = .pump := by
  cases k <;> decide

/-- What a PROCESS or PUMP step watches once it is admitted. -/
theorem StepState.admitted_of_conditioned (h : st.step.head.kind.conditioned = true) :
    (st.admitted now).phase = (if st.step.longestRamp = 0 then .hold else .ramp)
      ∧ (st.admitted now).maxTimer = msTimer now st.step.head.maxTime
      ∧ (st.admitted now).strikeTimer = msTimer now st.step.head.strikeWindow
      ∧ (st.admitted now).strike = (if st.step.head.strikeWindow = 0 then .notPlasma else .unstruck)
      ∧ (st.admitted now).conds = st.step.ends.map (condAt now st.credit)
      ∧ (st.admitted now).bands = st.step.bands.map (bandAt st.step.sets) := by
  have hplasma : (st.step.head.kind.conditioned && decide (0 < st.step.head.strikeWindow)) = decide (st.step.head.strikeWindow ≠ 0) := by
    rw [h, Bool.true_and]
    exact decide_eq_decide.mpr Nat.pos_iff_ne_zero
  refine ⟨?_, if_pos h, ?_, ?_, if_pos h, if_pos h⟩
  · rcases StepKind.conditioned_iff.mp h with hk | hk <;> simp only [StepState.admitted, hk]
  · simp only [StepState.admitted, hplasma, decide_eq_true_eq, ite_not]
    by_cases hz : st.step.head.strikeWindow = 0 <;> simp [hz, msTimer]
  · simp only [StepState.admitted, hplasma, decide_eq_true_eq, ite_not]

/-- A step of another kind watches nothing. -/
theorem StepState.admitted_of_not_conditioned (h : ¬st.step.head.kind.conditioned = true) :
    (st.admitted now).conds = [] ∧ (st.admitted now).bands = [] ∧ (st.admitted now).maxTimer = none
      ∧ (st.admitted now).strikeTimer = none ∧ (st.admitted now).strike = .notPlasma := by
  simp [StepState.admitted, h]

theorem StepState.admitted_of_ror (h : st.step.head.kind = .ror) : (st.admitted now).phase = .settle
    ∧ (st.admitted now).rorTimer = some { start := now, dur := st.step.head.rorSettle * 1000 } := by
  simp [StepState.admitted, h]

theorem StepState.admitted_of_gate (h : st.step.head.kind.gate = true) : (st.admitted now).phase = .motion := by
  cases hk : st.step.head.kind <;> simp_all [StepState.admitted, StepKind.gate]

/-- The limits of a band at admission (R104). -/
theorem bandAt_limits (sets : List SetItem) (b : BandItem) : ∃ low high : Int,
    bandAt sets b = ({ item := b, low := low, high := high, outStart := none, fired := false } : Band)
      ∧ (b.mode = .absolute → low = max 0 b.low ∧ high = b.high)
      ∧ ∀ x : SetItem, b.mode = .relative → (sets.find? fun x => x.point == b.reference) = some x →
          low = max 0 (x.target + b.low) ∧ high = x.target + b.high :=
  ⟨(bandAt sets b).low, (bandAt sets b).high, rfl, bandAt_absolute, fun _ => bandAt_relative⟩

end

/-! ### The end at admission (R98, R101) -/

section
variable {s : State} {c : Nat} {st : StepState}

theorem Cond.expire_eq (now : Time) : Cond.expire now = fun k => if timerDue k.timer now then { k with met := true, timer := none } else k :=
  rfl

theorem State.admitEnd_of_conditioned (hs : (s.ctx c).step = some st) (hp : st.phase ≠ .waiting) (hk : st.step.head.kind.conditioned = true) :
    s.admitEnd c = if st.conds.isEmpty then s.push [.stepEnd c .none]
      else if st.conds.any fun k => timerDue k.timer s.now then s.evaluateEnd c st (st.conds.map (Cond.expire s.now)) else s := by
  simp [State.admitEnd, hs, hp, hk]

/-! ### Presentation (R129, R131, R134, R138) -/

/-- The entries of the other contexts that stand ahead of a step of this rank, which are those of its class and priority or better. -/
def State.waitsAhead (s : State) (c rank : Nat) : List WaitEntry :=
  (s.waits.filter fun e => e.ctx != c).takeWhile fun e => decide (waitRank e.cls e.priority ≤ rank)

theorem dropWhile_eq_drop {α : Type} (p : α → Bool) (l : List α) : l.dropWhile p = l.drop (l.takeWhile p).length :=
  List.drop_left.symm.trans (congrArg (List.drop _) List.takeWhile_append_dropWhile)

/-- The wait-list entry of a step that is presented and not admitted (R134, R138). -/
def State.presentEntry (s : State) (c : Nat) (st : StepState) : WaitEntry :=
  { ctx := c, cls := classOf (s.ctx c).isl, priority := (s.ctx c).priority, entryTime := st.admitEntry, waited := 0,
    timer := msTimer st.admitEntry st.step.head.admitTimeout, raised := false }

/-- The rank of a step of context c that is presented now (R134). -/
def State.presentRank (s : State) (c : Nat) : Nat := waitRank (classOf (s.ctx c).isl) (s.ctx c).priority

/-- The step's needs are met and no entry ahead of its place blocks it (R129). -/
def State.passes (s : State) (c : Nat) (st : StepState) : Prop :=
  s.needsMet c st = true ∧ ∀ e ∈ s.waitsAhead c (s.presentRank c), s.blocks e.ctx c st = false

theorem State.present_of_emergency (h : (s.ctx c).isl = .emergency) : s.present c st = s.admitStep c st true := by
  simp [State.present, h]

theorem State.passes_iff : s.passes c st ↔
    (s.needsMet c st && !((s.waitsAhead c (s.presentRank c)).any fun e => s.blocks e.ctx c st)) = true := by
  rw [Bool.and_eq_true, not_any_iff]
  exact Iff.rfl

theorem State.present_of_passes (h : (s.ctx c).isl ≠ .emergency) (hp : s.passes c st) : s.present c st = s.admitStep c st false := by
  unfold State.present
  dsimp only
  rw [if_neg h]
  exact if_pos (State.passes_iff.mp hp)

theorem State.present_of_not_passes (h : (s.ctx c).isl ≠ .emergency) (hp : ¬s.passes c st) : s.present c st =
    ({ s with waits := s.waitsAhead c (s.presentRank c) ++ s.presentEntry c st ::
        (s.waits.filter fun e : WaitEntry => e.ctx != c).drop (s.waitsAhead c (s.presentRank c)).length }.count (8 * c + 7)).push [.trigger] := by
  unfold State.present
  dsimp only
  rw [if_neg h, dropWhile_eq_drop]
  exact if_neg fun hb => hp (State.passes_iff.mpr hb)

end
end Sys2Proof.Machine
end

section
/-!
The taking up of a timed step (R94, R95) and its admission (R130, R131, R96, R97, R132, R136).
-/
namespace Sys2Proof.Machine

/-! ### Prospective targets and demand (R95) -/

section
variable {s : State} {c h credit : Nat} {st : Step}

/-- The prospective target of a SET point that the context owns (R95). -/
def Step.targetOf (st : Step) (n : Nat) (cfg : PointCfg) (r : SetRec) : Nat :=
  match (if !st.head.kind.gate then st.sets else []).find? fun i => i.point == n with
  | some i => i.target
  | none => if !st.head.kind.gate && st.head.zeroOthers && cfg.flowOrPower then 0 else r.t

/-- The point is a SET point of context c. -/
def Point.setOf (c : Nat) : Point → Bool
  | .set cfg _ => cfg.owner == .ctx c
  | _ => false

/-- A prospective target and the point that it is of. -/
def Step.targetEntry (st : Step) (c n : Nat) : Point → Option (Nat × Nat)
  | .set cfg r => if cfg.owner = .ctx c then some (n, st.targetOf n cfg r) else none
  | _ => none

theorem State.prospective_eq : s.prospective c st = pickFrom (st.targetEntry c) 0 s.points := by
  refine pickFrom_congr 0 fun k x _ => ?_
  cases x with
  | empty | sample => rfl
  | set cfg r =>
    simp only [Step.targetEntry, Step.targetOf, beq_iff_eq]
    split
    · cases List.find? (fun i => i.point == 0 + k) (if !st.head.kind.gate then st.sets else []) <;> rfl
    · rfl

theorem State.prospective_pairwise : ((s.prospective c st).map (·.1)).Pairwise (· < ·) := by
  have hindex : (s.prospective c st).map (·.1) = pickFrom (fun k a => if Point.setOf c a then some k else none) 0 s.points := by
    rw [State.prospective_eq, map_pickFrom]
    refine pickFrom_congr 0 fun k x _ => ?_
    cases x with
    | empty | sample => rfl
    | set cfg r =>
      simp only [Step.targetEntry, Point.setOf, beq_iff_eq]
      split <;> rfl
  rw [hindex]
  exact (pickFrom_index_pairwise _ 0 _).1

theorem State.mem_prospective {p v : Nat} : (p, v) ∈ s.prospective c st ↔
    ∃ cfg r, s.point p = .set cfg r ∧ cfg.owner = .ctx c ∧ v = st.targetOf p cfg r := by
  rw [State.prospective_eq, mem_pickFrom]
  constructor
  · rintro ⟨k, x, hx, hk⟩
    rw [Nat.zero_add] at hk
    have hpoint := State.point_of_getElem? hx
    cases x with
    | empty | sample => cases hk
    | set cfg r =>
      rw [Step.targetEntry] at hk
      split at hk
      · next ho =>
        obtain ⟨rfl, rfl⟩ := Prod.mk.inj (Option.some.inj hk)
        exact ⟨cfg, r, hpoint, ho, rfl⟩
      · cases hk
  · rintro ⟨cfg, r, hp, ho, rfl⟩
    refine ⟨p, _, State.getElem?_of_point hp (by simp), ?_⟩
    rw [Nat.zero_add, Step.targetEntry, if_pos ho]

/-- A point's target is that of the item that names it, else 0 of a FLOW or POWER point under ZERO_OTHERS, else the target that it has;
a GATE step moves no point (R95). -/
theorem Step.targetOf_iff {n v : Nat} {cfg : PointCfg} {r : SetRec} : v = st.targetOf n cfg r ↔
    (st.head.kind.gate = false ∧ ∃ i, (st.sets.find? fun i => i.point == n) = some i ∧ v = i.target)
      ∨ (¬(st.head.kind.gate = false ∧ ∃ k ∈ st.sets, k.point = n)
        ∧ v = if st.head.kind.gate = false ∧ st.head.zeroOthers = true ∧ (cfg.quantity = .flow ∨ cfg.quantity = .power) then 0 else r.t) := by
  simp only [Step.targetOf, ← PointCfg.flowOrPower_iff]
  cases hk : st.head.kind.gate with
  | true => simp
  | false =>
    cases hf : st.sets.find? fun i => i.point == n with
    | none =>
      have hnone : ¬∃ k ∈ st.sets, k.point = n := by simpa using hf
      simp [hf, hnone]
    | some i =>
      have hsome : ∃ k ∈ st.sets, k.point = n := ⟨i, List.mem_of_find?_eq_some hf, by simpa using List.find?_some hf⟩
      simp [hf, hsome]

theorem State.demandOn_admitState {l : Nat} (hl : l < 12) : (s.admitState c st credit).demandOn l =
    (((s.admitState c st credit).targets.filter fun t => s.onLine l t.1).map (·.2)).sum := by
  have hl' : l < Config.lines := hl
  simp [StepState.demandOn, State.admitState, State.demandOf, List.getD_eq_getElem?_getD, List.getElem?_range hl']

theorem State.onLine_iff {l p : Nat} : s.onLine l p = true ↔ ∃ cfg r, s.point p = .set cfg r ∧ cfg.quantity = .flow ∧ cfg.line = some l := by
  unfold State.onLine
  split
  · next cfg r hp =>
    rw [Bool.and_eq_true, beq_iff_eq, beq_iff_eq, hp]
    exact ⟨fun ⟨hq, hline⟩ => ⟨cfg, r, rfl, hq, hline⟩, fun ⟨_, _, he, hq, hline⟩ => by
      obtain ⟨rfl, rfl⟩ := Point.set.inj he
      exact ⟨hq, hline⟩⟩
  · next hno => exact ⟨fun h => absurd h Bool.false_ne_true, fun ⟨cfg, r, hp, _⟩ => absurd hp (hno cfg r)⟩

/-- A timed step that is taken up enters ADMIT and is presented (R94). -/
theorem State.takeUp_of_timed (hs : stepAt s.records h = some st) (ha : (s.ctx c).active = true) (hk : st.head.kind.timed = true)
    (hc : c < s.ctxs.length) : s.takeUp c h credit =
      (s.setCtx c { s.ctx c with cur := some h, step := some (s.admitState c st credit) }).present c (s.admitState c st credit) := by
  have hself : (s.shown c h).ctx c = { s.ctx c with cur := some h, step := none } := State.shown_ctx_self hc
  have hadmit : (s.shown c h).takeUpStep c h credit st =
      ((s.shown c h).setCtx c { (s.shown c h).ctx c with step := some (s.admitState c st credit) }).present c (s.admitState c st credit) := by
    unfold State.takeUpStep
    cases hkind : st.head.kind with
    | process | pump | ror | gateOpen | gateClose => rfl
    | _ => rw [hkind] at hk; cases hk
  have htwice : (s.shown c h).setCtx c { (s.shown c h).ctx c with step := some (s.admitState c st credit) } =
      s.setCtx c { s.ctx c with cur := some h, step := some (s.admitState c st credit) } := by
    rw [hself]
    exact congrArg (fun l => { s with ctxs := l }) (List.set_set ..)
  exact (State.takeUp_of_active s c h credit st hs ha).trans (hadmit.trans (by rw [htwice]))

end
end Sys2Proof.Machine
end

section
/-!
The admission of a step (R130, R131) with its start (R96, R97), by the parts of the state that it touches.
-/
namespace Sys2Proof.Machine

section
variable {s : State} {c : Nat} {st : StepState} {emergency : Bool}

/-! ### What an admission makes -/

/-- Stages 2 to 4 of R130, left out of an admission at EMERGENCY level (R131). -/
def State.plantRaised (s : State) (c : Nat) (st : StepState) (emergency : Bool) : State := if emergency then s else s.raisePlant c st

/-- The step's ramps complete at its admission (R97). -/
def StepState.rampsAtOnce (st : StepState) : Bool := !st.step.head.kind.gate && st.step.longestRamp == 0

/-- An admission triggers a scan (R136). -/
def State.admitScans (s : State) (c : Nat) (st : StepState) (emergency : Bool) : Bool :=
  (s.waits.any fun e => e.ctx == c) || (!emergency && s.wouldReleaseGroup c st.claim)
    || (st.rampsAtOnce && (s.plantRaised c st emergency).wouldFall c st)
    || (!st.step.head.kind.gate && s.bringsZero c st.step.sets st.step.head.zeroOthers)

/-- The work that an admission leaves. -/
def State.admitWork (s : State) (c : Nat) (st : StepState) (emergency : Bool) : List Task :=
  (match st.step.head.gate with
    | some g => if st.step.head.kind.gate then [.gateStart c g (st.step.head.kind == .gateOpen)] else []
    | none => [])
    ++ (if s.admitScans c st emergency then [.trigger] else [])
    ++ if st.step.head.kind.conditioned then [.admitEnd c] else []

theorem State.startStep_points {u : State} (hp : u.points = s.points) (hn : u.now = s.now) :
    (u.startStep c st).points = (s.startStep c st).points := by
  have hitems := State.applyItems_congr hp hn st.step.sets
  have hothers : ((u.applyItems st.step.sets).zeroOthers c st.step.sets).points =
      ((s.applyItems st.step.sets).zeroOthers c st.step.sets).points := by
    simp only [State.zeroOthers, hitems, State.applyItems_now, hn]
  unfold State.startStep
  split
  · exact hp
  · dsimp only
    split
    · exact hothers
    · exact hitems

theorem State.plantRaised_only : s.plantRaised c st emergency =
    { s with lines := (s.plantRaised c st emergency).lines, groups := (s.plantRaised c st emergency).groups } := by
  unfold State.plantRaised
  split <;> rfl

/-- The state once an admitted step has started, before the ramp completion that its admission may bring (R97). -/
def State.admitStarted (s : State) (c : Nat) (st : StepState) (emergency : Bool) : State :=
  { s with points := (s.startStep c st).points,
           ctxs := s.ctxs.set c { s.ctx c with marker := false, step := some (st.admitted s.now) },
           lines := (s.plantRaised c st emergency).lines,
           groups := (s.plantRaised c st emergency).groups,
           waits := s.waits.filter fun e => e.ctx != c }

theorem State.startStep_of_plant (lines : List Supply) (groups : List Roughing) (waits : List WaitEntry) :
    ({ s with lines := lines, groups := groups, waits := waits } : State).startStep c st =
      { s with points := (s.startStep c st).points,
               ctxs := s.ctxs.set c { s.ctx c with marker := false, step := some (st.admitted s.now) },
               lines := lines, groups := groups, waits := waits } := by
  have honly := State.startStep_only { s with lines := lines, groups := groups, waits := waits } c st
  have hpoints := State.startStep_points (s := s) (u := { s with lines := lines, groups := groups, waits := waits }) (c := c) (st := st) rfl rfl
  rw [State.startStep_ctxs, hpoints] at honly
  exact honly

/-- An admission is one update of the points, contexts, lines, groups, wait list and work. -/
theorem State.admitStep_eq : s.admitStep c st emergency =
    { s with points := (s.startStep c st).points,
             ctxs := s.ctxs.set c { s.ctx c with marker := false, step := some (st.admitted s.now) },
             lines := (if st.rampsAtOnce then (s.plantRaised c st emergency).lowerReservations c st
               else s.plantRaised c st emergency).lines,
             groups := (s.plantRaised c st emergency).groups,
             waits := s.waits.filter fun e => e.ctx != c,
             agenda := s.admitWork c st emergency ++ s.agenda } := by
  have hplant : (if emergency then ({ s with waits := s.waits.filter fun e => e.ctx != c } : State)
        else ({ s with waits := s.waits.filter fun e => e.ctx != c } : State).raisePlant c st) =
      { s with lines := (s.plantRaised c st emergency).lines, groups := (s.plantRaised c st emergency).groups,
               waits := s.waits.filter fun e => e.ctx != c } := by
    cases emergency <;> rfl
  unfold State.admitStep
  dsimp only
  rw [hplant, State.startStep_of_plant]
  have hfall : (s.plantRaised c st emergency).wouldFall c st = (s.admitStarted c st emergency).wouldFall c st := rfl
  rw [State.admitWork, State.admitScans, hfall]
  cases hr : st.rampsAtOnce with
  | false =>
    have hz : (!st.step.head.kind.gate && st.step.longestRamp == 0) = false := hr
    rw [hz]
    rfl
  | true =>
    have hz : (!st.step.head.kind.gate && st.step.longestRamp == 0) = true := hr
    rw [hz]
    rfl

/-! ### Lines and groups (R130 stages 2 to 4, R132) -/

theorem Supply.set_reserved (x : Supply) (c : Nat) : x.reservations.set c (x.reserved c) = x.reservations := by
  by_cases hc : c < x.reservations.length
  · simp [Supply.reserved, List.getD_eq_getElem?_getD, hc]
  · exact List.set_eq_of_length_le (Nat.le_of_not_lt hc)

theorem Supply.reserved_set_self (x : Supply) (c a : Nat) :
    ({ x with reservations := x.reservations.set c a }).reserved c = if c < x.reservations.length then a else x.reserved c := by
  simp [Supply.reserved_set]

/-- A reservation that was set and is set again by a function of what was set. -/
theorem Supply.set_set_reserved (x : Supply) (c a d : Nat) :
    (x.reservations.set c a).set c (min (({ x with reservations := x.reservations.set c a } : Supply).reserved c) d) =
      x.reservations.set c (min a d) := by
  rw [Supply.reserved_set_self, List.set_set]
  by_cases hc : c < x.reservations.length
  · rw [if_pos hc]
  · rw [List.set_eq_of_length_le (Nat.le_of_not_lt hc), List.set_eq_of_length_le (Nat.le_of_not_lt hc)]

/-- The reservation of a context on a budget-enabled line once the plant is raised. -/
def StepState.raisedTo (st : StepState) (c l : Nat) (emergency : Bool) (x : Supply) : Nat :=
  if emergency = true then x.reserved c else max (x.reserved c) (st.demandOn l)

theorem State.plantRaised_line {l : Nat} {x : Supply} (hx : s.lines[l]? = some x) : (s.plantRaised c st emergency).lines[l]? =
    some (if x.budget = true then { x with reservations := x.reservations.set c (st.raisedTo c l emergency x) } else x) := by
  cases emergency with
  | true =>
    refine hx.trans (congrArg some ?_)
    rw [StepState.raisedTo, if_pos rfl, Supply.set_reserved, ite_self]
  | false =>
    change (s.setReservations c fun l r => max r (st.demandOn l)).lines[l]? = _
    rw [State.setReservations]
    dsimp only
    rw [getElem?_mapFrom, hx, Option.map_some, Nat.zero_add]
    rfl

theorem State.admitStep_line {l : Nat} {x : Supply} (hx : s.lines[l]? = some x) : (s.admitStep c st emergency).lines[l]? =
    some (if x.budget = true then { x with reservations := x.reservations.set c (if st.rampsAtOnce = true then
      min (st.raisedTo c l emergency x) (st.demandOn l) else st.raisedTo c l emergency x) } else x) := by
  have hraised := State.plantRaised_line (c := c) (st := st) (emergency := emergency) hx
  rw [State.admitStep_eq]
  dsimp only
  cases st.rampsAtOnce with
  | false => exact hraised
  | true =>
    refine (State.line_lowerReservations hraised).trans (congrArg some ?_)
    by_cases hb : x.budget = true
    · simp only [if_pos hb, if_true, Supply.set_set_reserved]
    · simp only [if_neg hb]

theorem State.admitStep_group {g : Nat} {x : Roughing} (hx : s.groups[g]? = some x) : (s.admitStep c st emergency).groups[g]? =
    some (if emergency = true then x else if st.claim = some g then { x with holder := some c }
      else if x.holder = some c then { x with holder := none } else x) := by
  rw [State.admitStep_eq]
  dsimp only
  cases emergency with
  | true => exact hx
  | false =>
    change ((s.setReservations c fun l r => max r (st.demandOn l)).claimGroups c st.claim).groups[g]? = _
    rw [State.claimGroups]
    dsimp only
    rw [getElem?_mapFrom]
    change (s.groups[g]?).map _ = _
    rw [hx, Option.map_some, Nat.zero_add]
    rfl

/-! ### Points (R96 stage 2) -/

theorem State.startStep_points_of_gate (h : st.step.head.kind.gate = true) : (s.startStep c st).points = s.points := by
  unfold State.startStep
  rw [if_pos h]
  rfl

theorem State.startStep_points_of_not_gate (h : st.step.head.kind.gate = false) : (s.startStep c st).points =
    (if st.step.head.zeroOthers then (s.applyItems st.step.sets).zeroOthers c st.step.sets else s.applyItems st.step.sets).points := by
  unfold State.startStep
  rw [if_neg (by rw [h]; exact Bool.false_ne_true)]
  rfl

theorem State.point_congr {u : State} (h : u.points = s.points) (p : Nat) : u.point p = s.point p := by
  rw [State.point, h, State.point]

section
variable {p : Nat} {cfg : PointCfg} {r : SetRec}

theorem State.point_startStep_of_not_set (h : st.step.head.kind.gate = false) (hp : ∀ cfg r, s.point p ≠ .set cfg r) :
    (s.startStep c st).point p = s.point p := by
  rw [State.point_congr (State.startStep_points_of_not_gate h)]
  have hitems := State.point_applyItems_of_not_set (is := st.step.sets) hp
  split
  · rw [State.point_zeroOthers_of_not_set fun cfg r => by rw [hitems]; exact hp cfg r, hitems]
  · exact hitems

/-- ZERO_OTHERS leaves a point that an item names. -/
theorem State.point_startStep_of_named {before after : List SetItem} {i : SetItem} (h : st.step.head.kind.gate = false)
    (hp : s.point p = .set cfg r) (his : st.step.sets = before ++ i :: after) (hi : i.point = p) (hk : ∀ k ∈ before ++ after, k.point ≠ p) :
    (s.startStep c st).point p = .set cfg (r.retarget s.now i.target (i.ramp * 1000)) := by
  rw [State.point_congr (State.startStep_points_of_not_gate h)]
  have hitems := State.point_applyItems_of_named hp his hi hk
  have hnamed : (st.step.sets.any fun i => i.point == p) = true :=
    List.any_eq_true.mpr ⟨i, by rw [his]; simp, beq_iff_eq.mpr hi⟩
  split
  · rw [State.point_zeroOthers_of_set hitems, hnamed, Bool.not_true, Bool.and_false, if_neg Bool.false_ne_true]
  · exact hitems

theorem State.point_startStep_of_unnamed (h : st.step.head.kind.gate = false) (hp : s.point p = .set cfg r)
    (hk : ∀ k ∈ st.step.sets, k.point ≠ p) : (s.startStep c st).point p = .set cfg
      (if st.step.head.zeroOthers = true ∧ cfg.owner = .ctx c ∧ (cfg.quantity = .flow ∨ cfg.quantity = .power) then
        r.retarget s.now 0 0 else r) := by
  rw [State.point_congr (State.startStep_points_of_not_gate h)]
  have hitems := (State.point_applyItems_of_unnamed hk).trans hp
  have hunnamed : (st.step.sets.any fun i => i.point == p) = false := by
    rw [List.any_eq_false]
    exact fun k hks => by simpa using hk k hks
  cases hz : st.step.head.zeroOthers with
  | false => simpa using hitems
  | true =>
    rw [if_pos rfl, State.point_zeroOthers_of_set hitems, hunnamed, State.applyItems_now]
    simp only [← PointCfg.flowOrPower_iff, Bool.not_false, Bool.and_true, Bool.and_eq_true, beq_iff_eq, true_and, and_comm]

end

/-! ### Triggers (R136) -/

theorem State.wouldFall_iff : s.wouldFall c st = true ↔
    ∃ l, l < 12 ∧ (s.line l).budget = true ∧ st.demandOn l < (s.line l).reserved c := by
  rw [State.wouldFall, List.any_eq_true]
  refine exists_congr fun l => and_congr List.mem_range ?_
  rw [Bool.and_eq_true, decide_eq_true_iff]

theorem State.plantRaised_wouldFall : (s.plantRaised c st emergency).wouldFall c st = s.wouldFall c st := by
  cases emergency with
  | true => rfl
  | false =>
    have hline : ∀ l, (s.plantRaised c st false).line l =
        if (s.line l).budget then { s.line l with reservations := (s.line l).reservations.set c (max ((s.line l).reserved c) (st.demandOn l)) }
        else s.line l := State.line_setReservations s c fun l r => max r (st.demandOn l)
    refine Bool.eq_iff_iff.mpr ?_
    rw [State.wouldFall_iff, State.wouldFall_iff]
    refine exists_congr fun l => and_congr_right fun _ => ?_
    rw [hline]
    cases hb : (s.line l).budget with
    | false => simp [hb]
    | true =>
      rw [if_pos rfl, Supply.reserved_set_self]
      refine and_congr (iff_of_true hb rfl) ?_
      split <;> omega

theorem State.wouldReleaseGroup_iff (hlen : s.groups.length = Config.groups) {claim : Option Nat} : s.wouldReleaseGroup c claim = true ↔
    ∃ g, (s.group g).holder = some c ∧ claim ≠ some g := by
  rw [State.wouldReleaseGroup, List.any_eq_true]
  refine exists_congr fun g => ?_
  rw [Bool.and_eq_true, beq_iff_eq, bne_iff_ne, List.mem_range, and_iff_right_iff_imp]
  rintro ⟨hh, -⟩
  by_contra hg
  rw [State.group, List.getD_eq_default _ _ (by omega)] at hh
  cases hh

theorem StepState.rampsAtOnce_iff : st.rampsAtOnce = true ↔ st.step.head.kind.gate = false ∧ st.step.longestRamp = 0 := by
  rw [StepState.rampsAtOnce, Bool.and_eq_true, Bool.not_eq_true', beq_iff_eq]

theorem State.admitScans_iff (hlen : s.groups.length = Config.groups) : s.admitScans c st emergency = true ↔ (∃ e ∈ s.waits, e.ctx = c)
    ∨ (emergency = false ∧ ∃ g, (s.group g).holder = some c ∧ st.claim ≠ some g)
    ∨ ((st.step.head.kind.gate = false ∧ st.step.longestRamp = 0) ∧
      ∃ l, l < 12 ∧ (s.line l).budget = true ∧ st.demandOn l < (s.line l).reserved c)
    ∨ (st.step.head.kind.gate = false ∧ s.bringsZero c st.step.sets st.step.head.zeroOthers = true) := by
  rw [State.admitScans, Bool.or_eq_true, Bool.or_eq_true, Bool.or_eq_true, Bool.and_eq_true, Bool.and_eq_true, Bool.and_eq_true,
    State.plantRaised_wouldFall, State.wouldFall_iff, State.wouldReleaseGroup_iff hlen, StepState.rampsAtOnce_iff, List.any_eq_true,
    Bool.not_eq_true', Bool.not_eq_true', or_assoc, or_assoc]
  simp only [beq_iff_eq]

end
end Sys2Proof.Machine
end

section
/-!
A step's admission: the wait list, the arbiter's tests and the start of the step (R94 to R98, R124 to R136).
-/
namespace Sys2Proof.Machine

/-- Settles O35: ADMIT, admission, presentation and scan are each one update, and the arbiter's tests are those of R125 to R129. -/
theorem admissionRaisesReservations : Obligations.AdmissionRaisesReservations := by
  refine ⟨?_, ?_, ?_, ?_, ?_, fun s c st => ?_, fun s w c st => State.blocks_iff, ?_, ?_⟩
  · intro s c h credit st hsize hc ha hs hk moves
    refine ⟨s.admitState c st credit, State.takeUp_of_timed hs ha hk (by rw [State.length_ctxs_of_sized hsize]; exact hc),
      rfl, rfl, rfl, rfl, rfl, rfl, rfl, rfl, rfl, rfl, rfl, rfl, State.prospective_pairwise, fun p v => ?_, fun l => State.demandOn_admitState,
      fun l p => State.onLine_iff⟩
    refine State.mem_prospective.trans (exists_congr fun cfg => exists_congr fun r => and_congr_right fun _ => and_congr_right fun _ => ?_)
    exact Step.targetOf_iff
  · intro s c st emergency hsize hc hs hd sets moves ramped t
    have hlen : c < s.ctxs.length := by rw [State.length_ctxs_of_sized hsize]; exact hc
    have heq : t = _ := State.admitStep_eq
    have hpoint : ∀ p, t.point p = (s.startStep c st).point p := State.point_congr (by rw [heq])
    refine ⟨fun l x hx => ?_, fun g x => State.admitStep_group, by rw [heq], ?_, fun hm => ?_, fun hm => ⟨fun p hp => ?_, fun p cfg r hp =>
      ⟨fun before i after his hi hk => ?_, fun hk => ?_⟩⟩, ⟨s.admitScans c st emergency, ?_, ?_⟩, fun d hd => ?_, ?_⟩
    · refine (State.admitStep_line hx).trans ?_
      simp only [StepState.rampsAtOnce_iff]
      rfl
    · rw [heq]
      exact State.ctx_setCtx_self _ _ _ hlen
    · rw [heq]
      exact State.startStep_points_of_gate (by simpa [moves] using hm)
    · rw [hpoint]; exact State.point_startStep_of_not_set hm hp
    · rw [hpoint]; exact State.point_startStep_of_named hm hp his hi hk
    · rw [hpoint]; exact State.point_startStep_of_unnamed hm hp hk
    · rw [heq]
      simp only [State.admitWork]
      rfl
    · exact State.admitScans_iff (State.length_groups hsize)
    · rw [heq]
      exact State.ctx_setCtx_of_ne _ _ hd.symm
    · rw [heq]
  · intro st now hd sets longest ms watched a
    have hwatched : watched ↔ st.step.head.kind.conditioned = true := StepKind.conditioned_iff.symm
    refine ⟨fun x => Step.ramp_le_longestRamp, Step.exists_ramp_eq_longestRamp, rfl, rfl, rfl, rfl, rfl, rfl, rfl, rfl, rfl, rfl, fun hw => ?_,
      fun hw => StepState.admitted_of_not_conditioned fun h => hw (hwatched.mpr h), StepState.admitted_of_ror, fun hk => if_neg hk,
      StepState.admitted_of_gate⟩
    obtain ⟨hphase, hmax, hstrike, hstate, hconds, hbands⟩ := StepState.admitted_of_conditioned (now := now) (hwatched.mp hw)
    refine ⟨hphase, hmax, hstrike, hstate, hconds, ?_, fun i b hb => ?_⟩
    · rw [hbands, List.length_map]
    · obtain ⟨low, high, hlimits, habs, hrel⟩ := bandAt_limits st.step.sets b
      refine ⟨low, high, ?_, habs, hrel⟩
      rw [hbands, List.getElem?_map, hb, Option.map_some, hlimits]
  · intro s c st hc hs hp hk due new b
    have hend := State.admitEnd_of_conditioned hs hp (StepKind.conditioned_iff.mpr hk)
    refine ⟨fun hn => hend.trans (if_pos (List.isEmpty_iff.mpr hn)), fun hn hno => ?_, fun hdue => ?_⟩
    · rw [hend, if_neg (mt List.isEmpty_iff.mp hn), if_neg fun hany => ?_]
      obtain ⟨k, hkc, hkd⟩ := List.any_eq_true.mp hany
      exact hno k hkc hkd
    · obtain ⟨k, hkc, hkd⟩ := hdue
      rw [hend, if_neg fun he => List.ne_nil_of_mem hkc (List.isEmpty_iff.mp he), if_pos (List.any_eq_true.mpr ⟨k, hkc, hkd⟩)]
      exact ⟨fun i hi => State.evaluateEnd_of_some hs st hi, fun hi => State.evaluateEnd_of_none hs st hi⟩
  · intro s c st hsize hc x cls priority others ahead passes timer entry t
    refine ⟨State.present_of_emergency, State.present_of_passes, fun he hp => ?_⟩
    have heq : t = _ := State.present_of_not_passes he hp
    refine ⟨by rw [heq]; rfl, ?_, by rw [heq]; rfl, by rw [heq]; rfl⟩
    rw [heq]
    exact State.counter_count_of_counters rfl (by rw [State.length_counters hsize]; omega)
  · rw [State.needsMet_iff, State.closedMet_iff, State.openMet_iff]
  · intro s left front behind e st hw hb hf hs passes
    have hscan := State.scanOn_of_next (State.scanNext_eq_some s left front behind e hw hb hf) hs
    refine ⟨fun h => hscan.trans (if_pos ?_), fun h => hscan.trans (if_neg ?_)⟩
    · rw [Bool.and_eq_true, not_any_iff]; exact h
    · rw [Bool.and_eq_true, not_any_iff]; exact h
  · intro s left
    refine ⟨fun h => ?_, fun h => if_pos h, fun h => if_neg (by rw [h]; exact Bool.false_ne_true)⟩
    have hscan := State.scanOn_of_end ((State.scanNext_eq_none s left).mpr h)
    exact ⟨fun ha => hscan.trans (if_pos ha), fun ha => hscan.trans (if_neg (by rw [ha]; exact Bool.false_ne_true))⟩

end Sys2Proof.Machine
end
